-- ==== Sys2Proof/Word.lean ====
section
/-! DEFINITION. The word types of the ZX4400 and the sizes the spec fixes (R2, R4, R28).
Bit-field, sign-extension and byte-order helpers are in `Sys2Proof.Machine.Bits`. -/

namespace Sys2Proof

/-- A 64-bit scalar register's pattern (R28). -/
abbrev Word := BitVec 64

/-- A vector register's pattern: VWIDTH = 2048 bits in this implementation (R2, R28). -/
abbrev VWord := BitVec 2048

/-- A predicate register: one bit per byte lane, VWIDTH/8 bits (R28). -/
abbrev PWord := BitVec 256

/-- One byte of memory. -/
abbrev Byte := BitVec 8

/-- A 10-bit cause code: class [9:6], source [5:3], detail [2:0] (R5, R397). -/
abbrev Cause := BitVec 10

/-- VWIDTH in bytes. -/
abbrev vbytes : Nat := 256

/-- The code with these class, source and detail fields (R397). -/
def causeOf (cls src det : Nat) : Cause := BitVec.ofNat 10 (cls * 64 + src * 8 + det)

end Sys2Proof
end

