-- ==== Sys2Proof/Syntax.lean ====
section
/-! DEFINITION. The instruction set and the events of the part: the ONE inductive `Instr`, one
constructor per row of spec/opcode_table.json. The first 271 constructors are the Botil instructions
(R45 to R64); the others are the events that other agents of the part make happen, whose arguments are
the choices that the spec leaves to those agents or to the outside world. -/

namespace Sys2Proof

/-- A 5-bit scalar field (R29): x0 to x15, y0 to y15. -/
inductive SReg where
  | x (i : Fin 16)
  | y (i : Fin 16)
  deriving DecidableEq, Repr

/-- A 5-bit vector field (R29): v0 to v15, w0 to w7, q0 to q7. -/
inductive VReg where
  | v (i : Fin 16)
  | w (i : Fin 8)
  | q (i : Fin 8)
  deriving DecidableEq, Repr

/-- A 3-bit predicate field (R29). -/
abbrev PReg := Fin 8

/-- The element types of Form V's ty field (R60). -/
inductive ETy where
  | i8 | i16 | i32 | i64 | bf16 | f32
  deriving DecidableEq, Repr

/-- The integer element types, ty 0 to 3. -/
inductive ITy where
  | i8 | i16 | i32 | i64
  deriving DecidableEq, Repr

/-- The floating element types, ty 4 and 5. -/
inductive FTy where
  | bf16 | f32
  deriving DecidableEq, Repr

/-- Access sizes of ST, LDL and STL, sz 0 to 3 (R68). -/
inductive Size where
  | b | h | w | d
  deriving DecidableEq, Repr

/-- The sz codes of LD (R68): the unsigned sizes too. -/
inductive LdSize where
  | b | h | w | d | bu | hu | wu
  deriving DecidableEq, Repr

/-- The five phase scopes (R58, R197). -/
inductive Scope where
  | station | die | package | ring | system
  deriving DecidableEq, Repr

/-- The rounding modes of MODE.RM and of an explicit selector (R61, R82). -/
inductive RM where
  | rne | rtz | rdn | rup
  deriving DecidableEq, Repr

/-- The rounding selector of major 0x25 (R61): fn[3] and vb[1:0]. -/
inductive RSel where
  | mode            -- fn[3] = 0, vb[1:0] = 0: MODE.RM and MODE.SR
  | sr              -- fn[3] = 0, vb[1:0] = 1: stochastic
  | explicit (m : RM)
  deriving DecidableEq, Repr

/-- The pair-scaled formats (R86). -/
inductive PsFmt where
  | ps3 | ps5 | ps8
  deriving DecidableEq, Repr

/-- VDQ's source formats (R61). -/
inductive DqFmt where
  | ps3 | ps5 | ps8 | mx
  deriving DecidableEq, Repr

/-- VSFU's functions (R60). -/
inductive SfuFn where
  | exp2 | log2 | rcp | rsqrt | sin | cos | tanh | erf
  deriving DecidableEq, Repr

/-- VRED's operations (R60). -/
inductive RedOp where
  | add | min | max | minu | maxu | and | or | xor | fadd | fmin | fmax
  deriving DecidableEq, Repr

/-- MDRAIN's formats (R171). -/
inductive DrainFmt where
  | a64 | i32 | f32 | bf16
  deriving DecidableEq, Repr

/-- The completion actions of MDRAIN and the copy instructions (R171, R238). -/
inductive Compl where
  | none | pub | msg
  deriving DecidableEq, Repr

/-- The state that a die shares (R403, R405): a slice's home directory, the DTU, a proof table. -/
inductive DieUnit where
  | directory | dtu | proofs
  deriving DecidableEq, Repr

/-- Where an uncorrectable error lies (R405): `clean` for a slice's copy of a line that LP6 holds as well, `vector` for the vector and
predicate files of a slot. -/
inductive ErrPlace where
  | cleanCopy (station line : Nat)
  | dirtyByte (station line : Nat)
  | sliceData (key : Nat) (clean : Bool)
  | lp6Data (key : Nat)
  | slotState (slot : Nat) (vector : Bool)
  | matrixState (station : Nat)
  | copyState (station : Nat)
  | dieState (die : Nat) (unit : DieUnit)
  deriving DecidableEq, Repr

/-- The CXL.cache request classes of the coherent port (R373). -/
inductive GuestClass where
  | rdCurr | rdShared | rdOwn | rdOwnNoData | itoMWr | wrCur | dirtyEvict | cleanEvict
  | cleanEvictNoData | cacheFlushed | other
  deriving DecidableEq, Repr

/-- A guest queue that the front end creates with a context (R265): its number, where its descriptor stands in die 0's LP6, the
address of slot 0, and LOG2CAP. -/
structure GuestQueue where
  gqn : Nat
  pa : Nat
  base : BitVec 64
  log2cap : Nat
  deriving DecidableEq, Repr

/-- The answers of the guest's cache to a snoop (R213, R373). -/
inductive SnoopReply where
  | noData
  | data (line : BitVec 512)
  deriving DecidableEq, Repr

/-- How a non-posted read to the PCIe link ended (R246). -/
inductive CplStatus where
  | success | unsupported | aborted | poisoned
  deriving DecidableEq, Repr

/-- A link that can fail or retrain (R406): a mesh link of a die; the link between two edge-neighbour dies (R11), with the
die that sends first; a String port, the east one of die 1 or the west one of die 2 (R15); and the Capo link of die 0. -/
inductive Link where
  | mesh (die n : Nat) | dieLink (src dst : Nat) | string (east : Bool) | capo
  deriving DecidableEq, Repr

/-- What a scrub of a slice found (R405, R415): the slice's station, and the number of corrections of each SRAM row that needed
any. -/
structure ScrubResult where
  station : Nat
  rows : List Nat
  deriving DecidableEq, Repr

/-- What a station's self-test found (R415, R416): whether it passed, the SRAM rows of its slice that failed it, and whether the
tests of its slice passed. -/
structure TestResult where
  pass : Bool
  rows : Nat
  slice : Bool
  deriving DecidableEq, Repr

/-- What the boot finds (R438): whether the clocks and fuses of step 1 come up, whether the signatures of step 2 verify, and of the
self-tests of step 3 the stations that fail, the SRAM rows that fail in a station's slice, and the stations whose slice fails. -/
structure BootCheck where
  clocks : Bool
  table : Bool
  failed : List Nat
  rows : List (Nat × Nat)
  slices : List Nat
  deriving DecidableEq, Repr

/-- The attributes of an inbound posted write (R211, R406, R430): Relaxed Ordering, the poisoned attribute, and whether it would need
ATS, PRI, PASID or MSI. -/
structure WriteTlp where
  relaxed : Bool := false
  poisoned : Bool := false
  unsupported : Bool := false
  deriving DecidableEq, Repr

/-- The length of an inbound read, and whether it would need ATS, PRI or PASID (R430). -/
structure ReadTlp where
  bytes : Nat
  unsupported : Bool := false
  deriving DecidableEq, Repr

/-- A reading of the thermal role (R441): a station's sensor in degrees, or the package's power in watts. -/
inductive Reading where
  | celsius (t : Nat)
  | watts (w : Nat)
  deriving DecidableEq, Repr

/-- What a package asks of a home in another one (R214, R258): a write of the masked bytes of one line, `merge` for a line of a
write set; a line for L1, n bytes within a page, an instruction line, or the kind of a page; a far atomic; a bank operation; an
operation on a proof, `check` being PRARM's; `withdraw`, which gives up the wait or take that the same station sent under the
number `a`; and `dtu`, a DTINV or DTQRY. -/
inductive FlitOp where
  | write (merge : Bool)
  | fill (prefetch : Bool) | read (n : Nat) | fetch | kindQuery
  | atomic (op : Fin 16) (dbl : Bool)
  | lrw | sch | rrel
  | enq (nw : Bool) | deq (nw : Bool)
  | publish | wait | take | test | readGen | advance | check
  | armWait | armTake
  | withdraw
  | gridEnd (faulted : Bool)
  | dtu
  deriving DecidableEq, Repr

/-- A request that crosses the String: the ring position and station that send it, the number the sender knows it by, the
strand, context, world and grid it acts for, the operation, the GVA or handle and the operands, the bytes of a write, and its
poison bit (R406). -/
structure FlitReq where
  pkg : Nat
  station : Nat
  id : Nat
  tag : Nat := 0
  ctx : Nat
  world : Bool
  grid : Nat := 0
  op : FlitOp
  gva : Word
  a : Word := 0
  b : Word := 0
  mask : BitVec 64 := 0
  data : BitVec 512 := 0
  poisoned : Bool := false
  deriving DecidableEq, Repr

/-- What a String flit from another package carries (R214): a request, or the answer to one sent there, with a fault code, 0
for none, and what else the home says: a line's page kind (R212); 1 when Sat64 clamped a far atomic's sum (R224); of an ENQ, 1 when
a guest queue took its packet, whose completion a second answer tells, and 2 or 3 while it waits at a queue of the device or of
the guest (R206). -/
inductive Flit where
  | request (r : FlitReq)
  | reply (req : Nat) (data : BitVec 2048) (code : Cause) (kind : Fin 4)
  deriving DecidableEq, Repr

/-- A PCIe configuration request (R438). -/
inductive CfgReq where
  | read (func off : Nat)
  | write (func off : Nat) (value : BitVec 32)
  deriving DecidableEq, Repr

/-- One step of the part: an instruction word of Botil 1.0 or an event (opcode_table.json). Each
constructor is one row; its docstring names the row and the rule. -/
inductive Instr where
  /-- ADD (R107). -/
  | add (d a b : SReg) (e : Bool)
  /-- SUB (R107). -/
  | sub (d a b : SReg) (e : Bool)
  /-- AND (R107). -/
  | and (d a b : SReg) (e : Bool)
  /-- OR (R107). -/
  | or (d a b : SReg) (e : Bool)
  /-- XOR (R107). -/
  | xor (d a b : SReg) (e : Bool)
  /-- SLL (R107). -/
  | sll (d a b : SReg) (e : Bool)
  /-- SRL (R107). -/
  | srl (d a b : SReg) (e : Bool)
  /-- SRA (R107). -/
  | sra (d a b : SReg) (e : Bool)
  /-- SLT (R107). -/
  | slt (d a b : SReg) (e : Bool)
  /-- SLTU (R107). -/
  | sltu (d a b : SReg) (e : Bool)
  /-- MIN (R107). -/
  | min (d a b : SReg) (e : Bool)
  /-- MAX (R107). -/
  | max (d a b : SReg) (e : Bool)
  /-- MINU (R107). -/
  | minu (d a b : SReg) (e : Bool)
  /-- MAXU (R107). -/
  | maxu (d a b : SReg) (e : Bool)
  /-- CLZ (R107). -/
  | clz (d a : SReg) (e : Bool)
  /-- CTZ (R107). -/
  | ctz (d a : SReg) (e : Bool)
  /-- POPC (R107). -/
  | popc (d a : SReg) (e : Bool)
  /-- SEXT_B (R107). -/
  | sextB (d a : SReg) (e : Bool)
  /-- SEXT_H (R107). -/
  | sextH (d a : SReg) (e : Bool)
  /-- SEXT_W (R107). -/
  | sextW (d a : SReg) (e : Bool)
  /-- ZEXT_B (R107). -/
  | zextB (d a : SReg) (e : Bool)
  /-- ZEXT_H (R107). -/
  | zextH (d a : SReg) (e : Bool)
  /-- ZEXT_W (R107). -/
  | zextW (d a : SReg) (e : Bool)
  /-- SEL (R108). -/
  | sel (d a b : SReg) (e : Bool)
  /-- ADD_W (R109). -/
  | addW (d a b : SReg) (e : Bool)
  /-- SUB_W (R109). -/
  | subW (d a b : SReg) (e : Bool)
  /-- AND_W (R109). -/
  | andW (d a b : SReg) (e : Bool)
  /-- OR_W (R109). -/
  | orW (d a b : SReg) (e : Bool)
  /-- XOR_W (R109). -/
  | xorW (d a b : SReg) (e : Bool)
  /-- SLL_W (R109). -/
  | sllW (d a b : SReg) (e : Bool)
  /-- SRL_W (R109). -/
  | srlW (d a b : SReg) (e : Bool)
  /-- SRA_W (R109). -/
  | sraW (d a b : SReg) (e : Bool)
  /-- SLT_W (R109). -/
  | sltW (d a b : SReg) (e : Bool)
  /-- SLTU_W (R109). -/
  | sltuW (d a b : SReg) (e : Bool)
  /-- MIN_W (R109). -/
  | minW (d a b : SReg) (e : Bool)
  /-- MAX_W (R109). -/
  | maxW (d a b : SReg) (e : Bool)
  /-- MINU_W (R109). -/
  | minuW (d a b : SReg) (e : Bool)
  /-- MAXU_W (R109). -/
  | maxuW (d a b : SReg) (e : Bool)
  /-- CLZ_W (R109). -/
  | clzW (d a : SReg) (e : Bool)
  /-- CTZ_W (R109). -/
  | ctzW (d a : SReg) (e : Bool)
  /-- POPC_W (R109). -/
  | popcW (d a : SReg) (e : Bool)
  /-- MUL (R110). -/
  | mul (d a b : SReg) (e : Bool)
  /-- MULH (R110). -/
  | mulh (d a b : SReg) (e : Bool)
  /-- MULHU (R110). -/
  | mulhu (d a b : SReg) (e : Bool)
  /-- DIV (R110). -/
  | div (d a b : SReg) (e : Bool)
  /-- DIVU (R110). -/
  | divu (d a b : SReg) (e : Bool)
  /-- REM (R110). -/
  | rem (d a b : SReg) (e : Bool)
  /-- REMU (R110). -/
  | remu (d a b : SReg) (e : Bool)
  /-- MUL_W (R110). -/
  | mulW (d a b : SReg) (e : Bool)
  /-- MULH_W (R110). -/
  | mulhW (d a b : SReg) (e : Bool)
  /-- MULHU_W (R110). -/
  | mulhuW (d a b : SReg) (e : Bool)
  /-- DIV_W (R110). -/
  | divW (d a b : SReg) (e : Bool)
  /-- DIVU_W (R110). -/
  | divuW (d a b : SReg) (e : Bool)
  /-- REM_W (R110). -/
  | remW (d a b : SReg) (e : Bool)
  /-- REMU_W (R110). -/
  | remuW (d a b : SReg) (e : Bool)
  /-- ADDI (R111). -/
  | addi (d a : SReg) (imm : BitVec 15) (e : Bool)
  /-- ANDI (R111). -/
  | andi (d a : SReg) (imm : BitVec 15) (e : Bool)
  /-- ORI (R111). -/
  | ori (d a : SReg) (imm : BitVec 15) (e : Bool)
  /-- XORI (R111). -/
  | xori (d a : SReg) (imm : BitVec 15) (e : Bool)
  /-- SLTI (R111). -/
  | slti (d a : SReg) (imm : BitVec 15) (e : Bool)
  /-- SLTIU (R111). -/
  | sltiu (d a : SReg) (imm : BitVec 15) (e : Bool)
  /-- SLLI (R112). -/
  | slli (d a : SReg) (sh : BitVec 6) (e : Bool)
  /-- SRLI (R112). -/
  | srli (d a : SReg) (sh : BitVec 6) (e : Bool)
  /-- SRAI (R112). -/
  | srai (d a : SReg) (sh : BitVec 6) (e : Bool)
  /-- SLLI_W (R112). -/
  | slliW (d a : SReg) (sh : BitVec 5) (e : Bool)
  /-- SRLI_W (R112). -/
  | srliW (d a : SReg) (sh : BitVec 5) (e : Bool)
  /-- SRAI_W (R112). -/
  | sraiW (d a : SReg) (sh : BitVec 5) (e : Bool)
  /-- LUI (R113). -/
  | lui (d : SReg) (imm : BitVec 20) (e : Bool)
  /-- AUIPC (R113). -/
  | auipc (d : SReg) (imm : BitVec 20) (e : Bool)
  /-- BEQ (R114). -/
  | beq (a b : SReg) (off : BitVec 15) (e : Bool)
  /-- BNE (R114). -/
  | bne (a b : SReg) (off : BitVec 15) (e : Bool)
  /-- BLT (R114). -/
  | blt (a b : SReg) (off : BitVec 15) (e : Bool)
  /-- BGE (R114). -/
  | bge (a b : SReg) (off : BitVec 15) (e : Bool)
  /-- BLTU (R114). -/
  | bltu (a b : SReg) (off : BitVec 15) (e : Bool)
  /-- BGEU (R114). -/
  | bgeu (a b : SReg) (off : BitVec 15) (e : Bool)
  /-- JAL (R116). -/
  | jal (d : SReg) (off : BitVec 21)
  /-- JALR (R117). -/
  | jalr (d a : SReg) (imm : BitVec 15) (e : Bool)
  /-- BPRED_ANY (R115). -/
  | bpredAny (p : PReg) (off : BitVec 15) (e : Bool)
  /-- BPRED_ALL (R115). -/
  | bpredAll (p : PReg) (off : BitVec 15) (e : Bool)
  /-- BPRED_NONE (R115). -/
  | bpredNone (p : PReg) (off : BitVec 15) (e : Bool)
  /-- BPRED_NALL (R115). -/
  | bpredNall (p : PReg) (off : BitVec 15) (e : Bool)
  /-- LD (R120). -/
  | ld (sz : LdSize) (d a : SReg) (imm : BitVec 12) (e : Bool)
  /-- ST (R121). -/
  | st (sz : Size) (d a : SReg) (imm : BitVec 12) (e : Bool)
  /-- LDL (R124). -/
  | ldl (sz : Size) (d a : SReg) (imm : BitVec 12) (e : Bool)
  /-- STL (R124). -/
  | stl (sz : Size) (d a : SReg) (imm : BitVec 12) (e : Bool)
  /-- PHASE_R (R198). -/
  | phaseR (sc : Scope) (e : Bool)
  /-- PHASE_A (R199). -/
  | phaseA (sc : Scope) (e : Bool)
  /-- PHASE_RA (R199). -/
  | phaseRa (sc : Scope) (e : Bool)
  /-- QFENCE (R206). -/
  | qfence (m : BitVec 4) (e : Bool)
  /-- FENCEI (R220). -/
  | fencei (e : Bool)
  /-- PREF_L1 (R221). -/
  | prefL1 (a : SReg) (e : Bool)
  /-- PREF_HOME (R221). -/
  | prefHome (a : SReg) (e : Bool)
  /-- AMOADD (R222). -/
  | amoadd (dbl : Bool) (d a b : SReg) (e : Bool)
  /-- AMOAND (R222). -/
  | amoand (dbl : Bool) (d a b : SReg) (e : Bool)
  /-- AMOOR (R222). -/
  | amoor (dbl : Bool) (d a b : SReg) (e : Bool)
  /-- AMOXOR (R222). -/
  | amoxor (dbl : Bool) (d a b : SReg) (e : Bool)
  /-- AMOMIN (R222). -/
  | amomin (dbl : Bool) (d a b : SReg) (e : Bool)
  /-- AMOMAX (R222). -/
  | amomax (dbl : Bool) (d a b : SReg) (e : Bool)
  /-- AMOMINU (R222). -/
  | amominu (dbl : Bool) (d a b : SReg) (e : Bool)
  /-- AMOMAXU (R222). -/
  | amomaxu (dbl : Bool) (d a b : SReg) (e : Bool)
  /-- AMOSWAP (R222). -/
  | amoswap (dbl : Bool) (d a b : SReg) (e : Bool)
  /-- AMOCAS (R222). -/
  | amocas (dbl : Bool) (d a b : SReg) (e : Bool)
  /-- AMOFADD32 (R223). -/
  | amofadd32 (d a b : SReg) (e : Bool)
  /-- AMOFXADD (R224). -/
  | amofxadd (d a b : SReg) (e : Bool)
  /-- LRW (R226). -/
  | lrw (d a : SReg) (e : Bool)
  /-- SCH (R226). -/
  | sch (a b : SReg) (e : Bool)
  /-- RREL (R226). -/
  | rrel (a : SReg) (e : Bool)
  /-- ENQ (R229). -/
  | enq (d a : SReg) (b : VReg) (e : Bool)
  /-- DEQ (R229). -/
  | deq (d : VReg) (a : SReg) (e : Bool)
  /-- ENQ_NW (R229). -/
  | enqNw (d a : SReg) (b : VReg) (e : Bool)
  /-- DEQ_NW (R229). -/
  | deqNw (d : VReg) (a : SReg) (e : Bool)
  /-- PRPUB (R261). -/
  | prpub (a b : SReg) (e : Bool)
  /-- PRWAIT (R262). -/
  | prwait (a : SReg) (e : Bool)
  /-- PRTEST (R262). -/
  | prtest (d a : SReg) (e : Bool)
  /-- PRTAKE (R262). -/
  | prtake (d a : SReg) (e : Bool)
  /-- PRGEN (R263). -/
  | prgen (d a b : SReg) (e : Bool)
  /-- PRARM (R264). -/
  | prarm (d a b : SReg) (e : Bool)
  /-- VADD (R133). -/
  | vadd (ty : ITy) (vd va vb : VReg) (pg : PReg) (e : Bool)
  /-- VSUB (R133). -/
  | vsub (ty : ITy) (vd va vb : VReg) (pg : PReg) (e : Bool)
  /-- VMUL (R133). -/
  | vmul (ty : ITy) (vd va vb : VReg) (pg : PReg) (e : Bool)
  /-- VMULH (R133). -/
  | vmulh (ty : ITy) (vd va vb : VReg) (pg : PReg) (e : Bool)
  /-- VMAD (R133). -/
  | vmad (ty : ITy) (vd va vb : VReg) (pg : PReg) (e : Bool)
  /-- VMIN (R133). -/
  | vmin (ty : ITy) (vd va vb : VReg) (pg : PReg) (e : Bool)
  /-- VMAX (R133). -/
  | vmax (ty : ITy) (vd va vb : VReg) (pg : PReg) (e : Bool)
  /-- VAND (R133). -/
  | vand (ty : ITy) (vd va vb : VReg) (pg : PReg) (e : Bool)
  /-- VOR (R133). -/
  | vor (ty : ITy) (vd va vb : VReg) (pg : PReg) (e : Bool)
  /-- VXOR (R133). -/
  | vxor (ty : ITy) (vd va vb : VReg) (pg : PReg) (e : Bool)
  /-- VSLL (R133). -/
  | vsll (ty : ITy) (vd va vb : VReg) (pg : PReg) (e : Bool)
  /-- VSRL (R133). -/
  | vsrl (ty : ITy) (vd va vb : VReg) (pg : PReg) (e : Bool)
  /-- VSRA (R133). -/
  | vsra (ty : ITy) (vd va vb : VReg) (pg : PReg) (e : Bool)
  /-- VABS (R133). -/
  | vabs (ty : ITy) (vd va : VReg) (pg : PReg) (e : Bool)
  /-- VNEG (R133). -/
  | vneg (ty : ITy) (vd va : VReg) (pg : PReg) (e : Bool)
  /-- VADD_VS (R133). -/
  | vaddVs (ty : ITy) (vd va : VReg) (b : SReg) (pg : PReg) (e : Bool)
  /-- VSUB_VS (R133). -/
  | vsubVs (ty : ITy) (vd va : VReg) (b : SReg) (pg : PReg) (e : Bool)
  /-- VMUL_VS (R133). -/
  | vmulVs (ty : ITy) (vd va : VReg) (b : SReg) (pg : PReg) (e : Bool)
  /-- VMULH_VS (R133). -/
  | vmulhVs (ty : ITy) (vd va : VReg) (b : SReg) (pg : PReg) (e : Bool)
  /-- VMAD_VS (R133). -/
  | vmadVs (ty : ITy) (vd va : VReg) (b : SReg) (pg : PReg) (e : Bool)
  /-- VMIN_VS (R133). -/
  | vminVs (ty : ITy) (vd va : VReg) (b : SReg) (pg : PReg) (e : Bool)
  /-- VMAX_VS (R133). -/
  | vmaxVs (ty : ITy) (vd va : VReg) (b : SReg) (pg : PReg) (e : Bool)
  /-- VAND_VS (R133). -/
  | vandVs (ty : ITy) (vd va : VReg) (b : SReg) (pg : PReg) (e : Bool)
  /-- VOR_VS (R133). -/
  | vorVs (ty : ITy) (vd va : VReg) (b : SReg) (pg : PReg) (e : Bool)
  /-- VXOR_VS (R133). -/
  | vxorVs (ty : ITy) (vd va : VReg) (b : SReg) (pg : PReg) (e : Bool)
  /-- VSLL_VS (R133). -/
  | vsllVs (ty : ITy) (vd va : VReg) (b : SReg) (pg : PReg) (e : Bool)
  /-- VSRL_VS (R133). -/
  | vsrlVs (ty : ITy) (vd va : VReg) (b : SReg) (pg : PReg) (e : Bool)
  /-- VSRA_VS (R133). -/
  | vsraVs (ty : ITy) (vd va : VReg) (b : SReg) (pg : PReg) (e : Bool)
  /-- VADD_VI (R133). -/
  | vaddVi (ty : ITy) (vd va : VReg) (imm : BitVec 5) (pg : PReg) (e : Bool)
  /-- VSUB_VI (R133). -/
  | vsubVi (ty : ITy) (vd va : VReg) (imm : BitVec 5) (pg : PReg) (e : Bool)
  /-- VMUL_VI (R133). -/
  | vmulVi (ty : ITy) (vd va : VReg) (imm : BitVec 5) (pg : PReg) (e : Bool)
  /-- VMULH_VI (R133). -/
  | vmulhVi (ty : ITy) (vd va : VReg) (imm : BitVec 5) (pg : PReg) (e : Bool)
  /-- VMAD_VI (R133). -/
  | vmadVi (ty : ITy) (vd va : VReg) (imm : BitVec 5) (pg : PReg) (e : Bool)
  /-- VMIN_VI (R133). -/
  | vminVi (ty : ITy) (vd va : VReg) (imm : BitVec 5) (pg : PReg) (e : Bool)
  /-- VMAX_VI (R133). -/
  | vmaxVi (ty : ITy) (vd va : VReg) (imm : BitVec 5) (pg : PReg) (e : Bool)
  /-- VAND_VI (R133). -/
  | vandVi (ty : ITy) (vd va : VReg) (imm : BitVec 5) (pg : PReg) (e : Bool)
  /-- VOR_VI (R133). -/
  | vorVi (ty : ITy) (vd va : VReg) (imm : BitVec 5) (pg : PReg) (e : Bool)
  /-- VXOR_VI (R133). -/
  | vxorVi (ty : ITy) (vd va : VReg) (imm : BitVec 5) (pg : PReg) (e : Bool)
  /-- VSLL_VI (R133). -/
  | vsllVi (ty : ITy) (vd va : VReg) (imm : BitVec 5) (pg : PReg) (e : Bool)
  /-- VSRL_VI (R133). -/
  | vsrlVi (ty : ITy) (vd va : VReg) (imm : BitVec 5) (pg : PReg) (e : Bool)
  /-- VSRA_VI (R133). -/
  | vsraVi (ty : ITy) (vd va : VReg) (imm : BitVec 5) (pg : PReg) (e : Bool)
  /-- FADD (R134). -/
  | fadd (ty : FTy) (vd va vb : VReg) (pg : PReg) (e : Bool)
  /-- FSUB (R134). -/
  | fsub (ty : FTy) (vd va vb : VReg) (pg : PReg) (e : Bool)
  /-- FMUL (R134). -/
  | fmul (ty : FTy) (vd va vb : VReg) (pg : PReg) (e : Bool)
  /-- FMA (R134). -/
  | fma (ty : FTy) (vd va vb : VReg) (pg : PReg) (e : Bool)
  /-- FMIN (R134). -/
  | fmin (ty : FTy) (vd va vb : VReg) (pg : PReg) (e : Bool)
  /-- FMAX (R134). -/
  | fmax (ty : FTy) (vd va vb : VReg) (pg : PReg) (e : Bool)
  /-- FABS (R134). -/
  | fabs (ty : FTy) (vd va : VReg) (pg : PReg) (e : Bool)
  /-- FNEG (R134). -/
  | fneg (ty : FTy) (vd va : VReg) (pg : PReg) (e : Bool)
  /-- FADD_VS (R134). -/
  | faddVs (ty : FTy) (vd va : VReg) (b : SReg) (pg : PReg) (e : Bool)
  /-- FSUB_VS (R134). -/
  | fsubVs (ty : FTy) (vd va : VReg) (b : SReg) (pg : PReg) (e : Bool)
  /-- FMUL_VS (R134). -/
  | fmulVs (ty : FTy) (vd va : VReg) (b : SReg) (pg : PReg) (e : Bool)
  /-- FMA_VS (R134). -/
  | fmaVs (ty : FTy) (vd va : VReg) (b : SReg) (pg : PReg) (e : Bool)
  /-- FMIN_VS (R134). -/
  | fminVs (ty : FTy) (vd va : VReg) (b : SReg) (pg : PReg) (e : Bool)
  /-- FMAX_VS (R134). -/
  | fmaxVs (ty : FTy) (vd va : VReg) (b : SReg) (pg : PReg) (e : Bool)
  /-- VCMP_EQ (R135). -/
  | vcmpEq (ty : ITy) (pd : PReg) (va vb : VReg) (pg : PReg) (e : Bool)
  /-- VCMP_NE (R135). -/
  | vcmpNe (ty : ITy) (pd : PReg) (va vb : VReg) (pg : PReg) (e : Bool)
  /-- VCMP_LT (R135). -/
  | vcmpLt (ty : ITy) (pd : PReg) (va vb : VReg) (pg : PReg) (e : Bool)
  /-- VCMP_LE (R135). -/
  | vcmpLe (ty : ITy) (pd : PReg) (va vb : VReg) (pg : PReg) (e : Bool)
  /-- VCMP_LTU (R135). -/
  | vcmpLtu (ty : ITy) (pd : PReg) (va vb : VReg) (pg : PReg) (e : Bool)
  /-- VCMP_LEU (R135). -/
  | vcmpLeu (ty : ITy) (pd : PReg) (va vb : VReg) (pg : PReg) (e : Bool)
  /-- FCMP_EQ (R135). -/
  | fcmpEq (ty : FTy) (pd : PReg) (va vb : VReg) (pg : PReg) (e : Bool)
  /-- FCMP_NE (R135). -/
  | fcmpNe (ty : FTy) (pd : PReg) (va vb : VReg) (pg : PReg) (e : Bool)
  /-- FCMP_LT (R135). -/
  | fcmpLt (ty : FTy) (pd : PReg) (va vb : VReg) (pg : PReg) (e : Bool)
  /-- FCMP_LE (R135). -/
  | fcmpLe (ty : FTy) (pd : PReg) (va vb : VReg) (pg : PReg) (e : Bool)
  /-- FCMP_UN (R135). -/
  | fcmpUn (ty : FTy) (pd : PReg) (va vb : VReg) (pg : PReg) (e : Bool)
  /-- VSEL (R138). -/
  | vsel (ty : ETy) (vd va vb : VReg) (pg : PReg) (e : Bool)
  /-- VMOV (R138). -/
  | vmov (ty : ETy) (vd va : VReg) (pg : PReg) (e : Bool)
  /-- VBCAST (R138). -/
  | vbcast (ty : ETy) (vd : VReg) (a : SReg) (pg : PReg) (e : Bool)
  /-- VEXT (R138). -/
  | vext (ty : ETy) (d : SReg) (va : VReg) (b : SReg) (e : Bool)
  /-- VPERM (R138). -/
  | vperm (ty : ITy) (vd va vb : VReg) (pg : PReg) (e : Bool)
  /-- VZIP (R138). -/
  | vzip (ty : ETy) (vd va vb : VReg) (pg : PReg) (e : Bool)
  /-- VUZP (R138). -/
  | vuzp (ty : ETy) (vd va vb : VReg) (pg : PReg) (e : Bool)
  /-- VSLIDE_UP (R138). -/
  | vslideUp (ty : ETy) (vd va : VReg) (b : SReg) (pg : PReg) (e : Bool)
  /-- VSLIDE_DN (R138). -/
  | vslideDn (ty : ETy) (vd va : VReg) (b : SReg) (pg : PReg) (e : Bool)
  /-- VBCASTH_BF16 (R62). -/
  | vbcasthBf16 (vd : VReg) (imm : BitVec 16) (e : Bool)
  /-- VBCASTH_F32 (R62). -/
  | vbcasthF32 (vd : VReg) (imm : BitVec 16) (e : Bool)
  /-- VLD (R139). -/
  | vld (ty : ETy) (vd : VReg) (a b : SReg) (pg : PReg) (e : Bool)
  /-- VST (R139). -/
  | vst (ty : ETy) (vd : VReg) (a b : SReg) (pg : PReg) (e : Bool)
  /-- VLDS (R140). -/
  | vlds (ty : ETy) (vd : VReg) (a b : SReg) (pg : PReg) (e : Bool)
  /-- VSTS (R140). -/
  | vsts (ty : ETy) (vd : VReg) (a b : SReg) (pg : PReg) (e : Bool)
  /-- VGATH (R141). -/
  | vgath (ty : ETy) (vd : VReg) (a : SReg) (vb : VReg) (pg : PReg) (e : Bool)
  /-- VSCAT (R141). -/
  | vscat (ty : ETy) (vd : VReg) (a : SReg) (vb : VReg) (pg : PReg) (e : Bool)
  /-- VCVT (R143). -/
  | vcvt (dty sty : ETy) (rs : RSel) (vd va : VReg) (pg : PReg) (e : Bool)
  /-- VQNT (R144). -/
  | vqnt (sty : FTy) (rs : RSel) (vd va : VReg) (pg : PReg) (e : Bool)
  /-- VQPS (R145). -/
  | vqps (fmt : PsFmt) (sty : FTy) (rs : RSel) (vd va : VReg) (pg : PReg) (e : Bool)
  /-- VDQ (R146). -/
  | vdq (dty : FTy) (fmt : DqFmt) (rs : RSel) (vd va : VReg) (pg : PReg) (e : Bool)
  /-- VHAD32 (R147). -/
  | vhad32 (ty : ETy) (vd va : VReg) (m : BitVec 5) (pg : PReg) (e : Bool)
  /-- VMAXX (R148). -/
  | vmaxx (ty : ETy) (vd va : VReg) (k : BitVec 5) (pg : PReg) (e : Bool)
  /-- VUNPK5 (R149). -/
  | vunpk5 (vd va : VReg) (h : BitVec 4) (pg : PReg) (e : Bool)
  /-- VPACK5 (R150). -/
  | vpack5 (vd va : VReg) (h : BitVec 4) (pg : PReg) (e : Bool)
  /-- VSFU (R151). -/
  | vsfu (fn : SfuFn) (ty : FTy) (vd va : VReg) (pg : PReg) (e : Bool)
  /-- VRED (R153). -/
  | vred (op : RedOp) (ty : ETy) (vd va : VReg) (pg : PReg) (e : Bool)
  /-- VWHILE (R136). -/
  | vwhile (ty : ETy) (pd : PReg) (a b : SReg) (e : Bool)
  /-- VWIDTH (R136). -/
  | vwidth (ty : ETy) (d : SReg) (e : Bool)
  /-- VREP (R154). -/
  | vrep (a : SReg) (l : BitVec 4) (e : Bool)
  /-- PAND (R137). -/
  | pand (pd pa pb pg : PReg) (e : Bool)
  /-- POR (R137). -/
  | por (pd pa pb pg : PReg) (e : Bool)
  /-- PXOR (R137). -/
  | pxor (pd pa pb pg : PReg) (e : Bool)
  /-- PNOT (R137). -/
  | pnot (pd pa pg : PReg) (e : Bool)
  /-- PCNT (R137). -/
  | pcnt (ty : ETy) (d : SReg) (pa pg : PReg) (e : Bool)
  /-- PFIRST (R137). -/
  | pfirst (ty : ETy) (pd pa pg : PReg) (e : Bool)
  /-- MCFG (R167). -/
  | mcfg (a : SReg) (e : Bool)
  /-- MLDW_T64 (R168). -/
  | mldwT64 (sla tr : Bool) (a : SReg) (e : Bool)
  /-- MLDW_C64 (R168). -/
  | mldwC64 (sla tr : Bool) (a : SReg) (e : Bool)
  /-- MSTEP (R169). -/
  | mstep (a b : VReg) (g : Fin 8) (e : Bool)
  /-- MZERO (R170). -/
  | mzero (back e : Bool)
  /-- MSWAP_L (R170). -/
  | mswapL (e : Bool)
  /-- MSWAP_A (R170). -/
  | mswapA (e : Bool)
  /-- MSWAP_LA (R170). -/
  | mswapLa (e : Bool)
  /-- MDRAIN (R171). -/
  | mdrain (fmt : DrainFmt) (k : Compl) (back : Bool) (a b c : SReg) (e : Bool)
  /-- MSTAT (R175). -/
  | mstat (sel : Fin 7) (a b : SReg) (e : Bool)
  /-- MWAIT (R177). -/
  | mwait (e : Bool)
  /-- PBIND (R231). -/
  | pbind (q : Fin 8) (a b : SReg) (e : Bool)
  /-- PUNBIND (R235). -/
  | punbind (q : Fin 8) (e : Bool)
  /-- PSTAT (R236). -/
  | pstat (a : SReg) (q : Fin 8) (e : Bool)
  /-- PSKIP (R237). -/
  | pskip (q : Fin 8) (a : SReg) (e : Bool)
  /-- CPY (R238). -/
  | cpy (k : Compl) (a b c : SReg) (e : Bool)
  /-- CPYT (R238). -/
  | cpyt (k : Compl) (a b c : SReg) (e : Bool)
  /-- CPYD (R238). -/
  | cpyd (k : Compl) (a b c : SReg) (e : Bool)
  /-- CPYS (R238). -/
  | cpys (k : Compl) (a b c : SReg) (e : Bool)
  /-- SPAWN (R304). -/
  | spawn (d a : SReg) (e : Bool)
  /-- SPAWNL (R306). -/
  | spawnl (d a : SReg) (e : Bool)
  /-- MIGRATE (R308). -/
  | migrate (a : SReg) (e : Bool)
  /-- YIELD (R310). -/
  | yield (e : Bool)
  /-- SLEEP (R311). -/
  | sleep (e : Bool)
  /-- CBAR (R312). -/
  | cbar (e : Bool)
  /-- EXIT (R119). -/
  | exit (e : Bool)
  /-- MSEND (R313). -/
  | msend (a b : SReg) (e : Bool)
  /-- MRECV (R314). -/
  | mrecv (d a : SReg) (e : Bool)
  /-- RQPUSH (R315). -/
  | rqpush (d a b : SReg) (e : Bool)
  /-- RQPOP (R315). -/
  | rqpop (d a : SReg) (e : Bool)
  /-- TMRSET (R318). -/
  | tmrset (d a : SReg) (e : Bool)
  /-- CSRR (R320). -/
  | csrr (d : SReg) (csr : BitVec 10) (e : Bool)
  /-- CSRW (R320). -/
  | csrw (d a : SReg) (csr : BitVec 10) (e : Bool)
  /-- CSRS (R320). -/
  | csrs (d a : SReg) (csr : BitVec 10) (e : Bool)
  /-- CSRC (R320). -/
  | csrc (d a : SReg) (csr : BitVec 10) (e : Bool)
  /-- URET (R324). -/
  | uret (e : Bool)
  /-- TRAPU (R399). -/
  | trapu (n : BitVec 6) (e : Bool)
  /-- SVC (R375). -/
  | svc (d a : SReg) (n : BitVec 10) (e : Bool)
  /-- SRET (R376). -/
  | sret (d a : SReg) (e : Bool)
  /-- DTINV_PAGE (R377). -/
  | dtinvPage (a : SReg) (e : Bool)
  /-- DTINV_CTX (R377). -/
  | dtinvCtx (a : SReg) (e : Bool)
  /-- DTINV_ALL (R377). -/
  | dtinvAll (a : SReg) (e : Bool)
  /-- DTREP (R378). -/
  | dtrep (d : SReg) (e : Bool)
  /-- DTREP_FAIL (R378). -/
  | dtrepFail (d a : SReg) (e : Bool)
  /-- DTQRY (R379). -/
  | dtqry (sel : BitVec 2) (d a : SReg) (e : Bool)
  /-- SPLS (R380). -/
  | spls (d a : SReg) (e : Bool)
  /-- SPLR (R380). -/
  | splr (d a : SReg) (e : Bool)
  /-- FREEZE (R381). -/
  | freeze (a : SReg) (e : Bool)
  /-- THAW (R381). -/
  | thaw (a : SReg) (e : Bool)
  /-- RGNW (R376). -/
  | rgnw (d a : SReg) (i : BitVec 6) (e : Bool)
  /-- PUW (R376). -/
  | puw (d a : SReg) (i : BitVec 4) (e : Bool)
  /-- COMMIT (R382). -/
  | commit (d a : SReg) (e : Bool)
  /-- ILLEGAL_INSTRUCTION (R53). -/
  | illegalInstruction (cause : Cause)
  /-- USER_TRAP_ENTRY (R321). -/
  | userTrapEntry
  /-- TIMER_FIRE (R317). -/
  | timerFire (slot : Nat)
  /-- RESULT_ARRIVE (R31). -/
  | resultArrive (res : Nat)
  /-- STORE_MERGE (R195). -/
  | storeMerge (station line : Nat)
  /-- MERGE_AT_HOME (R203). -/
  | mergeAtHome (req : Nat)
  /-- FILL_AT_HOME (R193). -/
  | fillAtHome (req : Nat)
  /-- PHASE_RELEASE_COMPLETE (R198). -/
  | phaseReleaseComplete (slot : Nat)
  /-- KIND_QUERY_REPLY (R212). -/
  | kindQueryReply (req : Nat)
  /-- HOST_WINDOW_WRITE_SEND (R212). -/
  | hostWindowWriteSend (station : Nat)
  /-- BANK_AMO_PERFORM (R222). -/
  | bankAmoPerform (req : Nat)
  /-- BANK_LRW (R226). -/
  | bankLrw (req : Nat)
  /-- BANK_SCH (R226). -/
  | bankSch (req : Nat)
  /-- BANK_RREL (R226). -/
  | bankRrel (req : Nat)
  /-- BANK_ENQ (R266). -/
  | bankEnq (req : Nat)
  /-- BANK_DEQ (R266). -/
  | bankDeq (req : Nat)
  /-- WAITER_RECORD_FREE (R252). -/
  | waiterRecordFree (slice : Nat)
  /-- PROOF_PUBLISH_AT_HOME (R254). -/
  | proofPublishAtHome (req : Nat)
  /-- PROOF_WAIT_AT_HOME (R254). -/
  | proofWaitAtHome (req : Nat)
  /-- PROOF_TAKE_AT_HOME (R254). -/
  | proofTakeAtHome (req : Nat)
  /-- PROOF_TEST_AT_HOME (R254). -/
  | proofTestAtHome (req : Nat)
  /-- PROOF_REPLY (R260). -/
  | proofReply (req : Nat)
  /-- VSFU_SERVE (R152). -/
  | vsfuServe (station : Nat)
  /-- READ_STREAM_FETCH (R234). -/
  | readStreamFetch (slot : Nat) (port : Fin 8)
  /-- WRITE_STREAM_SEND (R234). -/
  | writeStreamSend (slot : Nat) (port : Fin 8)
  /-- CHANNEL_WORD_ARRIVE (R233). -/
  | channelWordArrive (slot : Nat) (port : Fin 8)
  /-- MCFG_PERFORM (R167). -/
  | mcfgPerform (station : Nat)
  /-- MSTEP_PERFORM (R164). -/
  | mstepPerform (station : Nat)
  /-- MZERO_PERFORM (R170). -/
  | mzeroPerform (station : Nat)
  /-- MSWAP_PERFORM (R170). -/
  | mswapPerform (station : Nat)
  /-- MLDW_LOAD_DONE (R168). -/
  | mldwLoadDone (slot : Nat)
  /-- MDRAIN_CAPTURE (R172). -/
  | mdrainCapture (station : Nat)
  /-- MDRAIN_WRITE_DONE (R173). -/
  | mdrainWriteDone (station : Nat)
  /-- MSTAT_PERFORM (R175). -/
  | mstatPerform (station : Nat)
  /-- CPY_PERFORM (R240). -/
  | cpyPerform (station : Nat)
  /-- CPYT_PERFORM (R240). -/
  | cpytPerform (station : Nat)
  /-- CPYD_PERFORM (R240). -/
  | cpydPerform (station : Nat)
  /-- CPYS_PERFORM (R240). -/
  | cpysPerform (station : Nat)
  /-- COPY_COMPLETION (R242). -/
  | copyCompletion (station : Nat)
  /-- MAILBOX_ACCEPT (R313). -/
  | mailboxAccept (station : Nat)
  /-- MIGRATE_ARRIVE (R308). -/
  | migrateArrive (tag : Nat)
  /-- RUN_QUEUE_DISPATCH (R307). -/
  | runQueueDispatch (station : Nat)
  /-- LAUNCH_UNIT_ACCEPT (R304). -/
  | launchUnitAccept (req : Nat)
  /-- QUEUE_TAIL_WRITE (R274). -/
  | queueTailWrite (q : Nat) (value : Word)
  /-- QUEUE_RESET (R273). -/
  | queueReset (q : Nat)
  /-- QUEUE_DISABLE (R273). -/
  | queueDisable (q : Nat)
  /-- QUEUE_ENABLE (R273). -/
  | queueEnable (q : Nat)
  /-- REGISTER_WRITE (R6). -/
  | registerWrite (func off : Nat) (value : Word)
  /-- LAUNCH (R281). -/
  | launch (q : Nat) (ids : List Nat)
  /-- LAUNCHP (R286). -/
  | launchp (q : Nat) (ids : List Nat)
  /-- CALLIB (R278). -/
  | callib (q : Nat)
  /-- SIGNAL (R282). -/
  | signal (q : Nat)
  /-- WAIT (R279). -/
  | wait (q : Nat)
  /-- WAIT_SIGNAL_POLL (R279). -/
  | waitSignalPoll (q : Nat)
  /-- WAIT_CONDITION_MET (R279). -/
  | waitConditionMet (q : Nat)
  /-- COPY (R277). -/
  | copy (q : Nat)
  /-- LOADSHARD (R411). -/
  | loadshard (q : Nat)
  /-- COMMAND_COMPLETE (R282). -/
  | commandComplete (q cmd : Nat)
  /-- COURSE_PLACE (R284). -/
  | coursePlace (die : Nat)
  /-- CHORD_ARMED (R285). -/
  | chordArmed (grid chord : Nat)
  /-- CHORD_DISPATCH (R285). -/
  | chordDispatch (die : Nat)
  /-- CHORD_END (R289). -/
  | chordEnd (station : Nat)
  /-- GRID_COMPLETE (R288). -/
  | gridComplete (grid : Nat)
  /-- GRID_FAULTED (R288). -/
  | gridFaulted (grid : Nat)
  /-- SLOT_SPILL (R292). -/
  | slotSpill (slot : Nat)
  /-- CHORD_SPILL (R293). -/
  | chordSpill (station : Nat)
  /-- CHORD_RESTORE (R293). -/
  | chordRestore (station : Nat)
  /-- RESCUE_CHECK (R296). -/
  | rescueCheck (die : Nat)
  /-- WAITFOR_WALK (R298). -/
  | waitforWalk (die : Nat)
  /-- THERMAL_SLOT_CHANGE (R299). -/
  | thermalSlotChange (slot : Nat) (disable : Bool) (cooler : Nat)
  /-- TIMESLICE_ROTATE (R299). -/
  | timesliceRotate (station : Nat)
  /-- SUSPEND (R295). -/
  | suspend (ctx : Nat)
  /-- CTX_RESUME (R354). -/
  | ctxResume (ctx : Nat)
  /-- CTX_MIGRATE (R354). -/
  | ctxMigrate (ctx : Nat) (arg : Word)
  /-- RELEASE (R369). -/
  | release (ctx : Nat)
  /-- GUEST_TAKE (R269). -/
  | guestTake (gqn : Nat)
  /-- GUEST_WAITH_SATISFIED (R269). -/
  | guestWaithSatisfied (gqn : Nat)
  /-- GUEST_DONE (R271). -/
  | guestDone (gqn : Nat) (seq : Word)
  /-- GUEST_FAULT (R408). -/
  | guestFault (gqn : Nat) (seq : Word) (cause : Cause)
  /-- GUEST_RETURN (R300). -/
  | guestReturn (gqn : Nat) (seq : Word)
  /-- PARKED (R300). -/
  | parked (ctx : Nat)
  /-- PARKLATE (R300). -/
  | parklate (ctx : Nat)
  /-- TRQ (R372). -/
  | trq (ctx : Nat) (gva : Word) (write : Bool)
  /-- INVACK (R374). -/
  | invack (inv : Nat)
  /-- INVLATE (R374). -/
  | invlate (inv : Nat)
  /-- READY (R410). -/
  | ready
  /-- READY_TIMEOUT (R410). -/
  | readyTimeout
  /-- GUEST_COHERENT_REQUEST (R373). -/
  | guestCoherentRequest (cls : GuestClass) (addr : Word) (data : BitVec 512)
  /-- GUEST_RESET (R410). -/
  | guestReset
  /-- GUEST_RAIL_OVERLOAD (R436). -/
  | guestRailOverload
  /-- DTU_TRANSLATE (R357). -/
  | dtuTranslate (req : Nat)
  /-- WALK_COMPLETE (R357). -/
  | walkComplete (die ctx page : Nat)
  /-- STATION_REISSUE (R361). -/
  | stationReissue (station : Nat)
  /-- MANAGEMENT_RECORD_HANDLE (R400). -/
  | managementRecordHandle (die : Nat)
  /-- INBOUND_WRITE (R211). -/
  | inboundWrite (func off : Nat) (bytes : List Byte) (attr : WriteTlp)
  /-- INBOUND_READ (R211). -/
  | inboundRead (func off : Nat) (size : ReadTlp)
  /-- HOST_READ_COMPLETION (R246). -/
  | hostReadCompletion (req : Nat) (status : CplStatus) (data : BitVec 2048)
  /-- COMPLETION_TIMEOUT (R443). -/
  | completionTimeout (req : Nat)
  /-- STRING_FLIT_ARRIVE (R214). -/
  | stringFlitArrive (flit : Flit)
  /-- MESH_FLIT_RETRY (R406). -/
  | meshFlitRetry (link : Link) (fails : Nat)
  /-- LINK_FAIL (R406). -/
  | linkFail (link : Link) (reqs : List Nat)
  /-- LINKDOWN (R406). -/
  | linkdown
  /-- UNCORRECTABLE_ERROR (R405). -/
  | uncorrectableError (place : ErrPlace)
  /-- SLICE_SCRUB (R405, R415): what a pass of the slice's lines corrected. -/
  | sliceScrub (found : ScrubResult)
  /-- STATION_SELF_TEST (R415, R416): its result, and the SRAM rows that failed it. -/
  | stationSelfTest (station : Nat) (found : TestResult)
  /-- SHARD_CHECK (R412). -/
  | shardCheck (shard : Nat)
  /-- SHARD_LOAD_TIMEOUT (R412). -/
  | shardLoadTimeout (shard : Nat)
  /-- SHARD_RECHECK (R413). -/
  | shardRecheck (shard : Nat)
  /-- RAS_CLEAR (R401). -/
  | rasClear (die : Nat) (mask : Word)
  /-- STAGE (R418). -/
  | stage (slot : Nat)
  /-- FW_VERIFY_DONE (R418). -/
  | fwVerifyDone (slot : Nat) (sigs : Bool) (svn : Nat)
  /-- ACTIVATE (R419). -/
  | activate (slot : Nat)
  /-- ABORT (R418). -/
  | abort
  /-- TRIAL_DEADLINE (R418). -/
  | trialDeadline
  /-- PACKAGE_RESET (R438). -/
  | packageReset
  /-- RING_TOKEN_TIMEOUT (R434). -/
  | ringTokenTimeout
  /-- THERMAL_THRESHOLD (R441). -/
  | thermalThreshold (station : Nat) (reading : Reading)
  /-- THERMTRIP (R441). -/
  | thermtrip
  /-- BADCMD (R276). -/
  | badcmd (q : Nat)
  /-- CHANNEL_CREDIT_RETURN (R233). -/
  | channelCreditReturn (slot : Nat) (port : Fin 8)
  /-- THERMAL_TRANSFER_ARRIVE (R299). -/
  | thermalTransferArrive (tag : Nat)
  /-- LINK_RETRAIN_COMPLETE (R406). -/
  | linkRetrainComplete (link : Link)
  /-- CONFIGURATION_REQUEST (R438). -/
  | configurationRequest (req : CfgReq)
  /-- PERST_DEASSERTION (R438). -/
  | perstDeassertion (found : BootCheck) (lp6Ok : Bool) (images : Vector Bool 2)
  /-- POWER_REMOVAL (R441). -/
  | powerRemoval
  /-- GUEST_SNOOP_RESPONSE (R213). -/
  | guestSnoopResponse (snoop : Nat) (reply : SnoopReply)
  /-- CONTEXT_CREATION (R250). -/
  | contextCreation (ctx quota : Nat) (stations : List Nat) (guestQueues : List GuestQueue)
  /-- CONTEXT_DESTRUCTION (R402). -/
  | contextDestruction (ctx : Nat)
  deriving DecidableEq, Repr

end Sys2Proof
end

