-- ==== Sys2Proof/WellFormed.lean ====
section
/-! DEFINITION. Which instructions have a word: the restrictions that the encoding and the instruction
descriptions put on the operands of a constructor (R49, R52, R57 to R63), and the sizes of element and
access types. -/

namespace Sys2Proof

/-- Element sizes in bytes (R127). -/
def ETy.size : ETy → Nat
  | .i8 => 1 | .i16 => 2 | .i32 => 4 | .i64 => 8 | .bf16 => 2 | .f32 => 4

/-- Integer element sizes in bytes (R127). -/
def ITy.size : ITy → Nat
  | .i8 => 1 | .i16 => 2 | .i32 => 4 | .i64 => 8

/-- Floating element sizes in bytes (R127). -/
def FTy.size : FTy → Nat
  | .bf16 => 2 | .f32 => 4

/-- Access sizes in bytes (R68). -/
def Size.bytes : Size → Nat
  | .b => 1 | .h => 2 | .w => 4 | .d => 8

/-- LD's access sizes in bytes (R68, R120). -/
def LdSize.bytes : LdSize → Nat
  | .b => 1 | .h => 2 | .w => 4 | .d => 8 | .bu => 1 | .hu => 2 | .wu => 4

/-- Whether an LD sign-extends (R68, R120). -/
def LdSize.signed : LdSize → Bool
  | .b => true | .h => true | .w => true | .d => true | .bu => false | .hu => false | .wu => false

/-- Whether a vector field names a port. -/
def VReg.isQ : VReg → Bool
  | .q _ => true | .v _ => false | .w _ => false

/-- v0 to v14 or w0 to w6: a register whose successor is in the same bank (R144, R146). -/
def VReg.hasNext : VReg → Bool
  | .v i => decide (i.val < 15)
  | .w i => decide (i.val < 7)
  | .q _ => false

/-- VRED's pairing of operations and types (R153). -/
def RedOp.takes (op : RedOp) (ty : ETy) : Bool :=
  match op with
  | .fadd => ty == .bf16 || ty == .f32
  | .fmin => ty == .bf16 || ty == .f32
  | .fmax => ty == .bf16 || ty == .f32
  | .add => ty != .bf16 && ty != .f32
  | .min => ty != .bf16 && ty != .f32
  | .max => ty != .bf16 && ty != .f32
  | .minu => ty != .bf16 && ty != .f32
  | .maxu => ty != .bf16 && ty != .f32
  | .and => ty != .bf16 && ty != .f32
  | .or => ty != .bf16 && ty != .f32
  | .xor => ty != .bf16 && ty != .f32

/-- An instruction that some word encodes. Events have no word and no condition. -/
def Instr.wf : Instr → Bool
  | .add _ _ _ _ => true
  | .sub _ _ _ _ => true
  | .and _ _ _ _ => true
  | .or _ _ _ _ => true
  | .xor _ _ _ _ => true
  | .sll _ _ _ _ => true
  | .srl _ _ _ _ => true
  | .sra _ _ _ _ => true
  | .slt _ _ _ _ => true
  | .sltu _ _ _ _ => true
  | .min _ _ _ _ => true
  | .max _ _ _ _ => true
  | .minu _ _ _ _ => true
  | .maxu _ _ _ _ => true
  | .clz _ _ _ => true
  | .ctz _ _ _ => true
  | .popc _ _ _ => true
  | .sextB _ _ _ => true
  | .sextH _ _ _ => true
  | .sextW _ _ _ => true
  | .zextB _ _ _ => true
  | .zextH _ _ _ => true
  | .zextW _ _ _ => true
  | .sel _ _ _ _ => true
  | .addW _ _ _ _ => true
  | .subW _ _ _ _ => true
  | .andW _ _ _ _ => true
  | .orW _ _ _ _ => true
  | .xorW _ _ _ _ => true
  | .sllW _ _ _ _ => true
  | .srlW _ _ _ _ => true
  | .sraW _ _ _ _ => true
  | .sltW _ _ _ _ => true
  | .sltuW _ _ _ _ => true
  | .minW _ _ _ _ => true
  | .maxW _ _ _ _ => true
  | .minuW _ _ _ _ => true
  | .maxuW _ _ _ _ => true
  | .clzW _ _ _ => true
  | .ctzW _ _ _ => true
  | .popcW _ _ _ => true
  | .mul _ _ _ _ => true
  | .mulh _ _ _ _ => true
  | .mulhu _ _ _ _ => true
  | .div _ _ _ _ => true
  | .divu _ _ _ _ => true
  | .rem _ _ _ _ => true
  | .remu _ _ _ _ => true
  | .mulW _ _ _ _ => true
  | .mulhW _ _ _ _ => true
  | .mulhuW _ _ _ _ => true
  | .divW _ _ _ _ => true
  | .divuW _ _ _ _ => true
  | .remW _ _ _ _ => true
  | .remuW _ _ _ _ => true
  | .addi _ _ _ _ => true
  | .andi _ _ _ _ => true
  | .ori _ _ _ _ => true
  | .xori _ _ _ _ => true
  | .slti _ _ _ _ => true
  | .sltiu _ _ _ _ => true
  | .slli _ _ _ _ => true
  | .srli _ _ _ _ => true
  | .srai _ _ _ _ => true
  | .slliW _ _ _ _ => true
  | .srliW _ _ _ _ => true
  | .sraiW _ _ _ _ => true
  | .lui _ _ _ => true
  | .auipc _ _ _ => true
  | .beq _ _ _ _ => true
  | .bne _ _ _ _ => true
  | .blt _ _ _ _ => true
  | .bge _ _ _ _ => true
  | .bltu _ _ _ _ => true
  | .bgeu _ _ _ _ => true
  | .jal _ _ => true
  | .jalr _ _ _ _ => true
  | .bpredAny _ _ _ => true
  | .bpredAll _ _ _ => true
  | .bpredNone _ _ _ => true
  | .bpredNall _ _ _ => true
  | .ld _ _ _ _ _ => true
  | .st _ _ _ _ _ => true
  | .ldl _ _ _ _ _ => true
  | .stl _ _ _ _ _ => true
  | .phaseR _ _ => true
  | .phaseA _ _ => true
  | .phaseRa _ _ => true
  | .qfence m _ => m != 0
  | .fencei _ => true
  | .prefL1 _ _ => true
  | .prefHome _ _ => true
  | .amoadd _ _ _ _ _ => true
  | .amoand _ _ _ _ _ => true
  | .amoor _ _ _ _ _ => true
  | .amoxor _ _ _ _ _ => true
  | .amomin _ _ _ _ _ => true
  | .amomax _ _ _ _ _ => true
  | .amominu _ _ _ _ _ => true
  | .amomaxu _ _ _ _ _ => true
  | .amoswap _ _ _ _ _ => true
  | .amocas _ _ _ _ _ => true
  | .amofadd32 _ _ _ _ => true
  | .amofxadd _ _ _ _ => true
  | .lrw _ _ _ => true
  | .sch _ _ _ => true
  | .rrel _ _ => true
  | .enq _ _ _ _ => true
  | .deq d _ _ => !d.isQ
  | .enqNw _ _ _ _ => true
  | .deqNw d _ _ => !d.isQ
  | .prpub _ _ _ => true
  | .prwait _ _ => true
  | .prtest _ _ _ => true
  | .prtake _ _ _ => true
  | .prgen _ _ _ _ => true
  | .prarm _ _ _ _ => true
  | .vadd _ _ _ _ _ _ => true
  | .vsub _ _ _ _ _ _ => true
  | .vmul _ _ _ _ _ _ => true
  | .vmulh _ _ _ _ _ _ => true
  | .vmad _ _ _ _ _ _ => true
  | .vmin _ _ _ _ _ _ => true
  | .vmax _ _ _ _ _ _ => true
  | .vand _ _ _ _ _ _ => true
  | .vor _ _ _ _ _ _ => true
  | .vxor _ _ _ _ _ _ => true
  | .vsll _ _ _ _ _ _ => true
  | .vsrl _ _ _ _ _ _ => true
  | .vsra _ _ _ _ _ _ => true
  | .vabs _ _ _ _ _ => true
  | .vneg _ _ _ _ _ => true
  | .vaddVs _ _ _ _ _ _ => true
  | .vsubVs _ _ _ _ _ _ => true
  | .vmulVs _ _ _ _ _ _ => true
  | .vmulhVs _ _ _ _ _ _ => true
  | .vmadVs _ _ _ _ _ _ => true
  | .vminVs _ _ _ _ _ _ => true
  | .vmaxVs _ _ _ _ _ _ => true
  | .vandVs _ _ _ _ _ _ => true
  | .vorVs _ _ _ _ _ _ => true
  | .vxorVs _ _ _ _ _ _ => true
  | .vsllVs _ _ _ _ _ _ => true
  | .vsrlVs _ _ _ _ _ _ => true
  | .vsraVs _ _ _ _ _ _ => true
  | .vaddVi _ _ _ _ _ _ => true
  | .vsubVi _ _ _ _ _ _ => true
  | .vmulVi _ _ _ _ _ _ => true
  | .vmulhVi _ _ _ _ _ _ => true
  | .vmadVi _ _ _ _ _ _ => true
  | .vminVi _ _ _ _ _ _ => true
  | .vmaxVi _ _ _ _ _ _ => true
  | .vandVi _ _ _ _ _ _ => true
  | .vorVi _ _ _ _ _ _ => true
  | .vxorVi _ _ _ _ _ _ => true
  | .vsllVi _ _ _ _ _ _ => true
  | .vsrlVi _ _ _ _ _ _ => true
  | .vsraVi _ _ _ _ _ _ => true
  | .fadd _ _ _ _ _ _ => true
  | .fsub _ _ _ _ _ _ => true
  | .fmul _ _ _ _ _ _ => true
  | .fma _ _ _ _ _ _ => true
  | .fmin _ _ _ _ _ _ => true
  | .fmax _ _ _ _ _ _ => true
  | .fabs _ _ _ _ _ => true
  | .fneg _ _ _ _ _ => true
  | .faddVs _ _ _ _ _ _ => true
  | .fsubVs _ _ _ _ _ _ => true
  | .fmulVs _ _ _ _ _ _ => true
  | .fmaVs _ _ _ _ _ _ => true
  | .fminVs _ _ _ _ _ _ => true
  | .fmaxVs _ _ _ _ _ _ => true
  | .vcmpEq _ _ _ _ _ _ => true
  | .vcmpNe _ _ _ _ _ _ => true
  | .vcmpLt _ _ _ _ _ _ => true
  | .vcmpLe _ _ _ _ _ _ => true
  | .vcmpLtu _ _ _ _ _ _ => true
  | .vcmpLeu _ _ _ _ _ _ => true
  | .fcmpEq _ _ _ _ _ _ => true
  | .fcmpNe _ _ _ _ _ _ => true
  | .fcmpLt _ _ _ _ _ _ => true
  | .fcmpLe _ _ _ _ _ _ => true
  | .fcmpUn _ _ _ _ _ _ => true
  | .vsel _ _ _ _ _ _ => true
  | .vmov _ _ _ _ _ => true
  | .vbcast _ _ _ _ _ => true
  | .vext _ _ _ _ _ => true
  | .vperm _ _ _ _ _ _ => true
  | .vzip _ _ _ _ _ _ => true
  | .vuzp _ _ _ _ _ _ => true
  | .vslideUp _ _ _ _ _ _ => true
  | .vslideDn _ _ _ _ _ _ => true
  | .vbcasthBf16 _ _ _ => true
  | .vbcasthF32 _ _ _ => true
  | .vld _ vd _ _ _ _ => !vd.isQ
  | .vst _ vd _ _ _ _ => !vd.isQ
  | .vlds _ vd _ _ _ _ => !vd.isQ
  | .vsts _ vd _ _ _ _ => !vd.isQ
  | .vgath ty vd _ vb _ _ => ty != .i8 && !vd.isQ && !vb.isQ
  | .vscat ty vd _ vb _ _ => ty != .i8 && !vd.isQ && !vb.isQ
  | .vcvt dty sty rs _ _ _ _ => dty != sty && (rs != .sr || dty == .bf16)
  | .vqnt _ rs vd _ _ _ => rs != .sr && vd.hasNext
  | .vqps _ _ rs _ _ _ _ => rs != .sr
  | .vdq dty fmt rs _ va _ _ => (rs != .sr || dty == .bf16) && (fmt != .mx || va.hasNext)
  | .vhad32 ty _ _ _ _ _ => ty != .i8
  | .vmaxx ty _ _ k _ _ => decide (2 ^ k.toNat < 256 / ty.size)
  | .vunpk5 _ _ _ _ _ => true
  | .vpack5 _ _ _ _ _ => true
  | .vsfu _ _ vd _ _ _ => !vd.isQ
  | .vred op ty _ _ _ _ => op.takes ty
  | .vwhile _ _ _ _ _ => true
  | .vwidth _ _ _ => true
  | .vrep _ _ _ => true
  | .pand _ _ _ _ _ => true
  | .por _ _ _ _ _ => true
  | .pxor _ _ _ _ _ => true
  | .pnot _ _ _ _ => true
  | .pcnt _ _ _ _ _ => true
  | .pfirst _ _ _ _ _ => true
  | .mcfg _ _ => true
  | .mldwT64 _ _ _ _ => true
  | .mldwC64 _ _ _ _ => true
  | .mstep _ _ _ _ => true
  | .mzero _ _ => true
  | .mswapL _ => true
  | .mswapA _ => true
  | .mswapLa _ => true
  | .mdrain _ k _ _ b c _ => k != .none || (b == .x 0 && c == .x 0)
  | .mstat n _ b _ => decide (n.val < 4) || b == .x 0
  | .mwait _ => true
  | .pbind _ _ _ _ => true
  | .punbind _ _ => true
  | .pstat _ _ _ => true
  | .pskip _ _ _ => true
  | .cpy k _ b c _ => k != .none || (b == .x 0 && c == .x 0)
  | .cpyt k _ b c _ => k != .none || (b == .x 0 && c == .x 0)
  | .cpyd k _ b c _ => k != .none || (b == .x 0 && c == .x 0)
  | .cpys k _ b c _ => k != .none || (b == .x 0 && c == .x 0)
  | .spawn _ _ _ => true
  | .spawnl _ _ _ => true
  | .migrate _ _ => true
  | .yield _ => true
  | .sleep _ => true
  | .cbar _ => true
  | .exit _ => true
  | .msend _ _ _ => true
  | .mrecv _ _ _ => true
  | .rqpush _ _ _ _ => true
  | .rqpop _ _ _ => true
  | .tmrset _ _ _ => true
  | .csrr _ _ _ => true
  | .csrw _ _ _ _ => true
  | .csrs _ _ _ _ => true
  | .csrc _ _ _ _ => true
  | .uret _ => true
  | .trapu _ _ => true
  | .svc _ _ _ _ => true
  | .sret _ _ _ => true
  | .dtinvPage _ _ => true
  | .dtinvCtx _ _ => true
  | .dtinvAll _ _ => true
  | .dtrep _ _ => true
  | .dtrepFail _ _ _ => true
  | .dtqry _ _ _ _ => true
  | .spls _ _ _ => true
  | .splr _ _ _ => true
  | .freeze _ _ => true
  | .thaw _ _ => true
  | .rgnw _ _ _ _ => true
  | .puw _ _ _ _ => true
  | .commit _ _ _ => true
  | .illegalInstruction _ => true
  | .userTrapEntry => true
  | .timerFire _ => true
  | .resultArrive _ => true
  | .storeMerge _ _ => true
  | .mergeAtHome _ => true
  | .fillAtHome _ => true
  | .phaseReleaseComplete _ => true
  | .kindQueryReply _ => true
  | .hostWindowWriteSend _ => true
  | .bankAmoPerform _ => true
  | .bankLrw _ => true
  | .bankSch _ => true
  | .bankRrel _ => true
  | .bankEnq _ => true
  | .bankDeq _ => true
  | .waiterRecordFree _ => true
  | .proofPublishAtHome _ => true
  | .proofWaitAtHome _ => true
  | .proofTakeAtHome _ => true
  | .proofTestAtHome _ => true
  | .proofReply _ => true
  | .vsfuServe _ => true
  | .readStreamFetch _ _ => true
  | .writeStreamSend _ _ => true
  | .channelWordArrive _ _ => true
  | .mcfgPerform _ => true
  | .mstepPerform _ => true
  | .mzeroPerform _ => true
  | .mswapPerform _ => true
  | .mldwLoadDone _ => true
  | .mdrainCapture _ => true
  | .mdrainWriteDone _ => true
  | .mstatPerform _ => true
  | .cpyPerform _ => true
  | .cpytPerform _ => true
  | .cpydPerform _ => true
  | .cpysPerform _ => true
  | .copyCompletion _ => true
  | .mailboxAccept _ => true
  | .migrateArrive _ => true
  | .runQueueDispatch _ => true
  | .launchUnitAccept _ => true
  | .queueTailWrite _ _ => true
  | .queueReset _ => true
  | .queueDisable _ => true
  | .queueEnable _ => true
  | .registerWrite _ _ _ => true
  | .launch _ _ => true
  | .launchp _ _ => true
  | .callib _ => true
  | .signal _ => true
  | .wait _ => true
  | .waitSignalPoll _ => true
  | .waitConditionMet _ => true
  | .copy _ => true
  | .loadshard _ => true
  | .commandComplete _ _ => true
  | .coursePlace _ => true
  | .chordArmed _ _ => true
  | .chordDispatch _ => true
  | .chordEnd _ => true
  | .gridComplete _ => true
  | .gridFaulted _ => true
  | .slotSpill _ => true
  | .chordSpill _ => true
  | .chordRestore _ => true
  | .rescueCheck _ => true
  | .waitforWalk _ => true
  | .thermalSlotChange _ _ _ => true
  | .timesliceRotate _ => true
  | .suspend _ => true
  | .ctxResume _ => true
  | .ctxMigrate _ _ => true
  | .release _ => true
  | .guestTake _ => true
  | .guestWaithSatisfied _ => true
  | .guestDone _ _ => true
  | .guestFault _ _ _ => true
  | .guestReturn _ _ => true
  | .parked _ => true
  | .parklate _ => true
  | .trq _ _ _ => true
  | .invack _ => true
  | .invlate _ => true
  | .ready => true
  | .readyTimeout => true
  | .guestCoherentRequest _ _ _ => true
  | .guestReset => true
  | .guestRailOverload => true
  | .dtuTranslate _ => true
  | .walkComplete _ _ _ => true
  | .stationReissue _ => true
  | .managementRecordHandle _ => true
  | .inboundWrite _ _ _ _ => true
  | .inboundRead _ _ _ => true
  | .hostReadCompletion _ _ _ => true
  | .completionTimeout _ => true
  | .stringFlitArrive _ => true
  | .meshFlitRetry _ _ => true
  | .linkFail _ _ => true
  | .linkdown => true
  | .uncorrectableError _ => true
  | .sliceScrub _ => true
  | .stationSelfTest _ _ => true
  | .shardCheck _ => true
  | .shardLoadTimeout _ => true
  | .shardRecheck _ => true
  | .rasClear _ _ => true
  | .stage _ => true
  | .fwVerifyDone _ _ _ => true
  | .activate _ => true
  | .abort => true
  | .trialDeadline => true
  | .packageReset => true
  | .ringTokenTimeout => true
  | .thermalThreshold _ _ => true
  | .thermtrip => true
  | .badcmd _ => true
  | .channelCreditReturn _ _ => true
  | .thermalTransferArrive _ => true
  | .linkRetrainComplete _ => true
  | .configurationRequest _ => true
  | .perstDeassertion _ _ _ => true
  | .powerRemoval => true
  | .guestSnoopResponse _ _ => true
  | .contextCreation _ _ _ _ => true
  | .contextDestruction _ => true

/-- Whether a constructor is an instruction of Botil 1.0 (it has words) or an event. -/
def Instr.isWord : Instr → Bool
  | .add _ _ _ _ => true
  | .sub _ _ _ _ => true
  | .and _ _ _ _ => true
  | .or _ _ _ _ => true
  | .xor _ _ _ _ => true
  | .sll _ _ _ _ => true
  | .srl _ _ _ _ => true
  | .sra _ _ _ _ => true
  | .slt _ _ _ _ => true
  | .sltu _ _ _ _ => true
  | .min _ _ _ _ => true
  | .max _ _ _ _ => true
  | .minu _ _ _ _ => true
  | .maxu _ _ _ _ => true
  | .clz _ _ _ => true
  | .ctz _ _ _ => true
  | .popc _ _ _ => true
  | .sextB _ _ _ => true
  | .sextH _ _ _ => true
  | .sextW _ _ _ => true
  | .zextB _ _ _ => true
  | .zextH _ _ _ => true
  | .zextW _ _ _ => true
  | .sel _ _ _ _ => true
  | .addW _ _ _ _ => true
  | .subW _ _ _ _ => true
  | .andW _ _ _ _ => true
  | .orW _ _ _ _ => true
  | .xorW _ _ _ _ => true
  | .sllW _ _ _ _ => true
  | .srlW _ _ _ _ => true
  | .sraW _ _ _ _ => true
  | .sltW _ _ _ _ => true
  | .sltuW _ _ _ _ => true
  | .minW _ _ _ _ => true
  | .maxW _ _ _ _ => true
  | .minuW _ _ _ _ => true
  | .maxuW _ _ _ _ => true
  | .clzW _ _ _ => true
  | .ctzW _ _ _ => true
  | .popcW _ _ _ => true
  | .mul _ _ _ _ => true
  | .mulh _ _ _ _ => true
  | .mulhu _ _ _ _ => true
  | .div _ _ _ _ => true
  | .divu _ _ _ _ => true
  | .rem _ _ _ _ => true
  | .remu _ _ _ _ => true
  | .mulW _ _ _ _ => true
  | .mulhW _ _ _ _ => true
  | .mulhuW _ _ _ _ => true
  | .divW _ _ _ _ => true
  | .divuW _ _ _ _ => true
  | .remW _ _ _ _ => true
  | .remuW _ _ _ _ => true
  | .addi _ _ _ _ => true
  | .andi _ _ _ _ => true
  | .ori _ _ _ _ => true
  | .xori _ _ _ _ => true
  | .slti _ _ _ _ => true
  | .sltiu _ _ _ _ => true
  | .slli _ _ _ _ => true
  | .srli _ _ _ _ => true
  | .srai _ _ _ _ => true
  | .slliW _ _ _ _ => true
  | .srliW _ _ _ _ => true
  | .sraiW _ _ _ _ => true
  | .lui _ _ _ => true
  | .auipc _ _ _ => true
  | .beq _ _ _ _ => true
  | .bne _ _ _ _ => true
  | .blt _ _ _ _ => true
  | .bge _ _ _ _ => true
  | .bltu _ _ _ _ => true
  | .bgeu _ _ _ _ => true
  | .jal _ _ => true
  | .jalr _ _ _ _ => true
  | .bpredAny _ _ _ => true
  | .bpredAll _ _ _ => true
  | .bpredNone _ _ _ => true
  | .bpredNall _ _ _ => true
  | .ld _ _ _ _ _ => true
  | .st _ _ _ _ _ => true
  | .ldl _ _ _ _ _ => true
  | .stl _ _ _ _ _ => true
  | .phaseR _ _ => true
  | .phaseA _ _ => true
  | .phaseRa _ _ => true
  | .qfence _ _ => true
  | .fencei _ => true
  | .prefL1 _ _ => true
  | .prefHome _ _ => true
  | .amoadd _ _ _ _ _ => true
  | .amoand _ _ _ _ _ => true
  | .amoor _ _ _ _ _ => true
  | .amoxor _ _ _ _ _ => true
  | .amomin _ _ _ _ _ => true
  | .amomax _ _ _ _ _ => true
  | .amominu _ _ _ _ _ => true
  | .amomaxu _ _ _ _ _ => true
  | .amoswap _ _ _ _ _ => true
  | .amocas _ _ _ _ _ => true
  | .amofadd32 _ _ _ _ => true
  | .amofxadd _ _ _ _ => true
  | .lrw _ _ _ => true
  | .sch _ _ _ => true
  | .rrel _ _ => true
  | .enq _ _ _ _ => true
  | .deq _ _ _ => true
  | .enqNw _ _ _ _ => true
  | .deqNw _ _ _ => true
  | .prpub _ _ _ => true
  | .prwait _ _ => true
  | .prtest _ _ _ => true
  | .prtake _ _ _ => true
  | .prgen _ _ _ _ => true
  | .prarm _ _ _ _ => true
  | .vadd _ _ _ _ _ _ => true
  | .vsub _ _ _ _ _ _ => true
  | .vmul _ _ _ _ _ _ => true
  | .vmulh _ _ _ _ _ _ => true
  | .vmad _ _ _ _ _ _ => true
  | .vmin _ _ _ _ _ _ => true
  | .vmax _ _ _ _ _ _ => true
  | .vand _ _ _ _ _ _ => true
  | .vor _ _ _ _ _ _ => true
  | .vxor _ _ _ _ _ _ => true
  | .vsll _ _ _ _ _ _ => true
  | .vsrl _ _ _ _ _ _ => true
  | .vsra _ _ _ _ _ _ => true
  | .vabs _ _ _ _ _ => true
  | .vneg _ _ _ _ _ => true
  | .vaddVs _ _ _ _ _ _ => true
  | .vsubVs _ _ _ _ _ _ => true
  | .vmulVs _ _ _ _ _ _ => true
  | .vmulhVs _ _ _ _ _ _ => true
  | .vmadVs _ _ _ _ _ _ => true
  | .vminVs _ _ _ _ _ _ => true
  | .vmaxVs _ _ _ _ _ _ => true
  | .vandVs _ _ _ _ _ _ => true
  | .vorVs _ _ _ _ _ _ => true
  | .vxorVs _ _ _ _ _ _ => true
  | .vsllVs _ _ _ _ _ _ => true
  | .vsrlVs _ _ _ _ _ _ => true
  | .vsraVs _ _ _ _ _ _ => true
  | .vaddVi _ _ _ _ _ _ => true
  | .vsubVi _ _ _ _ _ _ => true
  | .vmulVi _ _ _ _ _ _ => true
  | .vmulhVi _ _ _ _ _ _ => true
  | .vmadVi _ _ _ _ _ _ => true
  | .vminVi _ _ _ _ _ _ => true
  | .vmaxVi _ _ _ _ _ _ => true
  | .vandVi _ _ _ _ _ _ => true
  | .vorVi _ _ _ _ _ _ => true
  | .vxorVi _ _ _ _ _ _ => true
  | .vsllVi _ _ _ _ _ _ => true
  | .vsrlVi _ _ _ _ _ _ => true
  | .vsraVi _ _ _ _ _ _ => true
  | .fadd _ _ _ _ _ _ => true
  | .fsub _ _ _ _ _ _ => true
  | .fmul _ _ _ _ _ _ => true
  | .fma _ _ _ _ _ _ => true
  | .fmin _ _ _ _ _ _ => true
  | .fmax _ _ _ _ _ _ => true
  | .fabs _ _ _ _ _ => true
  | .fneg _ _ _ _ _ => true
  | .faddVs _ _ _ _ _ _ => true
  | .fsubVs _ _ _ _ _ _ => true
  | .fmulVs _ _ _ _ _ _ => true
  | .fmaVs _ _ _ _ _ _ => true
  | .fminVs _ _ _ _ _ _ => true
  | .fmaxVs _ _ _ _ _ _ => true
  | .vcmpEq _ _ _ _ _ _ => true
  | .vcmpNe _ _ _ _ _ _ => true
  | .vcmpLt _ _ _ _ _ _ => true
  | .vcmpLe _ _ _ _ _ _ => true
  | .vcmpLtu _ _ _ _ _ _ => true
  | .vcmpLeu _ _ _ _ _ _ => true
  | .fcmpEq _ _ _ _ _ _ => true
  | .fcmpNe _ _ _ _ _ _ => true
  | .fcmpLt _ _ _ _ _ _ => true
  | .fcmpLe _ _ _ _ _ _ => true
  | .fcmpUn _ _ _ _ _ _ => true
  | .vsel _ _ _ _ _ _ => true
  | .vmov _ _ _ _ _ => true
  | .vbcast _ _ _ _ _ => true
  | .vext _ _ _ _ _ => true
  | .vperm _ _ _ _ _ _ => true
  | .vzip _ _ _ _ _ _ => true
  | .vuzp _ _ _ _ _ _ => true
  | .vslideUp _ _ _ _ _ _ => true
  | .vslideDn _ _ _ _ _ _ => true
  | .vbcasthBf16 _ _ _ => true
  | .vbcasthF32 _ _ _ => true
  | .vld _ _ _ _ _ _ => true
  | .vst _ _ _ _ _ _ => true
  | .vlds _ _ _ _ _ _ => true
  | .vsts _ _ _ _ _ _ => true
  | .vgath _ _ _ _ _ _ => true
  | .vscat _ _ _ _ _ _ => true
  | .vcvt _ _ _ _ _ _ _ => true
  | .vqnt _ _ _ _ _ _ => true
  | .vqps _ _ _ _ _ _ _ => true
  | .vdq _ _ _ _ _ _ _ => true
  | .vhad32 _ _ _ _ _ _ => true
  | .vmaxx _ _ _ _ _ _ => true
  | .vunpk5 _ _ _ _ _ => true
  | .vpack5 _ _ _ _ _ => true
  | .vsfu _ _ _ _ _ _ => true
  | .vred _ _ _ _ _ _ => true
  | .vwhile _ _ _ _ _ => true
  | .vwidth _ _ _ => true
  | .vrep _ _ _ => true
  | .pand _ _ _ _ _ => true
  | .por _ _ _ _ _ => true
  | .pxor _ _ _ _ _ => true
  | .pnot _ _ _ _ => true
  | .pcnt _ _ _ _ _ => true
  | .pfirst _ _ _ _ _ => true
  | .mcfg _ _ => true
  | .mldwT64 _ _ _ _ => true
  | .mldwC64 _ _ _ _ => true
  | .mstep _ _ _ _ => true
  | .mzero _ _ => true
  | .mswapL _ => true
  | .mswapA _ => true
  | .mswapLa _ => true
  | .mdrain _ _ _ _ _ _ _ => true
  | .mstat _ _ _ _ => true
  | .mwait _ => true
  | .pbind _ _ _ _ => true
  | .punbind _ _ => true
  | .pstat _ _ _ => true
  | .pskip _ _ _ => true
  | .cpy _ _ _ _ _ => true
  | .cpyt _ _ _ _ _ => true
  | .cpyd _ _ _ _ _ => true
  | .cpys _ _ _ _ _ => true
  | .spawn _ _ _ => true
  | .spawnl _ _ _ => true
  | .migrate _ _ => true
  | .yield _ => true
  | .sleep _ => true
  | .cbar _ => true
  | .exit _ => true
  | .msend _ _ _ => true
  | .mrecv _ _ _ => true
  | .rqpush _ _ _ _ => true
  | .rqpop _ _ _ => true
  | .tmrset _ _ _ => true
  | .csrr _ _ _ => true
  | .csrw _ _ _ _ => true
  | .csrs _ _ _ _ => true
  | .csrc _ _ _ _ => true
  | .uret _ => true
  | .trapu _ _ => true
  | .svc _ _ _ _ => true
  | .sret _ _ _ => true
  | .dtinvPage _ _ => true
  | .dtinvCtx _ _ => true
  | .dtinvAll _ _ => true
  | .dtrep _ _ => true
  | .dtrepFail _ _ _ => true
  | .dtqry _ _ _ _ => true
  | .spls _ _ _ => true
  | .splr _ _ _ => true
  | .freeze _ _ => true
  | .thaw _ _ => true
  | .rgnw _ _ _ _ => true
  | .puw _ _ _ _ => true
  | .commit _ _ _ => true
  | .illegalInstruction _ => false
  | .userTrapEntry => false
  | .timerFire _ => false
  | .resultArrive _ => false
  | .storeMerge _ _ => false
  | .mergeAtHome _ => false
  | .fillAtHome _ => false
  | .phaseReleaseComplete _ => false
  | .kindQueryReply _ => false
  | .hostWindowWriteSend _ => false
  | .bankAmoPerform _ => false
  | .bankLrw _ => false
  | .bankSch _ => false
  | .bankRrel _ => false
  | .bankEnq _ => false
  | .bankDeq _ => false
  | .waiterRecordFree _ => false
  | .proofPublishAtHome _ => false
  | .proofWaitAtHome _ => false
  | .proofTakeAtHome _ => false
  | .proofTestAtHome _ => false
  | .proofReply _ => false
  | .vsfuServe _ => false
  | .readStreamFetch _ _ => false
  | .writeStreamSend _ _ => false
  | .channelWordArrive _ _ => false
  | .mcfgPerform _ => false
  | .mstepPerform _ => false
  | .mzeroPerform _ => false
  | .mswapPerform _ => false
  | .mldwLoadDone _ => false
  | .mdrainCapture _ => false
  | .mdrainWriteDone _ => false
  | .mstatPerform _ => false
  | .cpyPerform _ => false
  | .cpytPerform _ => false
  | .cpydPerform _ => false
  | .cpysPerform _ => false
  | .copyCompletion _ => false
  | .mailboxAccept _ => false
  | .migrateArrive _ => false
  | .runQueueDispatch _ => false
  | .launchUnitAccept _ => false
  | .queueTailWrite _ _ => false
  | .queueReset _ => false
  | .queueDisable _ => false
  | .queueEnable _ => false
  | .registerWrite _ _ _ => false
  | .launch _ _ => false
  | .launchp _ _ => false
  | .callib _ => false
  | .signal _ => false
  | .wait _ => false
  | .waitSignalPoll _ => false
  | .waitConditionMet _ => false
  | .copy _ => false
  | .loadshard _ => false
  | .commandComplete _ _ => false
  | .coursePlace _ => false
  | .chordArmed _ _ => false
  | .chordDispatch _ => false
  | .chordEnd _ => false
  | .gridComplete _ => false
  | .gridFaulted _ => false
  | .slotSpill _ => false
  | .chordSpill _ => false
  | .chordRestore _ => false
  | .rescueCheck _ => false
  | .waitforWalk _ => false
  | .thermalSlotChange _ _ _ => false
  | .timesliceRotate _ => false
  | .suspend _ => false
  | .ctxResume _ => false
  | .ctxMigrate _ _ => false
  | .release _ => false
  | .guestTake _ => false
  | .guestWaithSatisfied _ => false
  | .guestDone _ _ => false
  | .guestFault _ _ _ => false
  | .guestReturn _ _ => false
  | .parked _ => false
  | .parklate _ => false
  | .trq _ _ _ => false
  | .invack _ => false
  | .invlate _ => false
  | .ready => false
  | .readyTimeout => false
  | .guestCoherentRequest _ _ _ => false
  | .guestReset => false
  | .guestRailOverload => false
  | .dtuTranslate _ => false
  | .walkComplete _ _ _ => false
  | .stationReissue _ => false
  | .managementRecordHandle _ => false
  | .inboundWrite _ _ _ _ => false
  | .inboundRead _ _ _ => false
  | .hostReadCompletion _ _ _ => false
  | .completionTimeout _ => false
  | .stringFlitArrive _ => false
  | .meshFlitRetry _ _ => false
  | .linkFail _ _ => false
  | .linkdown => false
  | .uncorrectableError _ => false
  | .sliceScrub _ => false
  | .stationSelfTest _ _ => false
  | .shardCheck _ => false
  | .shardLoadTimeout _ => false
  | .shardRecheck _ => false
  | .rasClear _ _ => false
  | .stage _ => false
  | .fwVerifyDone _ _ _ => false
  | .activate _ => false
  | .abort => false
  | .trialDeadline => false
  | .packageReset => false
  | .ringTokenTimeout => false
  | .thermalThreshold _ _ => false
  | .thermtrip => false
  | .badcmd _ => false
  | .channelCreditReturn _ _ => false
  | .thermalTransferArrive _ => false
  | .linkRetrainComplete _ => false
  | .configurationRequest _ => false
  | .perstDeassertion _ _ _ => false
  | .powerRemoval => false
  | .guestSnoopResponse _ _ => false
  | .contextCreation _ _ _ _ => false
  | .contextDestruction _ => false

end Sys2Proof
end

