-- ==== Sys2Proof/Decode.lean ====
section
/-! DEFINITION. The decoder, total on any bytes, and the encoder, both from the encoding tables of
R45 to R63 and the operand kinds of the instruction descriptions. A word that is no instruction is rejected
with the detail of R53 that comes first in the order of R54. The details that need the executing strand
(PRIVILEGED, BADCSR, and a y or w register named by a loose strand) are found when the word is executed. -/

namespace Sys2Proof

/-- The details of R53, in its numbering. -/
inductive Detail where
  | badMajor | badFn | badField | badType | badOpnd | privileged | badCsr | other
  deriving DecidableEq, Repr

/-- The detail number of R53. -/
def Detail.code : Detail → Nat
  | .badMajor => 0 | .badFn => 1 | .badField => 2 | .badType => 3
  | .badOpnd => 4 | .privileged => 5 | .badCsr => 6 | .other => 7

/-- What decoding answers: an instruction, or why the word is none. -/
abbrev Decoded := Except Detail Instr

/-- The fields that every form is cut from (R46, R47): [31:26], [25:21], [20:16], [15:11], [10], [9:0]. -/
structure Fields where
  maj : Nat
  f1 : Nat
  f2 : Nat
  f3 : Nat
  e : Bool
  lo : Nat
  deriving DecidableEq, Repr

/-- Cutting a word into its fields. -/
def Fields.ofWord (w : BitVec 32) : Fields where
  maj := w.toNat / 2 ^ 26
  f1 := w.toNat / 2 ^ 21 % 32
  f2 := w.toNat / 2 ^ 16 % 32
  f3 := w.toNat / 2 ^ 11 % 32
  e := decide (w.toNat / 2 ^ 10 % 2 = 1)
  lo := w.toNat % 2 ^ 10

/-- Putting the fields together. -/
def Fields.toWord (f : Fields) : BitVec 32 :=
  BitVec.ofNat 32 ((((f.maj * 32 + f.f1) * 32 + f.f2) * 32 + f.f3) * 2048 + (if f.e then 1024 else 0) + f.lo)

/-- R53's source of a major: 1 vector, 2 matrix, 3 copy, 0 scalar. -/
def sourceOf (maj : Nat) : Nat :=
  if 0x20 ≤ maj ∧ maj ≤ 0x2A then 1 else if maj = 0x30 then 2 else if maj = 0x31 then 3 else 0

/-! ### Fields (R29, R48, R49, R60) -/

/-- A 5-bit scalar field (R29). -/
def sregOf (n : Nat) : SReg := if n < 16 then .x (Fin.ofNat 16 n) else .y (Fin.ofNat 16 (n - 16))

/-- A 5-bit vector field (R29). -/
def vregOf (n : Nat) : VReg :=
  if n < 16 then .v (Fin.ofNat 16 n) else if n < 24 then .w (Fin.ofNat 8 (n - 16)) else .q (Fin.ofNat 8 (n - 24))

/-- A 3-bit predicate field. -/
def pregOf (n : Nat) : PReg := Fin.ofNat 8 n

/-- Form B's imm15 and Form D's off15 (R48). -/
def imm15 (f : Fields) : BitVec 15 := BitVec.ofNat 15 (f.f3 * 1024 + f.lo)

/-- Form Bm's imm12 (R48). -/
def imm12 (f : Fields) : BitVec 12 := BitVec.ofNat 12 (f.f3 % 4 * 1024 + f.lo)

/-- Form C's imm20 (R48). -/
def imm20 (f : Fields) : BitVec 20 := BitVec.ofNat 20 (f.f2 * 2 ^ 15 + f.f3 * 2 ^ 10 + f.lo)

/-- Form J's off21 (R48): bit 10 is part of the offset (R51). -/
def off21 (f : Fields) : BitVec 21 :=
  BitVec.ofNat 21 (f.f2 * 2 ^ 16 + f.f3 * 2 ^ 11 + (if f.e then 1024 else 0) + f.lo)

/-- The fields of Form V (R46): vd, va, vb, e, pg, ty, fn. -/
structure VFields where
  f1 : Nat
  f2 : Nat
  f3 : Nat
  e : Bool
  pg : Nat
  ty : Nat
  fn : Nat
  deriving DecidableEq, Repr

/-- Form V's low bits are pg [9:7], ty [6:4] and fn [3:0]. -/
def Fields.v (f : Fields) : VFields := ⟨f.f1, f.f2, f.f3, f.e, f.lo / 128, f.lo / 16 % 8, f.lo % 16⟩

/-- The fields of Form M (R46): a, b, c, e, fn, imm6. -/
structure MFields where
  f1 : Nat
  f2 : Nat
  f3 : Nat
  e : Bool
  fn : Nat
  imm : Nat
  deriving DecidableEq, Repr

/-- Form M's low bits are fn [9:6] and imm6 [5:0]. -/
def Fields.m (f : Fields) : MFields := ⟨f.f1, f.f2, f.f3, f.e, f.lo / 64, f.lo % 64⟩

/-- The element type of a ty code (R60). -/
def ety : Nat → Option ETy
  | 0 => some .i8 | 1 => some .i16 | 2 => some .i32 | 3 => some .i64 | 4 => some .bf16 | 5 => some .f32
  | _ => none

/-- The integer type of a ty code. -/
def ity : Nat → Option ITy
  | 0 => some .i8 | 1 => some .i16 | 2 => some .i32 | 3 => some .i64 | _ => none

/-- The floating type of a ty code. -/
def fty : Nat → Option FTy
  | 4 => some .bf16 | 5 => some .f32 | _ => none

/-- A type selector that must be legal: BADTYPE otherwise. -/
def typed {α : Type} (o : Option α) (k : α → Decoded) : Decoded :=
  match o with
  | some a => k a
  | none => .error .badType

/-- A condition on selectors: BADTYPE unless it holds. -/
def needType (c : Bool) (k : Decoded) : Decoded := if c then k else .error .badType

/-- Reserved bits that must be zero: BADFIELD unless the condition holds. -/
def needField (c : Bool) (k : Decoded) : Decoded := if c then k else .error .badField

/-- A register that its field must accept: BADOPND unless the condition holds. -/
def needOpnd (c : Bool) (k : Decoded) : Decoded := if c then k else .error .badOpnd

/-! ### Shapes -/

/-- d, a, b of Form A. -/
def shDAB (c : SReg → SReg → SReg → Bool → Instr) (f : Fields) : Decoded :=
  .ok (c (sregOf f.f1) (sregOf f.f2) (sregOf f.f3) f.e)

/-- d, a; b unused. -/
def shDA (c : SReg → SReg → Bool → Instr) (f : Fields) : Decoded :=
  needField (f.f3 == 0) (.ok (c (sregOf f.f1) (sregOf f.f2) f.e))

/-- a, b; d unused. -/
def shAB (c : SReg → SReg → Bool → Instr) (f : Fields) : Decoded :=
  needField (f.f1 == 0) (.ok (c (sregOf f.f2) (sregOf f.f3) f.e))

/-- a; d and b unused. -/
def shA (c : SReg → Bool → Instr) (f : Fields) : Decoded :=
  needField (f.f1 == 0 && f.f3 == 0) (.ok (c (sregOf f.f2) f.e))

/-- No operand, in Form M. -/
def shM0 (c : Bool → Instr) (f : MFields) : Decoded :=
  needField (f.f1 == 0 && f.f2 == 0 && f.f3 == 0) (.ok (c f.e))

/-- No operand. -/
def sh0 (c : Bool → Instr) (f : Fields) : Decoded :=
  needField (f.f1 == 0 && f.f2 == 0 && f.f3 == 0) (.ok (c f.e))

/-- d, a and imm15 of Form B. -/
def shB (c : SReg → SReg → BitVec 15 → Bool → Instr) (f : Fields) : Decoded :=
  .ok (c (sregOf f.f1) (sregOf f.f2) (imm15 f) f.e)

/-- a, b and off15 of Form D: a in [25:21], b in [20:16]. -/
def shD (c : SReg → SReg → BitVec 15 → Bool → Instr) (f : Fields) : Decoded :=
  .ok (c (sregOf f.f1) (sregOf f.f2) (imm15 f) f.e)

/-- vd, va, vb and pg of Form V. -/
def shV3 (c : VReg → VReg → VReg → PReg → Bool → Instr) (f : VFields) : Decoded :=
  .ok (c (vregOf f.f1) (vregOf f.f2) (vregOf f.f3) (pregOf (f.pg)) f.e)

/-- vd, va and pg; vb unused. -/
def shV2 (c : VReg → VReg → PReg → Bool → Instr) (f : VFields) : Decoded :=
  needField (f.f3 == 0) (.ok (c (vregOf f.f1) (vregOf f.f2) (pregOf (f.pg)) f.e))

/-- vd, va, a scalar in vb, and pg. -/
def shVS (c : VReg → VReg → SReg → PReg → Bool → Instr) (f : VFields) : Decoded :=
  .ok (c (vregOf f.f1) (vregOf f.f2) (sregOf f.f3) (pregOf (f.pg)) f.e)

/-- vd, va, the immediate in vb, and pg. -/
def shVI (c : VReg → VReg → BitVec 5 → PReg → Bool → Instr) (f : VFields) : Decoded :=
  .ok (c (vregOf f.f1) (vregOf f.f2) (BitVec.ofNat 5 f.f3) (pregOf (f.pg)) f.e)

/-- A predicate in vd, va, vb and pg. -/
def shP3 (c : PReg → VReg → VReg → PReg → Bool → Instr) (f : VFields) : Decoded :=
  needField (f.f1 < 8) (.ok (c (pregOf f.f1) (vregOf f.f2) (vregOf f.f3) (pregOf (f.pg)) f.e))

/-! ### The majors -/

/-- Major 0x01 (R56, R107). -/
def decAlu64 (f : Fields) : Decoded :=
  match f.lo with
  | 0x000 => shDAB .add f | 0x001 => shDAB .sub f | 0x002 => shDAB .and f | 0x003 => shDAB .or f
  | 0x004 => shDAB .xor f | 0x005 => shDAB .sll f | 0x006 => shDAB .srl f | 0x007 => shDAB .sra f
  | 0x008 => shDAB .slt f | 0x009 => shDAB .sltu f | 0x00A => shDAB .min f | 0x00B => shDAB .max f
  | 0x00C => shDAB .minu f | 0x00D => shDAB .maxu f | 0x00E => shDA .clz f | 0x00F => shDA .ctz f
  | 0x010 => shDA .popc f | 0x011 => shDA .sextB f | 0x012 => shDA .sextH f | 0x013 => shDA .sextW f
  | 0x014 => shDA .zextB f | 0x015 => shDA .zextH f | 0x016 => shDA .zextW f | 0x017 => shDAB .sel f
  | _ => .error .badFn

/-- Major 0x02 (R56, R109). -/
def decAlu32 (f : Fields) : Decoded :=
  match f.lo with
  | 0x000 => shDAB .addW f | 0x001 => shDAB .subW f | 0x002 => shDAB .andW f | 0x003 => shDAB .orW f
  | 0x004 => shDAB .xorW f | 0x005 => shDAB .sllW f | 0x006 => shDAB .srlW f | 0x007 => shDAB .sraW f
  | 0x008 => shDAB .sltW f | 0x009 => shDAB .sltuW f | 0x00A => shDAB .minW f | 0x00B => shDAB .maxW f
  | 0x00C => shDAB .minuW f | 0x00D => shDAB .maxuW f | 0x00E => shDA .clzW f | 0x00F => shDA .ctzW f
  | 0x010 => shDA .popcW f
  | _ => .error .badFn

/-- Major 0x03 (R56, R110). -/
def decMulDiv (f : Fields) : Decoded :=
  match f.lo with
  | 0x000 => shDAB .mul f | 0x001 => shDAB .mulh f | 0x002 => shDAB .mulhu f | 0x003 => shDAB .div f
  | 0x004 => shDAB .divu f | 0x005 => shDAB .rem f | 0x006 => shDAB .remu f
  | 0x100 => shDAB .mulW f | 0x101 => shDAB .mulhW f | 0x102 => shDAB .mulhuW f | 0x103 => shDAB .divW f
  | 0x104 => shDAB .divuW f | 0x105 => shDAB .remW f | 0x106 => shDAB .remuW f
  | _ => .error .badFn

/-- Major 0x0A (R57): imm15 is f3[4:3] kind, f3[2] .w, {f3[1:0], lo[9:6]} reserved, lo[5:0] the amount. -/
def decShift (f : Fields) : Decoded :=
  let sh := f.lo % 64
  needType (f.f3 / 8 != 3) <|
  needType (f.f3 / 4 % 2 == 0 || sh < 32) <|
  needField (f.f3 % 4 == 0 && f.lo / 64 == 0) <|
  match f.f3 / 4 with
  | 0 => .ok (.slli (sregOf f.f1) (sregOf f.f2) (BitVec.ofNat 6 sh) f.e)
  | 1 => .ok (.slliW (sregOf f.f1) (sregOf f.f2) (BitVec.ofNat 5 sh) f.e)
  | 2 => .ok (.srli (sregOf f.f1) (sregOf f.f2) (BitVec.ofNat 6 sh) f.e)
  | 3 => .ok (.srliW (sregOf f.f1) (sregOf f.f2) (BitVec.ofNat 5 sh) f.e)
  | 4 => .ok (.srai (sregOf f.f1) (sregOf f.f2) (BitVec.ofNat 6 sh) f.e)
  | _ => .ok (.sraiW (sregOf f.f1) (sregOf f.f2) (BitVec.ofNat 5 sh) f.e)

/-- Major 0x18 (R115): the predicate in [25:21], the test in [20:16]. -/
def decBpred (f : Fields) : Decoded :=
  needField (decide (f.f1 < 8) && decide (f.f2 < 4)) <|
  match f.f2 with
  | 0 => .ok (.bpredAny (pregOf f.f1) (imm15 f) f.e)
  | 1 => .ok (.bpredAll (pregOf f.f1) (imm15 f) f.e)
  | 2 => .ok (.bpredNone (pregOf f.f1) (imm15 f) f.e)
  | _ => .ok (.bpredNall (pregOf f.f1) (imm15 f) f.e)

/-- The access size of sz[1:0] (R68). -/
def sizeOf4 : Nat → Size
  | 0 => .b | 1 => .h | 2 => .w | _ => .d

/-- LD's sz (R68, R120): 7 is reserved. -/
def ldSizeOf : Nat → Option LdSize
  | 0 => some .b | 1 => some .h | 2 => some .w | 3 => some .d | 4 => some .bu | 5 => some .hu | 6 => some .wu
  | _ => none

/-- Major 0x19 (R120). -/
def decLd (f : Fields) : Decoded :=
  typed (ldSizeOf (f.f3 / 4)) fun sz => .ok (.ld sz (sregOf f.f1) (sregOf f.f2) (imm12 f) f.e)

/-- Major 0x1A (R121): sz 0 to 3. -/
def decSt (f : Fields) : Decoded :=
  needType (f.f3 / 4 < 4) (.ok (.st (sizeOf4 (f.f3 / 4)) (sregOf f.f1) (sregOf f.f2) (imm12 f) f.e))

/-- Major 0x1B (R124): sz 0 to 3 LDL, 4 to 7 STL. -/
def decLdl (f : Fields) : Decoded :=
  if f.f3 / 4 < 4 then .ok (.ldl (sizeOf4 (f.f3 / 4)) (sregOf f.f1) (sregOf f.f2) (imm12 f) f.e)
  else .ok (.stl (sizeOf4 (f.f3 / 4 - 4)) (sregOf f.f1) (sregOf f.f2) (imm12 f) f.e)

/-- PHASE's scope (R58). -/
def scopeOf : Nat → Option Scope
  | 0 => some .station | 1 => some .die | 2 => some .package | 3 => some .ring | 4 => some .system | _ => none

/-- Major 0x1C (R58). -/
def decPhase (f : Fields) : Decoded :=
  let low := f.lo % 64
  match f.lo / 64 with
  | 0 =>
    needType (low / 16 != 0) <| typed (scopeOf (low % 8)) fun sc =>
    needField (low / 8 % 2 == 0 && f.f1 == 0 && f.f2 == 0 && f.f3 == 0) <|
    match low / 16 with
    | 1 => .ok (.phaseR sc f.e)
    | 2 => .ok (.phaseA sc f.e)
    | _ => .ok (.phaseRa sc f.e)
  | 1 => needType (low != 0) <| needField (decide (low < 16)) <| sh0 (.qfence (BitVec.ofNat 4 low)) f
  | 2 => needField (low == 0) <| sh0 .fencei f
  | 3 =>
    needType (low % 4 < 2) <| needField (low / 4 == 0) <|
    if low % 4 = 0 then shA .prefL1 f else shA .prefHome f
  | _ => .error .badFn

/-- Major 0x1D (R59). -/
def decAmo (f : Fields) : Decoded :=
  let d := f.lo / 16 % 2 == 1
  let k (c : SReg → SReg → SReg → Bool → Instr) := needField (f.lo / 32 == 0) (shDAB c f)
  match f.lo % 16 with
  | 0 => k (.amoadd d) | 1 => k (.amoand d) | 2 => k (.amoor d) | 3 => k (.amoxor d)
  | 4 => k (.amomin d) | 5 => k (.amomax d) | 6 => k (.amominu d) | 7 => k (.amomaxu d)
  | 8 => k (.amoswap d) | 9 => k (.amocas d)
  | 10 => needType (!d) (k .amofadd32)
  | 11 => needType d (k .amofxadd)
  | _ => .error .badFn

/-- Major 0x1E (R56, R226, R229). -/
def decSync (f : Fields) : Decoded :=
  match f.lo with
  | 0 => shDA .lrw f
  | 1 => shAB .sch f
  | 2 => shA .rrel f
  | 3 => .ok (.enq (sregOf f.f1) (sregOf f.f2) (vregOf f.f3) f.e)
  | 4 => needField (f.f3 == 0) <| needOpnd (!(vregOf f.f1).isQ) (.ok (.deq (vregOf f.f1) (sregOf f.f2) f.e))
  | 5 => .ok (.enqNw (sregOf f.f1) (sregOf f.f2) (vregOf f.f3) f.e)
  | 6 => needField (f.f3 == 0) <| needOpnd (!(vregOf f.f1).isQ) (.ok (.deqNw (vregOf f.f1) (sregOf f.f2) f.e))
  | _ => .error .badFn

/-- Major 0x1F (R56, R261 to R264). -/
def decProof (f : Fields) : Decoded :=
  match f.lo with
  | 0 => shAB .prpub f | 1 => shA .prwait f | 2 => shDA .prtest f | 3 => shDA .prtake f
  | 4 => shDAB .prgen f | 5 => shDAB .prarm f
  | _ => .error .badFn

/-- Major 0x20 (R60, R133). -/
def decVint (f : VFields) : Decoded :=
  if f.fn = 15 then .error .badFn else
  typed (ity f.ty) fun ty =>
  match f.fn with
  | 0 => shV3 (.vadd ty) f | 1 => shV3 (.vsub ty) f | 2 => shV3 (.vmul ty) f | 3 => shV3 (.vmulh ty) f
  | 4 => shV3 (.vmad ty) f | 5 => shV3 (.vmin ty) f | 6 => shV3 (.vmax ty) f | 7 => shV3 (.vand ty) f
  | 8 => shV3 (.vor ty) f | 9 => shV3 (.vxor ty) f | 10 => shV3 (.vsll ty) f | 11 => shV3 (.vsrl ty) f
  | 12 => shV3 (.vsra ty) f | 13 => shV2 (.vabs ty) f | _ => shV2 (.vneg ty) f

/-- Major 0x28 (R60, R133): a scalar second operand. -/
def decVintS (f : VFields) : Decoded :=
  if 13 ≤ f.fn then .error .badFn else
  typed (ity f.ty) fun ty =>
  match f.fn with
  | 0 => shVS (.vaddVs ty) f | 1 => shVS (.vsubVs ty) f | 2 => shVS (.vmulVs ty) f | 3 => shVS (.vmulhVs ty) f
  | 4 => shVS (.vmadVs ty) f | 5 => shVS (.vminVs ty) f | 6 => shVS (.vmaxVs ty) f | 7 => shVS (.vandVs ty) f
  | 8 => shVS (.vorVs ty) f | 9 => shVS (.vxorVs ty) f | 10 => shVS (.vsllVs ty) f | 11 => shVS (.vsrlVs ty) f
  | _ => shVS (.vsraVs ty) f

/-- Major 0x2A (R60, R133): an immediate second operand. -/
def decVintI (f : VFields) : Decoded :=
  if 13 ≤ f.fn then .error .badFn else
  typed (ity f.ty) fun ty =>
  match f.fn with
  | 0 => shVI (.vaddVi ty) f | 1 => shVI (.vsubVi ty) f | 2 => shVI (.vmulVi ty) f | 3 => shVI (.vmulhVi ty) f
  | 4 => shVI (.vmadVi ty) f | 5 => shVI (.vminVi ty) f | 6 => shVI (.vmaxVi ty) f | 7 => shVI (.vandVi ty) f
  | 8 => shVI (.vorVi ty) f | 9 => shVI (.vxorVi ty) f | 10 => shVI (.vsllVi ty) f | 11 => shVI (.vsrlVi ty) f
  | _ => shVI (.vsraVi ty) f

/-- Major 0x21 (R60, R134). -/
def decVfp (f : VFields) : Decoded :=
  if 8 ≤ f.fn then .error .badFn else
  typed (fty f.ty) fun ty =>
  match f.fn with
  | 0 => shV3 (.fadd ty) f | 1 => shV3 (.fsub ty) f | 2 => shV3 (.fmul ty) f | 3 => shV3 (.fma ty) f
  | 4 => shV3 (.fmin ty) f | 5 => shV3 (.fmax ty) f | 6 => shV2 (.fabs ty) f | _ => shV2 (.fneg ty) f

/-- Major 0x29 (R60, R134): a scalar second operand. -/
def decVfpS (f : VFields) : Decoded :=
  if 6 ≤ f.fn then .error .badFn else
  typed (fty f.ty) fun ty =>
  match f.fn with
  | 0 => shVS (.faddVs ty) f | 1 => shVS (.fsubVs ty) f | 2 => shVS (.fmulVs ty) f | 3 => shVS (.fmaVs ty) f
  | 4 => shVS (.fminVs ty) f | _ => shVS (.fmaxVs ty) f

/-- Major 0x22 (R60, R135). -/
def decVcmp (f : VFields) : Decoded :=
  match f.fn with
  | 0 => typed (ity f.ty) fun ty => shP3 (.vcmpEq ty) f
  | 1 => typed (ity f.ty) fun ty => shP3 (.vcmpNe ty) f
  | 2 => typed (ity f.ty) fun ty => shP3 (.vcmpLt ty) f
  | 3 => typed (ity f.ty) fun ty => shP3 (.vcmpLe ty) f
  | 4 => typed (ity f.ty) fun ty => shP3 (.vcmpLtu ty) f
  | 5 => typed (ity f.ty) fun ty => shP3 (.vcmpLeu ty) f
  | 8 => typed (fty f.ty) fun ty => shP3 (.fcmpEq ty) f
  | 9 => typed (fty f.ty) fun ty => shP3 (.fcmpNe ty) f
  | 10 => typed (fty f.ty) fun ty => shP3 (.fcmpLt ty) f
  | 11 => typed (fty f.ty) fun ty => shP3 (.fcmpLe ty) f
  | 12 => typed (fty f.ty) fun ty => shP3 (.fcmpUn ty) f
  | _ => .error .badFn

/-- VBCASTH's imm16 (R62). -/
def imm16 (f : VFields) : BitVec 16 :=
  BitVec.ofNat 16 (f.f2 * 2048 + f.f3 * 64 + f.pg * 8 + f.ty)

/-- Major 0x23 (R60, R62, R138). -/
def decVmove (f : VFields) : Decoded :=
  match f.fn with
  | 0 => typed (ety f.ty) fun ty => shV3 (.vsel ty) f
  | 1 => typed (ety f.ty) fun ty => shV2 (.vmov ty) f
  | 2 => typed (ety f.ty) fun ty => needField (f.f3 == 0)
      (.ok (.vbcast ty (vregOf f.f1) (sregOf f.f2) (pregOf f.pg) f.e))
  | 3 => typed (ety f.ty) fun ty => needField (f.pg == 0)
      (.ok (.vext ty (sregOf f.f1) (vregOf f.f2) (sregOf f.f3) f.e))
  | 4 => typed (ity f.ty) fun ty => shV3 (.vperm ty) f
  | 5 => typed (ety f.ty) fun ty => shV3 (.vzip ty) f
  | 6 => typed (ety f.ty) fun ty => shV3 (.vuzp ty) f
  | 7 => typed (ety f.ty) fun ty => shVS (.vslideUp ty) f
  | 8 => typed (ety f.ty) fun ty => shVS (.vslideDn ty) f
  | 9 => .ok (.vbcasthBf16 (vregOf f.f1) (imm16 f) f.e)
  | 10 => .ok (.vbcasthF32 (vregOf f.f1) (imm16 f) f.e)
  | _ => .error .badFn

/-- A vector memory instruction with scalars in va and vb: vd is no port (R139, R140). -/
def shVmem (c : ETy → VReg → SReg → SReg → PReg → Bool → Instr) (f : VFields) : Decoded :=
  typed (ety f.ty) fun ty => needOpnd (!(vregOf f.f1).isQ)
    (.ok (c ty (vregOf f.f1) (sregOf f.f2) (sregOf f.f3) (pregOf f.pg) f.e))

/-- VGATH and VSCAT: ty 1 to 5, neither vd nor vb a port (R141). -/
def shVgath (c : ETy → VReg → SReg → VReg → PReg → Bool → Instr) (f : VFields) : Decoded :=
  typed (ety f.ty) fun ty => needType (ty != .i8) <|
    needOpnd (!(vregOf f.f1).isQ && !(vregOf f.f3).isQ)
    (.ok (c ty (vregOf f.f1) (sregOf f.f2) (vregOf f.f3) (pregOf f.pg) f.e))

/-- Major 0x24 (R60). -/
def decVmem (f : VFields) : Decoded :=
  match f.fn with
  | 0 => shVmem .vld f | 1 => shVmem .vst f | 2 => shVmem .vlds f | 3 => shVmem .vsts f
  | 4 => shVgath .vgath f | 5 => shVgath .vscat f
  | _ => .error .badFn

/-- The rounding selector of major 0x25 (R61). -/
def rselOf (f : VFields) : Option RSel :=
  match f.fn / 8, f.f3 % 4 with
  | 0, 0 => some .mode
  | 0, 1 => some .sr
  | 0, _ => none
  | _, 0 => some (.explicit .rne)
  | _, 1 => some (.explicit .rtz)
  | _, 2 => some (.explicit .rdn)
  | _, _ => some (.explicit .rup)

/-- VQPS's target (R61). -/
def psFmtOf : Nat → Option PsFmt
  | 0 => some .ps3 | 1 => some .ps5 | 2 => some .ps8 | _ => none

/-- VDQ's source (R61). -/
def dqFmtOf : Nat → Option DqFmt
  | 0 => some .ps3 | 1 => some .ps5 | 2 => some .ps8 | 3 => some .mx | _ => none

/-- Major 0x25 (R61, R143 to R146). -/
def decVconv (f : VFields) : Decoded :=
  match f.fn % 8 with
  | 0 =>
    typed (ety f.ty) fun dty => typed (ety (f.f3 / 4)) fun sty => typed (rselOf f) fun rs =>
    needType (dty != sty) <| needType (rs != .sr || dty == .bf16)
    (.ok (.vcvt dty sty rs (vregOf f.f1) (vregOf f.f2) (pregOf f.pg) f.e))
  | 1 =>
    typed (fty f.ty) fun sty => typed (rselOf f) fun rs => needType (f.f3 / 4 == 0 && rs != .sr) <|
    needOpnd (vregOf f.f1).hasNext (.ok (.vqnt sty rs (vregOf f.f1) (vregOf f.f2) (pregOf f.pg) f.e))
  | 2 =>
    typed (fty f.ty) fun sty => typed (psFmtOf (f.f3 / 4)) fun fmt => typed (rselOf f) fun rs =>
    needType (rs != .sr) (.ok (.vqps fmt sty rs (vregOf f.f1) (vregOf f.f2) (pregOf f.pg) f.e))
  | 3 =>
    typed (fty f.ty) fun dty => typed (dqFmtOf (f.f3 / 4)) fun fmt => typed (rselOf f) fun rs =>
    needType (rs != .sr || dty == .bf16) <| needOpnd (fmt != .mx || (vregOf f.f2).hasNext)
    (.ok (.vdq dty fmt rs (vregOf f.f1) (vregOf f.f2) (pregOf f.pg) f.e))
  | _ => .error .badFn

/-- VSFU's function (R60). -/
def sfuFnOf : Nat → Option SfuFn
  | 0 => some .exp2 | 1 => some .log2 | 2 => some .rcp | 3 => some .rsqrt
  | 4 => some .sin | 5 => some .cos | 6 => some .tanh | 7 => some .erf | _ => none

/-- VRED's operation (R60). -/
def redOpOf : Nat → Option RedOp
  | 0 => some .add | 1 => some .min | 2 => some .max | 3 => some .minu | 4 => some .maxu | 5 => some .and
  | 6 => some .or | 7 => some .xor | 8 => some .fadd | 9 => some .fmin | 10 => some .fmax | _ => none

/-- Major 0x26 (R60, R147 to R153). -/
def decVspec (f : VFields) : Decoded :=
  match f.fn with
  | 0 => typed (ety f.ty) fun ty => needType (ty != .i8)
      (.ok (.vhad32 ty (vregOf f.f1) (vregOf f.f2) (BitVec.ofNat 5 f.f3) (pregOf f.pg) f.e))
  | 1 => typed (ety f.ty) fun ty => needType (2 ^ f.f3 < 256 / ty.size)
      (.ok (.vmaxx ty (vregOf f.f1) (vregOf f.f2) (BitVec.ofNat 5 f.f3) (pregOf f.pg) f.e))
  | 2 => needType (f.ty == 0) <| needField (decide (f.f3 < 16))
      (.ok (.vunpk5 (vregOf f.f1) (vregOf f.f2) (BitVec.ofNat 4 f.f3) (pregOf f.pg) f.e))
  | 3 => needType (f.ty == 0) <| needField (decide (f.f3 < 16))
      (.ok (.vpack5 (vregOf f.f1) (vregOf f.f2) (BitVec.ofNat 4 f.f3) (pregOf f.pg) f.e))
  | 4 => typed (fty f.ty) fun ty => typed (sfuFnOf f.f3) fun fn => needOpnd (!(vregOf f.f1).isQ)
      (.ok (.vsfu fn ty (vregOf f.f1) (vregOf f.f2) (pregOf f.pg) f.e))
  | 5 => typed (ety f.ty) fun ty => typed (redOpOf f.f3) fun op => needType (op.takes ty)
      (.ok (.vred op ty (vregOf f.f1) (vregOf f.f2) (pregOf f.pg) f.e))
  | _ => .error .badFn

/-- Predicates in vd, va and vb, and pg, with ty 0 (R137). -/
def shPpp (c : PReg → PReg → PReg → PReg → Bool → Instr) (f : VFields) : Decoded :=
  needType (f.ty == 0) <| needField (decide (f.f1 < 8) && decide (f.f2 < 8) && decide (f.f3 < 8))
    (.ok (c (pregOf f.f1) (pregOf f.f2) (pregOf f.f3) (pregOf f.pg) f.e))

/-- Major 0x27 (R60, R136, R137, R154). -/
def decVpred (f : VFields) : Decoded :=
  match f.fn with
  | 0 => typed (ety f.ty) fun ty => needField (decide (f.f1 < 8) && f.pg == 0)
      (.ok (.vwhile ty (pregOf f.f1) (sregOf f.f2) (sregOf f.f3) f.e))
  | 1 => typed (ety f.ty) fun ty => needField (f.f2 == 0 && f.f3 == 0 && f.pg == 0)
      (.ok (.vwidth ty (sregOf f.f1) f.e))
  | 2 => needField (f.f1 == 0 && decide (f.f3 < 16) && f.pg == 0 && f.ty == 0)
      (.ok (.vrep (sregOf f.f2) (BitVec.ofNat 4 f.f3) f.e))
  | 3 => shPpp .pand f | 4 => shPpp .por f | 5 => shPpp .pxor f
  | 6 => needType (f.ty == 0) <| needField (decide (f.f1 < 8) && decide (f.f2 < 8) && f.f3 == 0)
      (.ok (.pnot (pregOf f.f1) (pregOf f.f2) (pregOf f.pg) f.e))
  | 7 => typed (ety f.ty) fun ty => needField (decide (f.f2 < 8) && f.f3 == 0)
      (.ok (.pcnt ty (sregOf f.f1) (pregOf f.f2) (pregOf f.pg) f.e))
  | 8 => typed (ety f.ty) fun ty => needField (decide (f.f1 < 8) && decide (f.f2 < 8) && f.f3 == 0)
      (.ok (.pfirst ty (pregOf f.f1) (pregOf f.f2) (pregOf f.pg) f.e))
  | _ => .error .badFn

/-- The completion action of imm6[3:2] (R171, R238). -/
def complOf : Nat → Option Compl
  | 0 => some .none | 1 => some .pub | 2 => some .msg | _ => none

/-- MDRAIN's format (R171). -/
def drainFmtOf : Nat → DrainFmt
  | 0 => .a64 | 1 => .i32 | 2 => .f32 | _ => .bf16

/-- Major 0x30 (R63, R167 to R177): a in [25:21], b in [20:16], c in [15:11]; fn lo[9:6], imm6 lo[5:0]. -/
def decMatrix (f : MFields) : Decoded :=
  match f.fn with
  | 0 => needField (f.f2 == 0 && f.f3 == 0 && f.imm == 0) (.ok (.mcfg (sregOf f.f1) f.e))
  | 1 => needField (f.f2 == 0 && f.f3 == 0 && decide (f.imm < 8)) <|
      if f.imm % 2 = 0 then .ok (.mldwT64 (f.imm / 4 % 2 == 1) (f.imm / 2 % 2 == 1) (sregOf f.f1) f.e)
      else .ok (.mldwC64 (f.imm / 4 % 2 == 1) (f.imm / 2 % 2 == 1) (sregOf f.f1) f.e)
  | 2 => needField (f.f3 == 0 && decide (f.imm < 8))
      (.ok (.mstep (vregOf f.f1) (vregOf f.f2) (Fin.ofNat 8 f.imm) f.e))
  | 3 => needField (decide (f.imm < 2)) <| shM0 (.mzero (f.imm == 1)) f
  | 4 => needType (f.imm != 0) <| needField (decide (f.imm < 4)) <|
      if f.imm = 1 then shM0 .mswapL f else if f.imm = 2 then shM0 .mswapA f else shM0 .mswapLa f
  | 5 => typed (complOf (f.imm / 4 % 4)) fun k =>
      needField (f.imm % 2 == 0 && (k != .none || (f.f2 == 0 && f.f3 == 0)))
      (.ok (.mdrain (drainFmtOf (f.imm / 16)) k (f.imm / 2 % 2 == 1) (sregOf f.f1) (sregOf f.f2) (sregOf f.f3) f.e))
  | 6 => needType (f.imm < 7) <| needField (f.f3 == 0 && (decide (f.imm < 4) || f.f2 == 0))
      (.ok (.mstat (Fin.ofNat 7 f.imm) (sregOf f.f1) (sregOf f.f2) f.e))
  | 7 => needField (f.imm == 0) <| shM0 .mwait f
  | _ => .error .badFn

/-- A copy instruction (R238): completion in imm6[3:2], the other bits of imm6 reserved. -/
def shCopy (c : Compl → SReg → SReg → SReg → Bool → Instr) (f : MFields) : Decoded :=
  typed (complOf (f.imm / 4 % 4)) fun k =>
  needField (f.imm / 16 == 0 && f.imm % 4 == 0 && (k != .none || (f.f2 == 0 && f.f3 == 0)))
    (.ok (c k (sregOf f.f1) (sregOf f.f2) (sregOf f.f3) f.e))

/-- Major 0x31 (R63, R230 to R238). -/
def decCopy (f : MFields) : Decoded :=
  match f.fn with
  | 0 => needField (f.f3 == 0 && decide (f.imm < 8)) (.ok (.pbind (Fin.ofNat 8 f.imm) (sregOf f.f1) (sregOf f.f2) f.e))
  | 1 => needField (f.f1 == 0 && f.f2 == 0 && f.f3 == 0 && decide (f.imm < 8)) (.ok (.punbind (Fin.ofNat 8 f.imm) f.e))
  | 2 => needField (f.f2 == 0 && f.f3 == 0 && decide (f.imm < 8)) (.ok (.pstat (sregOf f.f1) (Fin.ofNat 8 f.imm) f.e))
  | 3 => needField (f.f2 == 0 && f.f3 == 0 && decide (f.imm < 8)) (.ok (.pskip (Fin.ofNat 8 f.imm) (sregOf f.f1) f.e))
  | 4 => shCopy .cpy f | 5 => shCopy .cpyt f | 6 => shCopy .cpyd f | 7 => shCopy .cpys f
  | _ => .error .badFn

/-- Major 0x32 (R56, R303). -/
noncomputable def decSched (f : Fields) : Decoded :=
  match f.lo with
  | 0 => shDA .spawn f | 1 => shDA .spawnl f | 2 => shA .migrate f | 3 => sh0 .yield f
  | 4 => sh0 .sleep f | 5 => sh0 .cbar f | 6 => sh0 .exit f
  | _ => .error .badFn

/-- Major 0x33 (R56, R303). -/
noncomputable def decMsg (f : Fields) : Decoded :=
  match f.lo with
  | 0 => shAB .msend f | 1 => shDA .mrecv f | 2 => shDAB .rqpush f | 3 => shDA .rqpop f | 4 => shDA .tmrset f
  | _ => .error .badFn

/-- Major 0x34 (R63, R320): fn in [15:11], the CSR number in [9:0]. -/
noncomputable def decCsr (f : Fields) : Decoded :=
  let csr := BitVec.ofNat 10 f.lo
  match f.f3 with
  | 0 => needField (f.f2 == 0) (.ok (.csrr (sregOf f.f1) csr f.e))
  | 1 => .ok (.csrw (sregOf f.f1) (sregOf f.f2) csr f.e)
  | 2 => .ok (.csrs (sregOf f.f1) (sregOf f.f2) csr f.e)
  | 3 => .ok (.csrc (sregOf f.f1) (sregOf f.f2) csr f.e)
  | _ => .error .badFn

/-- Major 0x35 (R63, R324, R375, R399). -/
noncomputable def decTrap (f : Fields) : Decoded :=
  match f.f3 with
  | 0 => needField (f.f1 == 0 && f.f2 == 0 && f.lo == 0) (.ok (.uret f.e))
  | 1 => needField (f.f1 == 0 && f.f2 == 0 && decide (f.lo < 64)) (.ok (.trapu (BitVec.ofNat 6 f.lo) f.e))
  | 2 => .ok (.svc (sregOf f.f1) (sregOf f.f2) (BitVec.ofNat 10 f.lo) f.e)
  | _ => .error .badFn

/-- d and a with csr zero. -/
def shPrivDA (c : SReg → SReg → Bool → Instr) (f : Fields) : Decoded :=
  needField (f.lo == 0) (.ok (c (sregOf f.f1) (sregOf f.f2) f.e))

/-- a with d and csr zero. -/
def shPrivA (c : SReg → Bool → Instr) (f : Fields) : Decoded :=
  needField (f.f1 == 0 && f.lo == 0) (.ok (c (sregOf f.f2) f.e))

/-- Major 0x36 (R63, R376). -/
noncomputable def decPriv (f : Fields) : Decoded :=
  match f.f3 with
  | 0 => shPrivDA .sret f
  | 1 => needType (f.lo % 4 != 3) <| needField (f.f1 == 0 && f.lo / 4 == 0) <|
      if f.lo % 4 = 0 then .ok (.dtinvPage (sregOf f.f2) f.e)
      else if f.lo % 4 = 1 then .ok (.dtinvCtx (sregOf f.f2) f.e)
      else .ok (.dtinvAll (sregOf f.f2) f.e)
  | 2 => needField (f.lo / 2 == 0 && (f.lo % 2 == 1 || f.f2 == 0)) <|
      if f.lo % 2 = 0 then .ok (.dtrep (sregOf f.f1) f.e)
      else .ok (.dtrepFail (sregOf f.f1) (sregOf f.f2) f.e)
  | 3 => needField (decide (f.lo < 4)) (.ok (.dtqry (BitVec.ofNat 2 f.lo) (sregOf f.f1) (sregOf f.f2) f.e))
  | 4 => shPrivDA .spls f | 5 => shPrivDA .splr f | 6 => shPrivA .freeze f | 7 => shPrivA .thaw f
  | 8 => needField (decide (f.lo < 64)) (.ok (.rgnw (sregOf f.f1) (sregOf f.f2) (BitVec.ofNat 6 f.lo) f.e))
  | 9 => needField (decide (f.lo < 16)) (.ok (.puw (sregOf f.f1) (sregOf f.f2) (BitVec.ofNat 4 f.lo) f.e))
  | 10 => shPrivDA .commit f
  | _ => .error .badFn

/-- The opcode map (R55). -/
noncomputable def decodeFields (f : Fields) : Decoded :=
  match f.maj with
  | 0x01 => decAlu64 f | 0x02 => decAlu32 f | 0x03 => decMulDiv f
  | 0x04 => shB .addi f | 0x05 => shB .andi f | 0x06 => shB .ori f | 0x07 => shB .xori f
  | 0x08 => shB .slti f | 0x09 => shB .sltiu f | 0x0A => decShift f
  | 0x0B => .ok (.lui (sregOf f.f1) (imm20 f) f.e) | 0x0C => .ok (.auipc (sregOf f.f1) (imm20 f) f.e)
  | 0x10 => shD .beq f | 0x11 => shD .bne f | 0x12 => shD .blt f | 0x13 => shD .bge f
  | 0x14 => shD .bltu f | 0x15 => shD .bgeu f | 0x16 => .ok (.jal (sregOf f.f1) (off21 f))
  | 0x17 => shB .jalr f | 0x18 => decBpred f | 0x19 => decLd f | 0x1A => decSt f | 0x1B => decLdl f
  | 0x1C => decPhase f | 0x1D => decAmo f | 0x1E => decSync f | 0x1F => decProof f
  | 0x20 => decVint f.v | 0x21 => decVfp f.v | 0x22 => decVcmp f.v | 0x23 => decVmove f.v | 0x24 => decVmem f.v
  | 0x25 => decVconv f.v | 0x26 => decVspec f.v | 0x27 => decVpred f.v | 0x28 => decVintS f.v | 0x29 => decVfpS f.v
  | 0x2A => decVintI f.v | 0x30 => decMatrix f.m | 0x31 => decCopy f.m | 0x32 => decSched f | 0x33 => decMsg f
  | 0x34 => decCsr f | 0x35 => decTrap f | 0x36 => decPriv f
  | _ => .error .badMajor

/-- Decoding one instruction word (R45). -/
noncomputable def decodeWord (w : BitVec 32) : Decoded := decodeFields (Fields.ofWord w)

/-- The word at the head of a list of bytes, little-endian (R45); nothing when fewer than four remain. -/
def wordOfBytes : List Byte → Option (BitVec 32)
  | b0 :: b1 :: b2 :: b3 :: _ => some (b3 ++ b2 ++ b1 ++ b0)
  | _ => none

/-- Decoding from bytes. Fewer than four bytes hold no instruction word. -/
noncomputable def decode (l : List Byte) : Option (Decoded × List Byte) :=
  (wordOfBytes l).map fun w => (decodeWord w, l.drop 4)

/-- The table's numbering (bit 0 the least significant of the one word): the instruction that `decode` reads
from the word's four bytes. -/
noncomputable def decodeTableWord (nbits w : Nat) : Option Instr :=
  let v := BitVec.ofNat 32 (w % 2 ^ nbits)
  match decode [v.extractLsb' 0 8, v.extractLsb' 8 8, v.extractLsb' 16 8, v.extractLsb' 24 8] with
  | some (.ok i, _) => some i
  | _ => none

/-! ### The encoder -/

/-- The codes of operand fields and selectors, from the same tables. -/
def SReg.code : SReg → Nat
  | .x i => i.val
  | .y i => 16 + i.val
def VReg.code : VReg → Nat
  | .v i => i.val
  | .w i => 16 + i.val
  | .q i => 24 + i.val
def ETy.code : ETy → Nat
  | .i8 => 0 | .i16 => 1 | .i32 => 2 | .i64 => 3 | .bf16 => 4 | .f32 => 5
def ITy.code : ITy → Nat
  | .i8 => 0 | .i16 => 1 | .i32 => 2 | .i64 => 3
def FTy.code : FTy → Nat
  | .bf16 => 4 | .f32 => 5
def Size.code : Size → Nat
  | .b => 0 | .h => 1 | .w => 2 | .d => 3
def LdSize.code : LdSize → Nat
  | .b => 0 | .h => 1 | .w => 2 | .d => 3 | .bu => 4 | .hu => 5 | .wu => 6
def Scope.code : Scope → Nat
  | .station => 0 | .die => 1 | .package => 2 | .ring => 3 | .system => 4
def PsFmt.code : PsFmt → Nat
  | .ps3 => 0 | .ps5 => 1 | .ps8 => 2
def DqFmt.code : DqFmt → Nat
  | .ps3 => 0 | .ps5 => 1 | .ps8 => 2 | .mx => 3
def SfuFn.code : SfuFn → Nat
  | .exp2 => 0 | .log2 => 1 | .rcp => 2 | .rsqrt => 3 | .sin => 4 | .cos => 5 | .tanh => 6 | .erf => 7
def RedOp.code : RedOp → Nat
  | .add => 0 | .min => 1 | .max => 2 | .minu => 3 | .maxu => 4 | .and => 5 | .or => 6 | .xor => 7
  | .fadd => 8 | .fmin => 9 | .fmax => 10
def DrainFmt.code : DrainFmt → Nat
  | .a64 => 0 | .i32 => 1 | .f32 => 2 | .bf16 => 3
def Compl.code : Compl → Nat
  | .none => 0 | .pub => 1 | .msg => 2
def RM.code : RM → Nat
  | .rne => 0 | .rtz => 1 | .rdn => 2 | .rup => 3

/-- vb[1:0] and fn[3] of a rounding selector (R61). -/
def RSel.low : RSel → Nat
  | .mode => 0 | .sr => 1 | .explicit m => m.code
def RSel.high : RSel → Nat
  | .mode => 0 | .sr => 0 | .explicit _ => 8

/-- The fields of an instruction. -/
def enc (maj f1 f2 f3 : Nat) (e : Bool) (lo : Nat) : Option Fields := some ⟨maj, f1, f2, f3, e, lo⟩

/-- Form M's low bits: fn, imm6. -/
def mlo (fn imm : Nat) : Nat := fn * 64 + imm

/-- Form V's low bits: pg, ty, fn. -/
def vlo (pg ty fn : Nat) : Nat := pg * 128 + ty * 16 + fn

/-- The fields of an instruction's word; an event has none. -/
def encodeFields : Instr → Option Fields
  | .add d a b e => enc 0x01 d.code a.code b.code e 0
  | .sub d a b e => enc 0x01 d.code a.code b.code e 1
  | .and d a b e => enc 0x01 d.code a.code b.code e 2
  | .or d a b e => enc 0x01 d.code a.code b.code e 3
  | .xor d a b e => enc 0x01 d.code a.code b.code e 4
  | .sll d a b e => enc 0x01 d.code a.code b.code e 5
  | .srl d a b e => enc 0x01 d.code a.code b.code e 6
  | .sra d a b e => enc 0x01 d.code a.code b.code e 7
  | .slt d a b e => enc 0x01 d.code a.code b.code e 8
  | .sltu d a b e => enc 0x01 d.code a.code b.code e 9
  | .min d a b e => enc 0x01 d.code a.code b.code e 10
  | .max d a b e => enc 0x01 d.code a.code b.code e 11
  | .minu d a b e => enc 0x01 d.code a.code b.code e 12
  | .maxu d a b e => enc 0x01 d.code a.code b.code e 13
  | .clz d a e => enc 0x01 d.code a.code 0 e 14
  | .ctz d a e => enc 0x01 d.code a.code 0 e 15
  | .popc d a e => enc 0x01 d.code a.code 0 e 16
  | .sextB d a e => enc 0x01 d.code a.code 0 e 17
  | .sextH d a e => enc 0x01 d.code a.code 0 e 18
  | .sextW d a e => enc 0x01 d.code a.code 0 e 19
  | .zextB d a e => enc 0x01 d.code a.code 0 e 20
  | .zextH d a e => enc 0x01 d.code a.code 0 e 21
  | .zextW d a e => enc 0x01 d.code a.code 0 e 22
  | .sel d a b e => enc 0x01 d.code a.code b.code e 23
  | .addW d a b e => enc 0x02 d.code a.code b.code e 0
  | .subW d a b e => enc 0x02 d.code a.code b.code e 1
  | .andW d a b e => enc 0x02 d.code a.code b.code e 2
  | .orW d a b e => enc 0x02 d.code a.code b.code e 3
  | .xorW d a b e => enc 0x02 d.code a.code b.code e 4
  | .sllW d a b e => enc 0x02 d.code a.code b.code e 5
  | .srlW d a b e => enc 0x02 d.code a.code b.code e 6
  | .sraW d a b e => enc 0x02 d.code a.code b.code e 7
  | .sltW d a b e => enc 0x02 d.code a.code b.code e 8
  | .sltuW d a b e => enc 0x02 d.code a.code b.code e 9
  | .minW d a b e => enc 0x02 d.code a.code b.code e 10
  | .maxW d a b e => enc 0x02 d.code a.code b.code e 11
  | .minuW d a b e => enc 0x02 d.code a.code b.code e 12
  | .maxuW d a b e => enc 0x02 d.code a.code b.code e 13
  | .clzW d a e => enc 0x02 d.code a.code 0 e 14
  | .ctzW d a e => enc 0x02 d.code a.code 0 e 15
  | .popcW d a e => enc 0x02 d.code a.code 0 e 16
  | .mul d a b e => enc 0x03 d.code a.code b.code e 0
  | .mulh d a b e => enc 0x03 d.code a.code b.code e 1
  | .mulhu d a b e => enc 0x03 d.code a.code b.code e 2
  | .div d a b e => enc 0x03 d.code a.code b.code e 3
  | .divu d a b e => enc 0x03 d.code a.code b.code e 4
  | .rem d a b e => enc 0x03 d.code a.code b.code e 5
  | .remu d a b e => enc 0x03 d.code a.code b.code e 6
  | .mulW d a b e => enc 0x03 d.code a.code b.code e 256
  | .mulhW d a b e => enc 0x03 d.code a.code b.code e 257
  | .mulhuW d a b e => enc 0x03 d.code a.code b.code e 258
  | .divW d a b e => enc 0x03 d.code a.code b.code e 259
  | .divuW d a b e => enc 0x03 d.code a.code b.code e 260
  | .remW d a b e => enc 0x03 d.code a.code b.code e 261
  | .remuW d a b e => enc 0x03 d.code a.code b.code e 262
  | .addi d a imm e => enc 0x04 d.code a.code (imm.toNat / 1024) e (imm.toNat % 1024)
  | .andi d a imm e => enc 0x05 d.code a.code (imm.toNat / 1024) e (imm.toNat % 1024)
  | .ori d a imm e => enc 0x06 d.code a.code (imm.toNat / 1024) e (imm.toNat % 1024)
  | .xori d a imm e => enc 0x07 d.code a.code (imm.toNat / 1024) e (imm.toNat % 1024)
  | .slti d a imm e => enc 0x08 d.code a.code (imm.toNat / 1024) e (imm.toNat % 1024)
  | .sltiu d a imm e => enc 0x09 d.code a.code (imm.toNat / 1024) e (imm.toNat % 1024)
  | .slli d a sh e => enc 0x0A d.code a.code 0 e sh.toNat
  | .srli d a sh e => enc 0x0A d.code a.code 8 e sh.toNat
  | .srai d a sh e => enc 0x0A d.code a.code 16 e sh.toNat
  | .slliW d a sh e => enc 0x0A d.code a.code 4 e sh.toNat
  | .srliW d a sh e => enc 0x0A d.code a.code 12 e sh.toNat
  | .sraiW d a sh e => enc 0x0A d.code a.code 20 e sh.toNat
  | .lui d imm e => enc 0x0B d.code (imm.toNat / 2 ^ 15) (imm.toNat / 1024 % 32) e (imm.toNat % 1024)
  | .auipc d imm e => enc 0x0C d.code (imm.toNat / 2 ^ 15) (imm.toNat / 1024 % 32) e (imm.toNat % 1024)
  | .beq a b off e => enc 0x10 a.code b.code (off.toNat / 1024) e (off.toNat % 1024)
  | .bne a b off e => enc 0x11 a.code b.code (off.toNat / 1024) e (off.toNat % 1024)
  | .blt a b off e => enc 0x12 a.code b.code (off.toNat / 1024) e (off.toNat % 1024)
  | .bge a b off e => enc 0x13 a.code b.code (off.toNat / 1024) e (off.toNat % 1024)
  | .bltu a b off e => enc 0x14 a.code b.code (off.toNat / 1024) e (off.toNat % 1024)
  | .bgeu a b off e => enc 0x15 a.code b.code (off.toNat / 1024) e (off.toNat % 1024)
  | .jal d off => enc 0x16 d.code (off.toNat / 2 ^ 16) (off.toNat / 2048 % 32) (off.toNat / 1024 % 2 == 1) (off.toNat % 1024)
  | .jalr d a imm e => enc 0x17 d.code a.code (imm.toNat / 1024) e (imm.toNat % 1024)
  | .bpredAny p off e => enc 0x18 p.val 0 (off.toNat / 1024) e (off.toNat % 1024)
  | .bpredAll p off e => enc 0x18 p.val 1 (off.toNat / 1024) e (off.toNat % 1024)
  | .bpredNone p off e => enc 0x18 p.val 2 (off.toNat / 1024) e (off.toNat % 1024)
  | .bpredNall p off e => enc 0x18 p.val 3 (off.toNat / 1024) e (off.toNat % 1024)
  | .ld sz d a imm e => enc 0x19 d.code a.code (sz.code * 4 + imm.toNat / 1024) e (imm.toNat % 1024)
  | .st sz d a imm e => enc 0x1A d.code a.code (sz.code * 4 + imm.toNat / 1024) e (imm.toNat % 1024)
  | .ldl sz d a imm e => enc 0x1B d.code a.code (sz.code * 4 + imm.toNat / 1024) e (imm.toNat % 1024)
  | .stl sz d a imm e => enc 0x1B d.code a.code ((sz.code + 4) * 4 + imm.toNat / 1024) e (imm.toNat % 1024)
  | .phaseR sc e => enc 0x1C 0 0 0 e (16 + sc.code)
  | .phaseA sc e => enc 0x1C 0 0 0 e (32 + sc.code)
  | .phaseRa sc e => enc 0x1C 0 0 0 e (48 + sc.code)
  | .qfence m e => enc 0x1C 0 0 0 e (64 + m.toNat)
  | .fencei e => enc 0x1C 0 0 0 e 128
  | .prefL1 a e => enc 0x1C 0 a.code 0 e 192
  | .prefHome a e => enc 0x1C 0 a.code 0 e 193
  | .amoadd dbl d a b e => enc 0x1D d.code a.code b.code e ((if dbl then 16 else 0) + 0)
  | .amoand dbl d a b e => enc 0x1D d.code a.code b.code e ((if dbl then 16 else 0) + 1)
  | .amoor dbl d a b e => enc 0x1D d.code a.code b.code e ((if dbl then 16 else 0) + 2)
  | .amoxor dbl d a b e => enc 0x1D d.code a.code b.code e ((if dbl then 16 else 0) + 3)
  | .amomin dbl d a b e => enc 0x1D d.code a.code b.code e ((if dbl then 16 else 0) + 4)
  | .amomax dbl d a b e => enc 0x1D d.code a.code b.code e ((if dbl then 16 else 0) + 5)
  | .amominu dbl d a b e => enc 0x1D d.code a.code b.code e ((if dbl then 16 else 0) + 6)
  | .amomaxu dbl d a b e => enc 0x1D d.code a.code b.code e ((if dbl then 16 else 0) + 7)
  | .amoswap dbl d a b e => enc 0x1D d.code a.code b.code e ((if dbl then 16 else 0) + 8)
  | .amocas dbl d a b e => enc 0x1D d.code a.code b.code e ((if dbl then 16 else 0) + 9)
  | .amofadd32 d a b e => enc 0x1D d.code a.code b.code e 10
  | .amofxadd d a b e => enc 0x1D d.code a.code b.code e 27
  | .lrw d a e => enc 0x1e d.code a.code 0 e 0
  | .sch a b e => enc 0x1e 0 a.code b.code e 1
  | .rrel a e => enc 0x1e 0 a.code 0 e 2
  | .enq d a b e => enc 0x1E d.code a.code b.code e 3
  | .deq d a e => enc 0x1E d.code a.code 0 e 4
  | .enqNw d a b e => enc 0x1E d.code a.code b.code e 5
  | .deqNw d a e => enc 0x1E d.code a.code 0 e 6
  | .prpub a b e => enc 0x1f 0 a.code b.code e 0
  | .prwait a e => enc 0x1f 0 a.code 0 e 1
  | .prtest d a e => enc 0x1f d.code a.code 0 e 2
  | .prtake d a e => enc 0x1f d.code a.code 0 e 3
  | .prgen d a b e => enc 0x1f d.code a.code b.code e 4
  | .prarm d a b e => enc 0x1f d.code a.code b.code e 5
  | .vadd ty vd va vb pg e => enc 0x20 vd.code va.code vb.code e (vlo pg.val ty.code 0)
  | .vsub ty vd va vb pg e => enc 0x20 vd.code va.code vb.code e (vlo pg.val ty.code 1)
  | .vmul ty vd va vb pg e => enc 0x20 vd.code va.code vb.code e (vlo pg.val ty.code 2)
  | .vmulh ty vd va vb pg e => enc 0x20 vd.code va.code vb.code e (vlo pg.val ty.code 3)
  | .vmad ty vd va vb pg e => enc 0x20 vd.code va.code vb.code e (vlo pg.val ty.code 4)
  | .vmin ty vd va vb pg e => enc 0x20 vd.code va.code vb.code e (vlo pg.val ty.code 5)
  | .vmax ty vd va vb pg e => enc 0x20 vd.code va.code vb.code e (vlo pg.val ty.code 6)
  | .vand ty vd va vb pg e => enc 0x20 vd.code va.code vb.code e (vlo pg.val ty.code 7)
  | .vor ty vd va vb pg e => enc 0x20 vd.code va.code vb.code e (vlo pg.val ty.code 8)
  | .vxor ty vd va vb pg e => enc 0x20 vd.code va.code vb.code e (vlo pg.val ty.code 9)
  | .vsll ty vd va vb pg e => enc 0x20 vd.code va.code vb.code e (vlo pg.val ty.code 10)
  | .vsrl ty vd va vb pg e => enc 0x20 vd.code va.code vb.code e (vlo pg.val ty.code 11)
  | .vsra ty vd va vb pg e => enc 0x20 vd.code va.code vb.code e (vlo pg.val ty.code 12)
  | .vabs ty vd va pg e => enc 0x20 vd.code va.code 0 e (vlo pg.val ty.code 13)
  | .vneg ty vd va pg e => enc 0x20 vd.code va.code 0 e (vlo pg.val ty.code 14)
  | .vaddVs ty vd va b pg e => enc 0x28 vd.code va.code b.code e (vlo pg.val ty.code 0)
  | .vsubVs ty vd va b pg e => enc 0x28 vd.code va.code b.code e (vlo pg.val ty.code 1)
  | .vmulVs ty vd va b pg e => enc 0x28 vd.code va.code b.code e (vlo pg.val ty.code 2)
  | .vmulhVs ty vd va b pg e => enc 0x28 vd.code va.code b.code e (vlo pg.val ty.code 3)
  | .vmadVs ty vd va b pg e => enc 0x28 vd.code va.code b.code e (vlo pg.val ty.code 4)
  | .vminVs ty vd va b pg e => enc 0x28 vd.code va.code b.code e (vlo pg.val ty.code 5)
  | .vmaxVs ty vd va b pg e => enc 0x28 vd.code va.code b.code e (vlo pg.val ty.code 6)
  | .vandVs ty vd va b pg e => enc 0x28 vd.code va.code b.code e (vlo pg.val ty.code 7)
  | .vorVs ty vd va b pg e => enc 0x28 vd.code va.code b.code e (vlo pg.val ty.code 8)
  | .vxorVs ty vd va b pg e => enc 0x28 vd.code va.code b.code e (vlo pg.val ty.code 9)
  | .vsllVs ty vd va b pg e => enc 0x28 vd.code va.code b.code e (vlo pg.val ty.code 10)
  | .vsrlVs ty vd va b pg e => enc 0x28 vd.code va.code b.code e (vlo pg.val ty.code 11)
  | .vsraVs ty vd va b pg e => enc 0x28 vd.code va.code b.code e (vlo pg.val ty.code 12)
  | .vaddVi ty vd va imm pg e => enc 0x2a vd.code va.code imm.toNat e (vlo pg.val ty.code 0)
  | .vsubVi ty vd va imm pg e => enc 0x2a vd.code va.code imm.toNat e (vlo pg.val ty.code 1)
  | .vmulVi ty vd va imm pg e => enc 0x2a vd.code va.code imm.toNat e (vlo pg.val ty.code 2)
  | .vmulhVi ty vd va imm pg e => enc 0x2a vd.code va.code imm.toNat e (vlo pg.val ty.code 3)
  | .vmadVi ty vd va imm pg e => enc 0x2a vd.code va.code imm.toNat e (vlo pg.val ty.code 4)
  | .vminVi ty vd va imm pg e => enc 0x2a vd.code va.code imm.toNat e (vlo pg.val ty.code 5)
  | .vmaxVi ty vd va imm pg e => enc 0x2a vd.code va.code imm.toNat e (vlo pg.val ty.code 6)
  | .vandVi ty vd va imm pg e => enc 0x2a vd.code va.code imm.toNat e (vlo pg.val ty.code 7)
  | .vorVi ty vd va imm pg e => enc 0x2a vd.code va.code imm.toNat e (vlo pg.val ty.code 8)
  | .vxorVi ty vd va imm pg e => enc 0x2a vd.code va.code imm.toNat e (vlo pg.val ty.code 9)
  | .vsllVi ty vd va imm pg e => enc 0x2a vd.code va.code imm.toNat e (vlo pg.val ty.code 10)
  | .vsrlVi ty vd va imm pg e => enc 0x2a vd.code va.code imm.toNat e (vlo pg.val ty.code 11)
  | .vsraVi ty vd va imm pg e => enc 0x2a vd.code va.code imm.toNat e (vlo pg.val ty.code 12)
  | .fadd ty vd va vb pg e => enc 0x21 vd.code va.code vb.code e (vlo pg.val ty.code 0)
  | .fsub ty vd va vb pg e => enc 0x21 vd.code va.code vb.code e (vlo pg.val ty.code 1)
  | .fmul ty vd va vb pg e => enc 0x21 vd.code va.code vb.code e (vlo pg.val ty.code 2)
  | .fma ty vd va vb pg e => enc 0x21 vd.code va.code vb.code e (vlo pg.val ty.code 3)
  | .fmin ty vd va vb pg e => enc 0x21 vd.code va.code vb.code e (vlo pg.val ty.code 4)
  | .fmax ty vd va vb pg e => enc 0x21 vd.code va.code vb.code e (vlo pg.val ty.code 5)
  | .fabs ty vd va pg e => enc 0x21 vd.code va.code 0 e (vlo pg.val ty.code 6)
  | .fneg ty vd va pg e => enc 0x21 vd.code va.code 0 e (vlo pg.val ty.code 7)
  | .faddVs ty vd va b pg e => enc 0x29 vd.code va.code b.code e (vlo pg.val ty.code 0)
  | .fsubVs ty vd va b pg e => enc 0x29 vd.code va.code b.code e (vlo pg.val ty.code 1)
  | .fmulVs ty vd va b pg e => enc 0x29 vd.code va.code b.code e (vlo pg.val ty.code 2)
  | .fmaVs ty vd va b pg e => enc 0x29 vd.code va.code b.code e (vlo pg.val ty.code 3)
  | .fminVs ty vd va b pg e => enc 0x29 vd.code va.code b.code e (vlo pg.val ty.code 4)
  | .fmaxVs ty vd va b pg e => enc 0x29 vd.code va.code b.code e (vlo pg.val ty.code 5)
  | .vcmpEq ty pd va vb pg e => enc 0x22 pd.val va.code vb.code e (vlo pg.val ty.code 0)
  | .vcmpNe ty pd va vb pg e => enc 0x22 pd.val va.code vb.code e (vlo pg.val ty.code 1)
  | .vcmpLt ty pd va vb pg e => enc 0x22 pd.val va.code vb.code e (vlo pg.val ty.code 2)
  | .vcmpLe ty pd va vb pg e => enc 0x22 pd.val va.code vb.code e (vlo pg.val ty.code 3)
  | .vcmpLtu ty pd va vb pg e => enc 0x22 pd.val va.code vb.code e (vlo pg.val ty.code 4)
  | .vcmpLeu ty pd va vb pg e => enc 0x22 pd.val va.code vb.code e (vlo pg.val ty.code 5)
  | .fcmpEq ty pd va vb pg e => enc 0x22 pd.val va.code vb.code e (vlo pg.val ty.code 8)
  | .fcmpNe ty pd va vb pg e => enc 0x22 pd.val va.code vb.code e (vlo pg.val ty.code 9)
  | .fcmpLt ty pd va vb pg e => enc 0x22 pd.val va.code vb.code e (vlo pg.val ty.code 10)
  | .fcmpLe ty pd va vb pg e => enc 0x22 pd.val va.code vb.code e (vlo pg.val ty.code 11)
  | .fcmpUn ty pd va vb pg e => enc 0x22 pd.val va.code vb.code e (vlo pg.val ty.code 12)
  | .vsel ty vd va vb pg e => enc 0x23 vd.code va.code vb.code e (vlo pg.val ty.code 0)
  | .vmov ty vd va pg e => enc 0x23 vd.code va.code 0 e (vlo pg.val ty.code 1)
  | .vbcast ty vd a pg e => enc 0x23 vd.code a.code 0 e (vlo pg.val ty.code 2)
  | .vext ty d va b e => enc 0x23 d.code va.code b.code e (vlo 0 ty.code 3)
  | .vperm ty vd va vb pg e => enc 0x23 vd.code va.code vb.code e (vlo pg.val ty.code 4)
  | .vzip ty vd va vb pg e => enc 0x23 vd.code va.code vb.code e (vlo pg.val ty.code 5)
  | .vuzp ty vd va vb pg e => enc 0x23 vd.code va.code vb.code e (vlo pg.val ty.code 6)
  | .vslideUp ty vd va b pg e => enc 0x23 vd.code va.code b.code e (vlo pg.val ty.code 7)
  | .vslideDn ty vd va b pg e => enc 0x23 vd.code va.code b.code e (vlo pg.val ty.code 8)
  | .vbcasthBf16 vd imm e => enc 0x23 vd.code (imm.toNat / 2048) (imm.toNat / 64 % 32) e (vlo (imm.toNat / 8 % 8) (imm.toNat % 8) 9)
  | .vbcasthF32 vd imm e => enc 0x23 vd.code (imm.toNat / 2048) (imm.toNat / 64 % 32) e (vlo (imm.toNat / 8 % 8) (imm.toNat % 8) 10)
  | .vld ty vd a b pg e => enc 0x24 vd.code a.code b.code e (vlo pg.val ty.code 0)
  | .vst ty vd a b pg e => enc 0x24 vd.code a.code b.code e (vlo pg.val ty.code 1)
  | .vlds ty vd a b pg e => enc 0x24 vd.code a.code b.code e (vlo pg.val ty.code 2)
  | .vsts ty vd a b pg e => enc 0x24 vd.code a.code b.code e (vlo pg.val ty.code 3)
  | .vgath ty vd a vb pg e => enc 0x24 vd.code a.code vb.code e (vlo pg.val ty.code 4)
  | .vscat ty vd a vb pg e => enc 0x24 vd.code a.code vb.code e (vlo pg.val ty.code 5)
  | .vcvt dty sty rs vd va pg e => enc 0x25 vd.code va.code (sty.code * 4 + rs.low) e (vlo pg.val dty.code (rs.high + 0))
  | .vqnt sty rs vd va pg e => enc 0x25 vd.code va.code rs.low e (vlo pg.val sty.code (rs.high + 1))
  | .vqps fmt sty rs vd va pg e => enc 0x25 vd.code va.code (fmt.code * 4 + rs.low) e (vlo pg.val sty.code (rs.high + 2))
  | .vdq dty fmt rs vd va pg e => enc 0x25 vd.code va.code (fmt.code * 4 + rs.low) e (vlo pg.val dty.code (rs.high + 3))
  | .vhad32 ty vd va m pg e => enc 0x26 vd.code va.code m.toNat e (vlo pg.val ty.code 0)
  | .vmaxx ty vd va k pg e => enc 0x26 vd.code va.code k.toNat e (vlo pg.val ty.code 1)
  | .vunpk5 vd va h pg e => enc 0x26 vd.code va.code h.toNat e (vlo pg.val 0 2)
  | .vpack5 vd va h pg e => enc 0x26 vd.code va.code h.toNat e (vlo pg.val 0 3)
  | .vsfu fn ty vd va pg e => enc 0x26 vd.code va.code fn.code e (vlo pg.val ty.code 4)
  | .vred op ty vd va pg e => enc 0x26 vd.code va.code op.code e (vlo pg.val ty.code 5)
  | .vwhile ty pd a b e => enc 0x27 pd.val a.code b.code e (vlo 0 ty.code 0)
  | .vwidth ty d e => enc 0x27 d.code 0 0 e (vlo 0 ty.code 1)
  | .vrep a l e => enc 0x27 0 a.code l.toNat e 2
  | .pand pd pa pb pg e => enc 0x27 pd.val pa.val pb.val e (vlo pg.val 0 3)
  | .por pd pa pb pg e => enc 0x27 pd.val pa.val pb.val e (vlo pg.val 0 4)
  | .pxor pd pa pb pg e => enc 0x27 pd.val pa.val pb.val e (vlo pg.val 0 5)
  | .pnot pd pa pg e => enc 0x27 pd.val pa.val 0 e (vlo pg.val 0 6)
  | .pcnt ty d pa pg e => enc 0x27 d.code pa.val 0 e (vlo pg.val ty.code 7)
  | .pfirst ty pd pa pg e => enc 0x27 pd.val pa.val 0 e (vlo pg.val ty.code 8)
  | .mcfg a e => enc 0x30 a.code 0 0 e (mlo 0 0)
  | .mldwT64 sla tr a e => enc 0x30 a.code 0 0 e (mlo 1 ((if sla then 4 else 0) + (if tr then 2 else 0)))
  | .mldwC64 sla tr a e => enc 0x30 a.code 0 0 e (mlo 1 (1 + (if sla then 4 else 0) + (if tr then 2 else 0)))
  | .mstep a b g e => enc 0x30 a.code b.code 0 e (mlo 2 g.val)
  | .mzero back e => enc 0x30 0 0 0 e (mlo 3 (if back then 1 else 0))
  | .mswapL e => enc 0x30 0 0 0 e (mlo 4 1)
  | .mswapA e => enc 0x30 0 0 0 e (mlo 4 2)
  | .mswapLa e => enc 0x30 0 0 0 e (mlo 4 3)
  | .mdrain fmt k back a b c e => enc 0x30 a.code b.code c.code e (mlo 5 (fmt.code * 16 + k.code * 4 + (if back then 2 else 0)))
  | .mstat sel a b e => enc 0x30 a.code b.code 0 e (mlo 6 sel.val)
  | .mwait e => enc 0x30 0 0 0 e (mlo 7 0)
  | .pbind q a b e => enc 0x31 a.code b.code 0 e (mlo 0 q.val)
  | .punbind q e => enc 0x31 0 0 0 e (mlo 1 q.val)
  | .pstat a q e => enc 0x31 a.code 0 0 e (mlo 2 q.val)
  | .pskip q a e => enc 0x31 a.code 0 0 e (mlo 3 q.val)
  | .cpy k a b c e => enc 0x31 a.code b.code c.code e (mlo 4 (k.code * 4))
  | .cpyt k a b c e => enc 0x31 a.code b.code c.code e (mlo 5 (k.code * 4))
  | .cpyd k a b c e => enc 0x31 a.code b.code c.code e (mlo 6 (k.code * 4))
  | .cpys k a b c e => enc 0x31 a.code b.code c.code e (mlo 7 (k.code * 4))
  | .spawn d a e => enc 0x32 d.code a.code 0 e 0
  | .spawnl d a e => enc 0x32 d.code a.code 0 e 1
  | .migrate a e => enc 0x32 0 a.code 0 e 2
  | .yield e => enc 0x32 0 0 0 e 3
  | .sleep e => enc 0x32 0 0 0 e 4
  | .cbar e => enc 0x32 0 0 0 e 5
  | .exit e => enc 0x32 0 0 0 e 6
  | .msend a b e => enc 0x33 0 a.code b.code e 0
  | .mrecv d a e => enc 0x33 d.code a.code 0 e 1
  | .rqpush d a b e => enc 0x33 d.code a.code b.code e 2
  | .rqpop d a e => enc 0x33 d.code a.code 0 e 3
  | .tmrset d a e => enc 0x33 d.code a.code 0 e 4
  | .csrr d csr e => enc 0x34 d.code 0 0 e csr.toNat
  | .csrw d a csr e => enc 0x34 d.code a.code 1 e csr.toNat
  | .csrs d a csr e => enc 0x34 d.code a.code 2 e csr.toNat
  | .csrc d a csr e => enc 0x34 d.code a.code 3 e csr.toNat
  | .uret e => enc 0x35 0 0 0 e 0
  | .trapu n e => enc 0x35 0 0 1 e n.toNat
  | .svc d a n e => enc 0x35 d.code a.code 2 e n.toNat
  | .sret d a e => enc 0x36 d.code a.code 0 e 0
  | .dtinvPage a e => enc 0x36 0 a.code 1 e 0
  | .dtinvCtx a e => enc 0x36 0 a.code 1 e 1
  | .dtinvAll a e => enc 0x36 0 a.code 1 e 2
  | .dtrep d e => enc 0x36 d.code 0 2 e 0
  | .dtrepFail d a e => enc 0x36 d.code a.code 2 e 1
  | .dtqry sel d a e => enc 0x36 d.code a.code 3 e sel.toNat
  | .spls d a e => enc 0x36 d.code a.code 4 e 0
  | .splr d a e => enc 0x36 d.code a.code 5 e 0
  | .freeze a e => enc 0x36 0 a.code 6 e 0
  | .thaw a e => enc 0x36 0 a.code 7 e 0
  | .rgnw d a i e => enc 0x36 d.code a.code 8 e i.toNat
  | .puw d a i e => enc 0x36 d.code a.code 9 e i.toNat
  | .commit d a e => enc 0x36 d.code a.code 10 e 0
  | .illegalInstruction _ => none
  | .userTrapEntry => none
  | .timerFire _ => none
  | .resultArrive _ => none
  | .storeMerge _ _ => none
  | .mergeAtHome _ => none
  | .fillAtHome _ => none
  | .phaseReleaseComplete _ => none
  | .kindQueryReply _ => none
  | .hostWindowWriteSend _ => none
  | .bankAmoPerform _ => none
  | .bankLrw _ => none
  | .bankSch _ => none
  | .bankRrel _ => none
  | .bankEnq _ => none
  | .bankDeq _ => none
  | .waiterRecordFree _ => none
  | .proofPublishAtHome _ => none
  | .proofWaitAtHome _ => none
  | .proofTakeAtHome _ => none
  | .proofTestAtHome _ => none
  | .proofReply _ => none
  | .vsfuServe _ => none
  | .readStreamFetch _ _ => none
  | .writeStreamSend _ _ => none
  | .channelWordArrive _ _ => none
  | .mcfgPerform _ => none
  | .mstepPerform _ => none
  | .mzeroPerform _ => none
  | .mswapPerform _ => none
  | .mldwLoadDone _ => none
  | .mdrainCapture _ => none
  | .mdrainWriteDone _ => none
  | .mstatPerform _ => none
  | .cpyPerform _ => none
  | .cpytPerform _ => none
  | .cpydPerform _ => none
  | .cpysPerform _ => none
  | .copyCompletion _ => none
  | .mailboxAccept _ => none
  | .migrateArrive _ => none
  | .runQueueDispatch _ => none
  | .launchUnitAccept _ => none
  | .queueTailWrite _ _ => none
  | .queueReset _ => none
  | .queueDisable _ => none
  | .queueEnable _ => none
  | .registerWrite _ _ _ => none
  | .launch _ _ => none
  | .launchp _ _ => none
  | .callib _ => none
  | .signal _ => none
  | .wait _ => none
  | .waitSignalPoll _ => none
  | .waitConditionMet _ => none
  | .copy _ => none
  | .loadshard _ => none
  | .commandComplete _ _ => none
  | .coursePlace _ => none
  | .chordArmed _ _ => none
  | .chordDispatch _ => none
  | .chordEnd _ => none
  | .gridComplete _ => none
  | .gridFaulted _ => none
  | .slotSpill _ => none
  | .chordSpill _ => none
  | .chordRestore _ => none
  | .rescueCheck _ => none
  | .waitforWalk _ => none
  | .thermalSlotChange _ _ _ => none
  | .timesliceRotate _ => none
  | .suspend _ => none
  | .ctxResume _ => none
  | .ctxMigrate _ _ => none
  | .release _ => none
  | .guestTake _ => none
  | .guestWaithSatisfied _ => none
  | .guestDone _ _ => none
  | .guestFault _ _ _ => none
  | .guestReturn _ _ => none
  | .parked _ => none
  | .parklate _ => none
  | .trq _ _ _ => none
  | .invack _ => none
  | .invlate _ => none
  | .ready => none
  | .readyTimeout => none
  | .guestCoherentRequest _ _ _ => none
  | .guestReset => none
  | .guestRailOverload => none
  | .dtuTranslate _ => none
  | .walkComplete _ _ _ => none
  | .stationReissue _ => none
  | .managementRecordHandle _ => none
  | .inboundWrite _ _ _ _ => none
  | .inboundRead _ _ _ => none
  | .hostReadCompletion _ _ _ => none
  | .completionTimeout _ => none
  | .stringFlitArrive _ => none
  | .meshFlitRetry _ _ => none
  | .linkFail _ _ => none
  | .linkdown => none
  | .uncorrectableError _ => none
  | .sliceScrub _ => none
  | .stationSelfTest _ _ => none
  | .shardCheck _ => none
  | .shardLoadTimeout _ => none
  | .shardRecheck _ => none
  | .rasClear _ _ => none
  | .stage _ => none
  | .fwVerifyDone _ _ _ => none
  | .activate _ => none
  | .abort => none
  | .trialDeadline => none
  | .packageReset => none
  | .ringTokenTimeout => none
  | .thermalThreshold _ _ => none
  | .thermtrip => none
  | .badcmd _ => none
  | .channelCreditReturn _ _ => none
  | .thermalTransferArrive _ => none
  | .linkRetrainComplete _ => none
  | .configurationRequest _ => none
  | .perstDeassertion _ _ _ => none
  | .powerRemoval => none
  | .guestSnoopResponse _ _ => none
  | .contextCreation _ _ _ _ => none
  | .contextDestruction _ => none

/-- The word of an instruction (R45 to R63); an event has none. -/
def encode (i : Instr) : Option (BitVec 32) := (encodeFields i).map Fields.toWord

end Sys2Proof
end

