-- ==== Sys2Proof/Config.lean ====
section
/-! DEFINITION. What an implementation fixes and the spec does not state: constants with no body, so
nothing can be proved of their values. The signed configuration table (R440) is not here: it is plain
data in the state, so that statements range over every table. -/

namespace Sys2Proof.Config

/-- The fixed hash of R39: the slice (0 to 255, taken modulo 256) of the owning die that homes the line
of an LP6 or host-window page. The spec fixes that there is one, not which. Log entry 5. -/
opaque homeHash : (die : Nat) → (line : Nat) → Nat

/-- The ticket of an SVC request: "an opaque value" (R375). The argument is the model's request
counter. Log entry 6. -/
opaque svcTicket : Nat → Word

/-- The 64 bytes of an SVC request (R375), by its ticket, context, world, station word, number and argument: the rule names
what they hold and not where. Log entry 67. -/
opaque svcPacket : Word → Nat → Bool → Word → BitVec 10 → Word → BitVec 512

/-- The firmware version word that SVC service 0 returns (R375): the spec gives no value. Log entry 7. -/
opaque firmwareVersion : Word

/-- A VSFU result whose correct rounding the model's enclosure of the exact function value does not
decide (R151): free, per function, format, rounding mode and operand. Log entry 8. -/
opaque sfuValue : (func fmt mode : Nat) → (operand : Nat) → Nat

/-- AGE of a fault-buffer entry as it reads at a moment (R362): the DTU counts cycles of a counter of its own,
which no rule relates to any event of the model. The arguments are the entry's place and the model's order of
events. Log entry 14. -/
opaque dtuAge : (entry now : Nat) → BitVec 32

/-- The spill tag that SPLS assigns (R380): the rule says only that SPLR takes it. The next tag not in use from this
one on is taken. The argument is the model's request counter. Log entry 15. -/
opaque spillTag : Nat → BitVec 16

/-- The cycles that a launch unit's counter counts from one moment of the model's order of events to the next (R284): the counter
is the launch unit's own. Log entry 14. -/
opaque unitTicks : (die moment : Nat) → Nat

/-- Which of the listed codes of class 5 from an inbound client freezes a function's inbound path whose window does not
translate (R370, R432): the rule names the freeze and no code. Log entry 23. -/
opaque windowDetail : (func : Nat) → Nat

/-- Whether both signatures of a firmware image verify, and its security version (R417): the rules name the schemes and neither the
keys nor the place of the signatures and of the version in an image. Log entry 89. -/
opaque imageSigs : List Byte → Bool
opaque imageSvn : List Byte → Nat

/-- The code that grids take of a die reset which the host asks for (R402): the event has no code. Log entry 91. -/
opaque dieResetCode : (die : Nat) → Cause

/-- Where a function's configuration space holds Device Control 2 (R443): the spec names the register of the PCIe Base
Specification and no offset. Log entry 55. -/
opaque devControl2 : (func : Nat) → Nat

/-- Whether the flits for a ring position leave by the east port (R214, R434): the spec states no route. The arguments are the
ring's size and the two positions. Log entry 68. -/
opaque routeEast : (n src dst : Nat) → Bool

end Sys2Proof.Config
end

