-- ==== Sys2Proof/Machine/Bits.lean ====
section
/-! DEFINITION. Bit fields, sign extension, byte order, vector elements, and the two list forms the state
uses: memory in canonical form and tables with rising keys. -/

namespace Sys2Proof.Machine

/-- Bits [hi:lo] of a 64-bit pattern as a number (R4). -/
def bits (w : Word) (hi lo : Nat) : Nat := (w.toNat >>> lo) % 2 ^ (hi + 1 - lo)

/-- Bit i of a 64-bit pattern. -/
def bit (w : Word) (i : Nat) : Bool := w.getLsbD i

/-- The low n bits of a number, sign-extended to 64 bits (Sext, R93). -/
def sext (n v : Nat) : Word := (BitVec.ofNat n v).signExtend 64

/-- The low n bits of a number read as a signed integer. -/
def toSigned (n v : Nat) : Int := (BitVec.ofNat n v).toInt

/-- An integer's two's-complement pattern of n bits, as a number (Trunc, R93). -/
def ofSigned (n : Nat) (i : Int) : Nat := (BitVec.ofInt n i).toNat

/-- Clamp to the interval (R93). -/
def clampInt (lo hi x : Int) : Int := if x < lo then lo else if hi < x then hi else x

/-- The number whose base-256^s digits, lowest first, are the list's (R4: little-endian). -/
def natOf (s : Nat) : List Nat → Nat
  | [] => 0
  | x :: xs => x % 2 ^ (8 * s) + 2 ^ (8 * s) * natOf s xs

/-- n digits of s bytes of a number, lowest first. -/
def digits (s : Nat) : Nat → Nat → List Nat
  | 0, _ => []
  | n + 1, v => v % 2 ^ (8 * s) :: digits s n (v / 2 ^ (8 * s))

/-- The bytes of a number, lowest first. -/
def bytesOf (n v : Nat) : List Byte := (digits 1 n v).map (BitVec.ofNat 8)

/-- The number whose bytes, lowest first, are the list's. -/
def ofBytes (l : List Byte) : Nat := natOf 1 (l.map BitVec.toNat)

/-! ### Vector elements and predicates (R28, R127) -/

/-- Element i of s bytes of a vector word. -/
def elem (s : Nat) (w : VWord) (i : Nat) : Nat := (w.toNat >>> (8 * s * i)) % 2 ^ (8 * s)

/-- The elements of s bytes of a vector word, lowest first. -/
def elems (s : Nat) (w : VWord) : List Nat := digits s (vbytes / s) w.toNat

/-- The vector word with these elements, lowest first; missing elements are zero. -/
def vecOf (s : Nat) (l : List Nat) : VWord := BitVec.ofNat 2048 (natOf s l)

/-- Whether element i of s bytes is active: the bit of its lowest byte (R28). -/
def active (s : Nat) (p : PWord) (i : Nat) : Bool := p.getLsbD (s * i)

/-- The active flags of the n elements of s bytes from element i on. -/
def actives (s : Nat) (p : PWord) : Nat → Nat → List Bool
  | 0, _ => []
  | n + 1, i => active s p i :: actives s p n (i + 1)

/-- The predicate whose element i has all its s bits equal to the i-th flag (R28). -/
def predOf (s : Nat) (l : List Bool) : PWord :=
  BitVec.ofNat 256 (l.foldr (fun b acc => (if b then 2 ^ s - 1 else 0) + 2 ^ s * acc) 0)

/-! ### Memory: (key, byte) pairs with strictly rising keys and no zero byte -/

/-- The byte at a key; an unlisted byte reads zero (R438 step 4 for LP6; log entry 3). -/
def memGet : List Host.Cell → Nat → Byte
  | [], _ => 0
  | (k, v) :: t, a => if a = k then v else memGet t a

/-- Writing one byte, keeping the canonical form. -/
def memSet : List Host.Cell → Nat → Byte → List Host.Cell
  | [], a, b => if b = 0 then [] else [(a, b)]
  | (k, v) :: t, a, b =>
    if a < k then (if b = 0 then (k, v) :: t else (a, b) :: (k, v) :: t)
    else if a = k then (if b = 0 then t else (a, b) :: t)
    else (k, v) :: memSet t a b

/-- The canonical form: keys strictly rising above the bound, no listed byte zero. -/
def memWfFrom : Nat → List Host.Cell → Bool
  | _, [] => true
  | lo, (k, v) :: t => decide (lo ≤ k) && decide (v ≠ 0) && memWfFrom (k + 1) t

/-- The canonical form of memory. -/
def Memory.wf (m : List Host.Cell) : Bool := memWfFrom 0 m

/-- The n bytes at a key, lowest first. -/
def memRead (m : List Host.Cell) (a : Nat) : Nat → List Byte
  | 0 => []
  | n + 1 => memGet m a :: memRead m (a + 1) n

/-- Writing a list of bytes at ascending keys. -/
def memWrite (m : List Host.Cell) (a : Nat) : List Byte → List Host.Cell
  | [] => m
  | b :: t => memWrite (memSet m a b) (a + 1) t

/-- Writing, at ascending keys, the bytes whose mask bit is set. -/
def memWriteMask (m : List Host.Cell) (a : Nat) : List (Bool × Byte) → List Host.Cell
  | [] => m
  | (true, b) :: t => memWriteMask (memSet m a b) (a + 1) t
  | (false, _) :: t => memWriteMask m (a + 1) t

/-- Removing every byte with a key in [lo, hi), so that it reads zero. -/
def memClear (m : List Host.Cell) (lo hi : Nat) : List Host.Cell :=
  m.filter fun c => c.1 < lo || hi ≤ c.1

/-! ### Tables: association lists with rising keys -/

/-- The entry of a key. -/
def tblGet {α : Type} : List (Nat × α) → Nat → Option α
  | [], _ => none
  | (k, v) :: t, a => if a = k then some v else tblGet t a

/-- Setting a key's entry, keeping the keys rising. -/
def tblPut {α : Type} : List (Nat × α) → Nat → α → List (Nat × α)
  | [], a, b => [(a, b)]
  | (k, v) :: t, a, b =>
    if a < k then (a, b) :: (k, v) :: t
    else if a = k then (a, b) :: t
    else (k, v) :: tblPut t a b

/-- Removing a key's entry. -/
def tblDel {α : Type} (l : List (Nat × α)) (a : Nat) : List (Nat × α) := l.filter fun e => e.1 ≠ a

/-- Changing a key's entry, if there is one. -/
def tblMod {α : Type} (l : List (Nat × α)) (a : Nat) (f : α → α) : List (Nat × α) :=
  l.map fun e => if e.1 = a then (e.1, f e.2) else e

/-- The n numbers from a on. -/
def numsFrom (a : Nat) : Nat → List Nat
  | 0 => []
  | n + 1 => a :: numsFrom (a + 1) n

/-- Replacing the entry at an index of a list. -/
def listSet {α : Type} : List α → Nat → α → List α
  | [], _, _ => []
  | _ :: t, 0, b => b :: t
  | h :: t, n + 1, b => h :: listSet t n b

/-- Adding a number to a list without repeats. -/
def addOnce (l : List Nat) (a : Nat) : List Nat := if a ∈ l then l else l ++ [a]

end Sys2Proof.Machine
end

