-- ==== Sys2Proof/Machine/State.lean ====
section
/-! DEFINITION. The state of one ZX4400 package as plain data: every piece of state the spec names
(INVENTORY.md lists them with their rules), and `State.reset`, the package as boot step 7 of R438 leaves it.
Sparse parts are association lists with rising keys: strands by slot (8 · station + slot number), stations by
station number (256 · die + 16 · row + column), proofs by 2^20 · die + ID, grids by 2^16 · context + SERIAL. -/

namespace Sys2Proof.Machine

/-! ### Registers -/

/-- What marks a register poisoned (R123): the load's PC and address, the code of the fault, and the holder
tag of the strand that loaded. -/
structure Poison where
  pc : Word
  addr : Word
  code : Cause
  tag : Nat
  deriving DecidableEq, Repr

/-- An x or y register (R28, R31, R123): its value, its full bit, and its poison mark. -/
structure SCell where
  val : Word := 0
  full : Bool := true
  poison : Option Poison := none
  deriving DecidableEq, Repr

/-- A v or w register (R28, R31, R130, R142): as an x register, with its XR tag. -/
structure VCell where
  val : VWord := 0
  full : Bool := true
  xr : Bool := false
  poison : Option Poison := none
  deriving DecidableEq, Repr

/-- Where an empty-marking instruction's result goes (R31). -/
inductive Dst where
  | none
  | s (r : SReg)
  | v (r : VReg)
  deriving DecidableEq, Repr

/-- One word on a port or channel: VWIDTH bits and the writer's MODE.XR (R130, R233); `id` orders a
write-stream word among the requests (R206). -/
structure PortWord where
  val : VWord := 0
  xr : Bool := false
  poison : Bool := false
  id : Nat := 0
  deriving DecidableEq, Repr

/-- A port's binding (R230 to R234). `sla` is the SPACE bit; `pos` counts the words taken or written.
`buf` are a read stream's words fetched ahead with their positions, or a write stream's words with
their positions, not yet sent. `got` are the lines fetched of a read stream's next word, and `bad` that one is poisoned. -/
structure Stream where
  write : Bool
  sla : Bool
  desc : Word
  base : Word
  pos : Nat := 0
  xr : Bool := false
  buf : List (Nat × PortWord) := []
  got : List (BitVec 512) := []
  bad : Bool := false
  deriving DecidableEq, Repr

/-- A channel end (R232, R233). At the "to" end (`sends`), `buf` holds the words in flight and `credit` the words
that may still be written; at the "from" end, `buf` holds the words that have arrived. `peer` is the holder
tag and port of the other end when both ends are bound. `returns` counts the credits on their way back to the sender, and
`owed` those of them that add nothing: an earlier binding of the sender had more words under way than the allowance is now. -/
structure Channel where
  sends : Bool
  desc : Word
  edge : Bool
  peer : Option (Nat × Fin 8) := none
  allow : Nat := 16
  credit : Nat := 0
  buf : List PortWord := []
  returns : Nat := 0
  owed : Nat := 0
  deriving DecidableEq, Repr

/-- A port q0 to q7 (R35, R36, R230). -/
inductive Port where
  | unbound
  | stream (s : Stream)
  | channel (c : Channel)
  deriving DecidableEq, Repr

/-- VREP's repeat state (R155): the passes left, the body address, the body's words, the index of the next
body word, and whether a trap handler has interrupted it. -/
structure Rep where
  left : Nat
  body : Word
  words : List (BitVec 32)
  idx : Nat
  paused : Bool := false
  deriving DecidableEq, Repr

/-- An MLDW under way (R168): its place in issue order, its operands, and, once `started`, the bytes of the image
read so far and the kind of poison met. -/
structure LatchLoad where
  order : Nat
  started : Bool := false
  base : Word
  sla : Bool
  tr : Bool
  c64 : Bool
  image : Nat := 0
  poison : Option Nat := none
  deriving DecidableEq, Repr

/-- What a wait at issue waits for (R33, R36, R119, R158, R238, R375): nothing that the wait-for table names, the strand's
outstanding results, those for one register (by UCAUSE's KIND and REG), room at a port, or room in the matrix or copy
engine's queue. -/
inductive IssueWait where
  | plain | results | engine | copy
  | reg (kind reg : Nat)
  | port (q : Fin 8)
  deriving DecidableEq, Repr

/-- Why a strand does not issue (R290, R297). `source` (an empty source under e = 0, R32, by UCAUSE's KIND and REG) and
`issue` (the other waits at issue) are re-examined by executing the instruction again; so are the holds inside an
instruction whose end `exec` can see. The others end by an event. -/
inductive Hold where
  | none
  | source (kind reg : Nat)
  | issue (w : IssueWait)
  /-- A PHASE.R or PHASE.RA: what the release waits for: store ages below `age` in homes of the scope, the
  strand's far atomics, and for system scope the host-window stores of ages below `host` (R198). `acq` for
  PHASE.RA. -/
  | release (sc : Scope) (age host : Nat) (acq : Bool)
  | proof (req : Nat)
  /-- A PRPUB before its publication is sent: the queues it waits for with their marks, then the stores of
  ages below `age` (R261). -/
  | prpub (m : BitVec 4) (cmark mmark rmark : Nat) (handle count : Word) (age : Nat)
  | mldw (l : LatchLoad)
  | mwait (mark : Nat)
  /-- QFENCE (R206): entries of the copy and matrix queues numbered below `cmark` and `mmark`, and guest
  packets and stream words numbered below `rmark`. -/
  | qfence (m : BitVec 4) (cmark mmark rmark : Nat)
  | msend
  | sleep
  | cbar (gen : Nat)
  | punbind (q : Fin 8)
  | pskip (q : Fin 8) (left : Nat)
  | dtinv (invs reqs : List Nat)
  | fetch (req : Nat)
  deriving DecidableEq, Repr

/-- A drain, CPYT or MRECV event that waits for the strand's next boundary (R174, R241, R314). -/
structure Event where
  code : Cause
  deriving DecidableEq, Repr

/-- TIMER (R317). -/
structure Timer where
  count : BitVec 32 := 0
  arm : Bool := false
  fired : Bool := false
  deriving DecidableEq, Repr

/-- One strand: the contents of a slot (R16, R22 to R28, R155, R227, R290). Every CSR of scope "slot" is
here. `ctx` is 0 to 63, or 64 for a Bridge firmware strand. -/
structure Strand where
  tag : Nat
  ctx : Nat
  world : Bool
  priv : Bool
  grid : Nat
  loose : Bool
  index : Fin 8
  nm1 : Fin 8
  chordCsr : BitVec 16
  courseCsr : BitVec 40
  stageCsr : BitVec 6
  gridCsr : BitVec 23
  pc : Word
  x : Vector SCell 16 := Vector.replicate 16 {}
  v : Vector VCell 16 := Vector.replicate 16 {}
  p : Vector PWord 8 := Vector.replicate 8 0
  ports : Vector Port 8 := Vector.replicate 8 .unbound
  intrap : Bool := false
  mode : BitVec 5 := 0
  utvec : Word := 0
  uepc : Word := 0
  ucause : Word := 0
  umask : BitVec 4 := 0
  timer : Timer := {}
  msticky : BitVec 6 := 0
  seed : Word := 0
  dtsel : BitVec 7 := 0
  rep : Option Rep := none
  hold : Hold := .none
  events : List Event := []
  frozen : Option Cause := none
  ran : Nat := 0
  /-- The word of the instruction that the strand is held at: it was fetched, and is not fetched again. -/
  word : BitVec 32 := 0
  deriving DecidableEq, Repr

/-! ### The station -/

/-- One store of the write set, within one line (R190, R192 to R195). `kind` is the page kind once known
(2 LP6 or 1 plate: mergeable; 3 host window); `slot` the writer's slot; `bad` once its bytes are lost to an error (R405). -/
structure Store where
  age : Nat
  line : Nat
  mask : BitVec 64
  data : BitVec 512
  slot : Nat
  grid : Nat
  ctx : Nat
  world : Bool
  kind : Option (Fin 4)
  bad : Bool := false
  deriving DecidableEq, Repr

/-- A byte of a clean copy in L1 (R193): its value and whether its block is poisoned. -/
structure CleanByte where
  val : Byte
  poison : Option Nat := none
  deriving DecidableEq, Repr

/-- One matrix latch (R156): the weight L[k][n] as INT8 at byte 64·n + k, the 64 scales, KIND (true CSD8)
and TR. -/
structure Latch where
  w : BitVec 32768 := 0
  scale : BitVec 512 := BitVec.ofNat 512 ((2 ^ 512 - 1) / 255 * 128)
  csd : Bool := false
  tr : Bool := false
  deriving DecidableEq, Repr

/-- One accumulator set (R156): the raw value of row r, column n at bits 64·(64·r + n), and its NaN flag
at bit 64·r + n. -/
structure AccSet where
  raw : BitVec 131072 := 0
  nan : BitVec 2048 := 0
  deriving DecidableEq, Repr

/-- A completion action captured by an engine entry (R173, R242): a publication of a resolved handle with
its count word, or a message with its destination word and payload. -/
inductive Action where
  | none
  | pub (handle count : Word) (age : Nat)
  | msg (dest payload : Word) (xr : Bool)
  deriving DecidableEq, Repr

/-- An entry of the matrix-engine queue with its captured operands (R158, R167 to R175). -/
inductive MEntry where
  | mcfg (word : BitVec 12)
  | mstep (g : Fin 8) (a b : VWord)
  | mzero (back : Bool)
  | mswap (l a : Bool)
  | mdrain (fmt : DrainFmt) (back : Bool) (dest : Word) (act : Action) (rm : RM) (trap : Bool)
  | mstat (sel : Fin 7) (b : Word) (res : Nat)
  deriving DecidableEq, Repr

/-- A queued matrix entry, with the tag, grid and slot of its issuer and its place in entry order. -/
structure MItem where
  n : Nat
  tag : Nat
  grid : Nat
  slot : Nat
  pc : Word
  e : MEntry
  deriving DecidableEq, Repr

/-- A drain captured into the drain buffer, awaiting writing (R172, R173): its bytes in ascending order;
`refused` once a write of it is refused (R173). -/
structure Drain where
  item : MItem
  dest : Word
  len : Nat
  bytes : Nat
  act : Action
  refused : Bool := false
  deriving DecidableEq, Repr

/-- The ternary matrix engine of a station (R156), with the halt of R174 (the trapped
strand's tag and its grid) and the freeze of R368 with the grid whose access it answers. -/
structure Engine where
  latch : Vector Latch 2 := Vector.replicate 2 {}
  frontL : Fin 2 := 0
  acc : Vector AccSet 2 := Vector.replicate 2 {}
  frontA : Fin 2 := 0
  mxint : Bool := false
  mg : Fin 8 := 7
  bp : BitVec 6 := 24
  sticky : BitVec 9 := 0
  badAddr : Word := 0
  stepcyc : Word := 0
  steps : Word := 0
  lastc : Word := 0
  queue : List MItem := []
  handlerQ : List MItem := []
  drain : Option Drain := none
  halted : Option Nat := none
  haltGrid : Nat := 0
  haltMark : Nat := 0
  loading : Option Nat := none
  entered : Nat := 0
  frozen : Option Cause := none
  frozenGrid : Nat := 0
  deriving DecidableEq, Repr

/-- Which copy instruction (R238). -/
inductive CopyOp where
  | cpy | cpyt | cpyd | cpys
  deriving DecidableEq, Repr

/-- An entry of the copy-engine queue with its captured descriptor (R238, R239). `got` and `dgot` are the source
and digest bytes read so far, `put` counts the bytes written, `bst` is BSTICKY so far; `done` once its writes are
held, with its MISMATCH; `refused` once an access of it is refused (R244); `failed` the code and address that an access of a host command's transfer
ended with (R277). `host` is the queue and command of a host COPY, or the shard of a LOADSHARD as (256, shard). -/
structure CItem where
  n : Nat
  op : CopyOp
  tag : Nat
  grid : Nat
  ctx : Nat
  slot : Nat
  pc : Word
  desc : Nat
  src : Word
  dst : Word
  dig : Word
  len : Nat
  ssla : Bool
  dsla : Bool
  gsla : Bool
  trap : Bool
  act : Action
  got : List Byte := []
  dgot : List Byte := []
  put : Nat := 0
  bst : Bool := false
  done : Option Bool := none
  host : Option (Nat × Nat) := none
  refused : Bool := false
  failed : Option (Cause × Word) := none
  deriving DecidableEq, Repr

/-- The copy engine of a station (R238 to R244), with its halt (R241) and its freeze as the matrix engine's. -/
structure CopyEngine where
  queue : List CItem := []
  handlerQ : List CItem := []
  halted : Option Nat := none
  haltGrid : Nat := 0
  entered : Nat := 0
  frozen : Option Cause := none
  frozenGrid : Nat := 0
  deriving DecidableEq, Repr

/-- What a chord's save image holds of its station: the engines (R178, R293), and, once the station has passed to another context,
the plate ways with the marks of their poisoned blocks, counted from the plate's first byte (R291). -/
structure Engines where
  eng : Engine
  cpy : CopyEngine
  plate : Option (List (Nat × Byte) × List (Nat × Nat)) := none
  deriving DecidableEq, Repr

/-- A VSFU request in the station's queue (R152). -/
structure SfuReq where
  tag : Nat
  res : Nat
  fn : SfuFn
  f32 : Bool
  rm : RM
  src : VWord
  pred : PWord
  deriving DecidableEq, Repr

/-- A mailbox message (R313, R314). `from` is the sender's STATION fields. -/
structure Msg where
  payload : Word
  mtag : BitVec 8
  ps : Bool
  xr : Bool
  src : BitVec 22
  serial : BitVec 16
  sender : Nat
  deriving DecidableEq, Repr

/-- The chord resident on (or reserved on, or spilled from) a station: R16, R28, R289, R312. -/
inductive ChordState where
  | pending | armed (at_ : Nat) | resident | spilled | ending | ended
  deriving DecidableEq, Repr

/-- A chord (R16, R28, R285, R289, R312): `n` strands, the tags of those that live and of all, the shared registers,
the barrier, the arming registrations not yet satisfied as (request, list index), its P_eff at placement, the store
mark of its last EXIT, and whether a rescue spills it. -/
structure Chord where
  grid : Nat
  course : Nat
  x : Fin 16
  y : Fin 16
  n : Nat
  st : ChordState := .pending
  live : List Nat := []
  tags : List Nat := []
  yreg : Vector SCell 16 := Vector.replicate 16 {}
  wreg : Vector VCell 8 := Vector.replicate 8 {}
  cbarCount : Nat := 0
  cbarGen : Nat := 0
  regs : List (Nat × Nat) := []
  prio : Nat := 0
  mark : Nat := 0
  dispatched : Nat := 0
  evict : Bool := false
  deriving DecidableEq, Repr

/-- A write to a shared register in the current cycle (R30): the register, the writer's slot number, and
the value a sibling still reads in that cycle. -/
inductive SameCycle where
  | y (i : Fin 16) (slot : Nat) (old : SCell)
  | w (i : Fin 8) (slot : Nat) (old : VCell)
  deriving DecidableEq, Repr

/-- A payload-form MRECV that waits for a message (R314): the strand's tag, grid, slot key and MODE.XR at issue, the result it
feeds, and the cycle and slot number that order it. -/
structure MrecvWait where
  tag : Nat
  res : Nat
  cycle : Word := 0
  slot : Nat := 0
  grid : Nat := 0
  key : Nat := 0
  xr : Bool := false
  deriving DecidableEq, Repr

/-- A station (R12, R16, R18, R190, R315, R366): its cycle counter, L1, engines, mailbox, ready queue, run
queue, protection unit and plate configuration, and the issue state of the current cycle (R287). `cycAge` is
the store age at the start of the cycle (R198); `plan` the slots chosen for the cycle that have not issued; `seen` the times of R203; `msgTrap` that a message trap was entered in
this cycle (R322). -/
structure Station where
  cycle : Word := 0
  cycAge : Nat := 0
  plan : Option (List Nat) := none
  same : List SameCycle := []
  stores : List Store := []
  clean : List (Nat × CleanByte) := []
  kinds : List (Nat × Fin 4) := []
  icache : List (Nat × BitVec 512 × Bool) := []
  seen : List (Nat × Nat) := []
  eng : Engine := {}
  cpy : CopyEngine := {}
  sfu : List SfuReq := []
  mailbox : List Msg := []
  mheld : List (Nat × Msg) := []
  mrecv : List MrecvWait := []
  rq : Vector (List Word) 4 := Vector.replicate 4 []
  runq : List Strand := []
  chord : Option Chord := none
  ways : Nat := 0
  prot : Vector Word 16 := Vector.replicate 16 0
  disabled : BitVec 8 := 0
  lastGrid : Nat := 0
  msgTrap : Bool := false
  failed : Bool := false
  testing : Bool := false
  leaving : Bool := false
  refused : List Nat := []
  reissue : Bool := false
  hot : Bool := false
  deriving DecidableEq, Repr

/-! ### Requests -/

/-- An access's kind for the rights of R359; `locate` only finds a home (R308). -/
inductive Access where
  | read | write | fetch | queueOp | bankOp | locate
  deriving DecidableEq, Repr

/-- Where a translated byte lies (R360): LP6 of a die, a station's plate, a station's shared ways, or PCIe. -/
inductive Loc where
  | lp6 (die pa : Nat)
  | plate (station off : Nat)
  | shared (station off : Nat)
  | pcie (addr : Nat)
  deriving DecidableEq, Repr

/-- What a request does at its home (R191, R202, R226, R229, R254). -/
inductive ReqKind where
  | fill (prefetch : Bool)
  | merge
  | streamRead (port : Fin 8) (pos : Nat)
  | streamWrite (port : Fin 8)
  | kindQuery
  | amo (op : Fin 16) (dbl : Bool)
  | lrw | sch | rrel
  | enq (nw : Bool) | deq (nw : Bool)
  | proofPub | proofWait | proofTake | proofTest | proofRead | proofAdvance
  | withdraw (req : Nat)
  | prarm
  | armWait (station : Nat) | armTake (station : Nat)
  | spawn | spawnl
  | inRead (func : Nat) (n : Nat) | inWrite (func : Nat)
  | trq
  | fetch
  | migrate
  | copyRead (n : Nat)
  | copyWrite
  | slotOp (parent : Nat) (write : Bool)
  | unitRead
  | unitWrite
  | dtu
  | spls
  | splr
  deriving DecidableEq, Repr

/-- Where a request is (R38, R357 to R361). -/
inductive Stage where
  | toDtu
  | walking
  | buffered (entry : Fin 8)
  | refused
  | translated (l : Loc)
  | waiting
  | inbound (l : Loc)
  | hostOut (l : Loc)
  | remote
  | replied (ok : Bool) (code : Cause)
  deriving DecidableEq, Repr

/-- A request in flight. `mask` and `data` are the bytes of a write within its line, or the packet of an
ENQ; `a` and `b` are operands (AMO operand and comparand, SCH word, handle and count word); `writers` the slots and
grids that wrote a merge's bytes; `res` the pending result it feeds; `held` the bytes of a load that the write set holds in a
page of unknown kind, with `data` (R212); `from_` the station number and the request number of a request that another
package sent (R214), its station number being 1024 times the ring position more than there; `bad` its poison bit (R406); `joined` that COALESCED
has counted it for a walk (R388); `turn` its place in a reissue (R361); `sent` its place among what the DTUs send to the homes
(R390); `ring` that the publication which answered it has ring scope (R210); `front` that the front end makes the access (R360);
`hostw` that it is a host-window store on its way to another package (R212); `gq` whether the queue of an ENQ that another
package serves is a guest queue, once known (R206); `back` the request of another package whose packet a publication completes
(R271). -/
structure Req where
  kind : ReqKind
  stage : Stage := .toDtu
  tag : Nat := 0
  slot : Nat := 0
  station : Nat := 0
  grid : Nat := 0
  ctx : Nat := 0
  world : Bool := false
  gva : Word := 0
  pc : Word := 0
  mask : BitVec 64 := 0
  data : BitVec 512 := 0
  a : Word := 0
  b : Word := 0
  writers : List (Nat × Nat) := []
  res : Option Nat := none
  install : Bool := true
  src : Nat := 0
  age : Nat := 0
  order : Nat := 0
  held : BitVec 64 := 0
  from_ : Option (Nat × Nat) := none
  bad : Bool := false
  joined : Bool := false
  turn : Nat := 0
  sent : Nat := 0
  ring : Bool := false
  front : Bool := false
  hostw : Bool := false
  gq : Option Bool := none
  back : Option (Nat × Nat) := none
  deriving DecidableEq, Repr

/-- A result that will set its register full (R31, R34): the strand's tag, the destination, the value built
so far, the bytes still to come as (byte of the value, GVA), and how a scalar is extended at the end. -/
structure PRes where
  tag : Nat
  dst : Dst
  pc : Word
  addr : Word := 0
  value : VWord := 0
  xr : Bool := false
  pend : List (Nat × Nat) := []
  nbytes : Nat := 8
  signed : Bool := false
  ready : Bool := false
  poison : Option Cause := none
  setSat : Bool := false
  sticky : BitVec 6 := 0
  deriving DecidableEq, Repr

/-! ### Reservations and proofs -/

/-- A waiter on a reserved word (R226): the holder tag, the pending result, the station and number of a request that
another package sent, and the slot and address of its LRW. -/
structure LWaiter where
  tag : Nat
  grid : Nat
  res : Option Nat
  from_ : Option (Nat × Nat) := none
  slot : Nat := 0
  addr : Word := 0
  deriving DecidableEq, Repr

/-- A reserved word's record (R226 to R228), keyed by its physical key. -/
structure Resv where
  holder : Nat
  grid : Nat
  waiters : List LWaiter := []
  deriving DecidableEq, Repr

/-- A waiter record of a proof (R252, R254): what is recorded, the declared generation, and the request. -/
structure PWaiter where
  req : Nat
  kind : ReqKind
  gen : BitVec 16
  deriving DecidableEq, Repr

/-- A proof's record and its waiters (R249, R252, R281). `ring` is that the current publication came from another package, with
ring scope (R209); `binds` counts the uncompleted grids that bound it. A record in the backing store stands in LP6 (R251): the
fields of its two words are then read there. -/
structure Proof where
  valid : Bool := true
  pub : Bool := false
  world : Bool
  res : Bool
  ctx : Nat
  takes : BitVec 16 := 0
  count : BitVec 16 := 0
  gen : BitVec 16 := 0
  pubs : Word := 0
  ring : Bool := false
  waiters : List PWaiter := []
  binds : Nat := 0
  deriving DecidableEq, Repr

/-! ### Grids, launches and host queues -/

/-- An element of a grid's proof list (R248, R280). -/
structure PElem where
  handle : Word
  isIn : Bool
  take : Bool
  first : Bool
  deriving DecidableEq, Repr

/-- A grid's state (R288). -/
inductive GridState where
  | accepted | placing | running | completing | done | refused | ending | faulted
  deriving DecidableEq, Repr

/-- Who launched a grid (R282, R304): a host queue's command, or a SPAWN with its DONEH and DONEC. -/
inductive Launcher where
  | queue (q : Nat) (cmd : Nat)
  | spawn (doneh donec : Word)
  deriving DecidableEq, Repr

/-- A grid (R16, R280, R288): its launch block's fields, its proof list and port table, the proofs it bound, and its
progress; `steps` the completion steps that a launch unit has taken (R304), and `told` that the homes of other packages have been
told of its end (R227, R229). -/
structure Grid where
  st : GridState := .accepted
  ctx : Nat
  world : Bool
  serial : BitVec 16
  entry : Word
  arg0 : Word
  arg1 : Word
  wm1 : Fin 16
  hm1 : Fin 16
  strands : Nat
  stages : Nat
  courses : Nat
  allowance : Nat
  priority : Nat
  ways : Nat
  mode : BitVec 5
  seed : Word
  pimg : Word
  plen : Nat
  quota : Nat
  proofs : List PElem
  ports : List (Fin 8 × Word)
  crec : Word
  sig : Word
  by_ : Launcher
  placed : Nat := 0
  ended : Nat := 0
  loose : Nat := 0
  cause : Cause := 0
  addr : Word := 0
  bound : List Nat := []
  since : Nat := 0
  accepted : Nat := 0
  hold : Bool := false
  steps : Nat := 0
  told : Bool := false
  deriving DecidableEq, Repr

/-- A host command read and not yet complete (R276, R282): `grid` the grid it launched, `ready` once its condition of
R282 holds, `steps` the completion steps taken, `children` the commands of its buffer. -/
structure Cmd where
  op : Nat
  header : Word
  body : List Word
  sig : Word
  tlv : Word
  level : Nat
  ring : Nat
  grid : Nat := 0
  fault : Bool := false
  refused : Bool := false
  cause : Cause := 0
  addr : Word := 0
  ready : Bool := false
  steps : Nat := 0
  children : List Nat := []
  deriving DecidableEq, Repr

/-- STATE of a host queue (R273). -/
inductive QState where
  | disabled | idle | active | waiting | suspended (was : Nat) | faulted
  deriving DecidableEq, Repr

/-- An open indirect buffer (R278): its address, length and next index, and its CALLIB command. -/
structure IBuf where
  addr : Word
  count : Nat
  next : Nat
  cmd : Nat
  deriving DecidableEq, Repr

/-- A host queue's registers and progress (R273 to R279). `tailMark` is the number of the next request at the last tail write: the
inbound writes numbered below it precede it (R201). -/
structure HQueue where
  base : Word := 0
  log2 : BitVec 6 := 0
  tail : Word := 0
  head : Word := 0
  timeline : Word := 0
  st : QState := .disabled
  cause : Cause := 0
  faultidx : Word := 0
  bufs : List IBuf := []
  cmds : List (Nat × Cmd) := []
  nextCmd : Nat := 0
  tailMark : Nat := 0
  wait : Option Nat := none
  polled : Bool := false
  deriving DecidableEq, Repr

/-- The CTXCMD in progress (R354). -/
inductive CtxOp where
  | none | suspend | resume
  deriving DecidableEq, Repr

/-- A context (R21, R203, R224, R250, R353, R354). `oor` is the first offending plate address recorded (R40, R375); `plateoor` that one was recorded (R283).
`guestQueues` gives the numbers of its guest queues and where their descriptors stand in die 0's LP6 (R265). -/
structure Context where
  world : Bool := false
  quota : Nat := 0
  serial : BitVec 16 := 1
  status : Fin 4 := 1
  error : BitVec 8 := 0
  busy : Bool := false
  amoconf : Bool := false
  amosat : Bool := false
  oor : Option Word := none
  plateoor : Bool := false
  suspended : Bool := false
  parked : Bool := false
  op : CtxOp := .none
  waitInvs : List Nat := []
  waitReqs : List Nat := []
  guestQueues : List (Nat × Nat) := []
  evacuate : Bool := false
  deriving DecidableEq, Repr

/-! ### Dies -/

/-- A context-table entry of a DTU (R353). -/
structure CtxEntry where
  valid : Bool := false
  world : Bool := false
  root : Nat := 0
  func : BitVec 5 := 0
  hwhi : BitVec 16 := 0
  quota : BitVec 15 := 0
  sect : BitVec 256 := 0
  deriving DecidableEq, Repr

/-- A TLB result (R358): the leaf of a context's page; `big` for a 128 MiB leaf. -/
structure TlbEntry where
  ctx : Nat
  page : Nat
  leaf : Word
  big : Bool
  deriving DecidableEq, Repr

/-- A walk under way, with the context-table entry it started from, and the requests that join it in arrival order (R353,
R358, R388). -/
structure Walk where
  ctx : Nat
  page : Nat
  entry : CtxEntry
  reqs : List Nat
  deriving DecidableEq, Repr

/-- A fault-buffer entry (R361, R362); AGE is a reading of the DTU's own counter (log entry 14). -/
structure FbEntry where
  acc : BitVec 5
  page : Nat
  ctx : Nat
  reqs : List Nat
  first : BitVec 10
  order : Nat
  deriving DecidableEq, Repr

/-- A fault record (R400). `slot`, `grid` and `link` are what management knows of it besides the layout: the slot key, the
grid's key, and the link that failed (R403). `seq` is its sequence number in the management queue; a record that found the
queue full is `dropped`, and its event is still to be acted on. -/
structure Record where
  code : Cause
  kind : Fin 5
  master : Fin 8
  gridw : BitVec 23
  place : BitVec 54
  pc : Word
  addr : Word
  cycle : Word
  aux : Word := 0
  slot : Nat := 0
  grid : Nat := 0
  link : Option Link := none
  seq : Option Nat := none
  dropped : Bool := false
  deriving DecidableEq, Repr

/-- An SVC request on a die's service queue (R375). -/
structure SvcReq where
  ticket : Word
  ctx : Nat
  world : Bool
  station : Nat
  n : BitVec 10
  arg : Word
  res : Nat
  tag : Nat
  seq : Option Nat := none
  deriving DecidableEq, Repr

/-- A die (R353 to R371, R400, R401): its DTU, region table, firewall, what its management and service queues hold, and
its RAS block. `droppedNote` is the context of a DROPPED notification that the DTU holds (R363). -/
structure Die where
  ctxTab : List (Nat × CtxEntry) := []
  tlb : List TlbEntry := []
  walks : List Walk := []
  fbuf : Vector (Option FbEntry) 8 := Vector.replicate 8 none
  fbOrder : Nat := 0
  dropped : Bool := false
  droppedNote : Option Nat := none
  refusedCnt : BitVec 16 := 0
  faultsCnt : BitVec 16 := 0
  coalesced : BitVec 16 := 0
  refusedBy : List Nat := []
  region : Vector (Word × Word) 64 := Vector.replicate 64 (0, 0)
  fwsel : BitVec 4 := 0
  fwallow : Vector Word 16 := Vector.replicate 16 0x800000000000000F#64
  mgmt : List Record := []
  svcq : List SvcReq := []
  cecnt : Word := 0
  uecnt : Word := 0
  linkrty : Word := 0
  lanespare : Word := 0
  lateflt : Word := 0
  recdrop : Word := 0
  repair : Word := 0
  rasvec : BitVec 16 := 0
  deriving DecidableEq, Repr

/-! ### The guest -/

/-- GSTAT.STATE (R410). -/
inductive GState where
  | absent | online | frozen | resetting | offline
  deriving DecidableEq, Repr

/-- A packet's state (R269). -/
inductive PktState where
  | waiting | delivered
  deriving DecidableEq, Repr

/-- A tracked packet (R268, R269): its queue, sequence number, bytes and state. -/
structure Pkt where
  gqn : Nat
  seq : Word
  bytes : BitVec 512
  st : PktState
  req : Nat := 0
  deriving DecidableEq, Repr

/-- A packet accepted by a guest queue and not yet final (R206, R269): its queue, sequence number, grid, context and
world, the station it came from (1024 for none) and the number of its request, where its descriptor stands, and the request of
another package that enqueued it. -/
structure GSent where
  gqn : Nat
  seq : Nat
  grid : Nat
  ctx : Nat
  world : Bool
  station : Nat
  id : Nat
  desc : Loc
  from_ : Option (Nat × Nat) := none
  deriving DecidableEq, Repr

/-- A translation the guest holds (R373). `parked` once its context has parked (R300). -/
structure DirEntry where
  ctx : Nat
  page : Nat
  frame : Word
  r : Bool
  w : Bool
  deriving DecidableEq, Repr

/-- An outstanding INV (R374). -/
structure Inv where
  id : Nat
  ctx : Nat
  page : Option Nat
  old : List DirEntry
  deriving DecidableEq, Repr

/-- The snoops of the coherent port (R373): SnpData leaves a shared copy, SnpInv none, SnpCur changes nothing. -/
inductive Snoop where
  | data | inv | cur
  deriving DecidableEq, Repr

/-- Messages from the device to the guest (R268, R300, R372). -/
inductive ToGuest where
  | notice (gqn : Nat) (tail : Word)
  | packet (gqn : Nat) (seq : Word) (bytes : BitVec 512)
  | cancel (gqn : Nat) (seq : Word)
  | preempt (ctx : Nat)
  | resume (ctx : Nat)
  | trs (page : Nat) (addr : Word) (r w : Bool)
  | trsStatus (page : Nat) (refused : Bool)
  | inv (id ctx : Nat) (page : Option Nat)
  | snoop (id : Nat) (line : Nat) (kind : Snoop)
  | data (line : BitVec 512) (poisoned : Bool)
  deriving DecidableEq, Repr

/-- The guest as the device sees it (R268 to R272, R300, R372 to R374, R407 to R410, R436). `was` is where it stood when it was
frozen; `owned` and `shared` are the lines its cache holds with and without ownership. -/
structure Guest where
  st : GState := .absent
  was : GState := .online
  lastCause : Cause := 0
  resets : BitVec 29 := 0
  takes : List Nat := []
  sent : List GSent := []
  pkts : List Pkt := []
  returned : List Pkt := []
  ignored : List (Nat × Word) := []
  dir : List DirEntry := []
  invs : List Inv := []
  nextInv : Nat := 0
  owned : List Nat := []
  shared : List Nat := []
  snoops : List (Nat × Nat × Snoop) := []
  nextSnoop : Nat := 0
  preempting : List Nat := []
  railsCut : Bool := false
  out : List ToGuest := []
  deriving DecidableEq, Repr

/-! ### Recovery, firmware and the boundary -/

/-- A shard's state (R411, R412). -/
inductive ShState where
  | loading | checking | valid | withheld | absent
  deriving DecidableEq, Repr

/-- A registry entry (R411), with the attempts to read its source that failed, whether STATUS shows CHECKING, and the command that
loads it. -/
structure Shard where
  ctx : Nat
  sdesc : Word
  src : Word
  dst : Word
  len : Nat
  dig : Word
  proof : Word
  timeout : Word
  st : ShState
  tries : Nat := 0
  shown : Bool := false
  fail : Option (ShState × Cause × Bool) := none
  q : Nat
  cmd : Nat
  deriving DecidableEq, Repr

/-- A firmware slot's state (R417, R418). -/
inductive FwState where
  | empty | staged | valid | trial | active | standby | invalid
  deriving DecidableEq, Repr

/-- The firmware block (R417, R418) and the package's minimum security version. -/
structure Firmware where
  busy : Bool := false
  image : Vector (List Byte) 2 := Vector.replicate 2 []
  copying : Bool := false
  swap : Option (Fin 2) := none
  handover : List Nat := []
  slot : Vector FwState 2 := #v[.active, .empty]
  svns : Vector Nat 2 := Vector.replicate 2 0
  run : Fin 2 := 0
  cause : Cause := 0
  src : Word := 0
  len : BitVec 32 := 0
  trialTime : BitVec 32 := 17166
  minSvn : Nat := 0
  deriving DecidableEq, Repr

/-- One function's window block and inbound path (R368, R432). -/
structure Window where
  valid : Bool := false
  ctx : BitVec 6 := 0
  base : Word := 0
  frozen : Option Cause := none
  deriving DecidableEq, Repr

/-- A PCIe transaction the device sent (R212, R245, R282). -/
inductive PcieOut where
  | write (func : Nat) (addr : Nat) (n : Nat) (data : VWord) (poisoned : Bool)
  | read (req func : Nat) (addr : Nat) (n : Nat)
  | msix (func vec : Nat)
  | completion (func : Nat) (n : Nat) (data : VWord) (status : CplStatus)
  | config (value : BitVec 32) (retry : Bool)
  deriving DecidableEq, Repr

/-- What leaves the package on the String (R214): a request to another ring position, or the answer to one that came from
the station number of another package. -/
inductive StringOut where
  | request (dest : Nat) (r : FlitReq)
  | reply (src req : Nat) (data : VWord) (code : Cause) (kind : Fin 4)
  deriving DecidableEq, Repr

/-- The boot's progress (R438): a step 0 to 7, or a halt with its cause; `recovery` after a halt later than
step 1; `off` once power is gone; `trip` while THERMTRIP holds the dies in reset. -/
structure Boot where
  step : Nat := 7
  perst : Bool := false
  halted : Option Cause := none
  recovery : Bool := false
  trip : Bool := false
  off : Bool := false
  deriving DecidableEq, Repr

/-- The roles of Bridge stations (R439). -/
inductive Role where
  | pager | management | thermal | supervisor | frontEnd | scrubber
  deriving DecidableEq, Repr

/-- The role map at reset: each die's four roles, one front end and one digest scrubber (log entry 4). -/
def defaultRoles : List (Nat × Role) :=
  [(15, .pager), (31, .frontEnd), (47, .management), (63, .thermal), (79, .supervisor), (95, .scrubber),
   (271, .pager), (303, .management), (319, .thermal), (335, .supervisor)] ++
  [(527, .pager), (559, .management), (575, .thermal), (591, .supervisor),
   (783, .pager), (815, .management), (831, .thermal), (847, .supervisor)]

/-- The signed configuration table (R13, R433, R439, R440), the ring position and size, and how many other packages of the ring have
RINGHEAD = 1 (R15, R434). -/
structure CfgTable where
  bridgeWidth : Nat := 1
  bridgeHigh : Bool := true
  shift : List Nat := List.replicate 64 16
  tableShift : List Nat := List.replicate 64 16
  lp6Gib : Vector Nat 4 := Vector.replicate 4 96
  guestPresent : Bool := false
  guestWorld : Bool := false
  guestInspect : Bool := false
  funcWorlds : List Bool := [false]
  barLog2 : Nat := 30
  pagerGva : Vector Word 4 := Vector.replicate 4 0
  mgmtGva : Vector Word 4 := Vector.replicate 4 0
  svcGva : Vector Word 4 := Vector.replicate 4 0
  sharedWays : List (Nat × Nat) := []
  backing : Vector Nat 4 := Vector.replicate 4 0x17FF000000
  inspect : BitVec 64 := 0
  ringHead : Bool := true
  otherHeads : Nat := 0
  ringN : Nat := 1
  pkg : Nat := 0
  wiredN : Nat := 1
  wiredPkg : Nat := 0
  queueFunc : List (Nat × Nat × Nat) := []
  roles : List (Nat × Role) := defaultRoles
  scrubInterval : Nat := 2 ^ 35
  testInterval : Nat := 2 ^ 35
  deriving DecidableEq, Repr

/-- A strand between stations (R20, R290, R299, R308): a MIGRATE packet or a thermal transfer. A packet leaves when
the writes of station `src` older than `mark` are at their homes (R201). -/
structure Transit where
  strand : Strand
  dest : Nat
  migrate : Bool
  gva : Word
  req : Nat := 0
  src : Nat := 0
  mark : Nat := 0
  deriving DecidableEq, Repr

/-- A save image in a context's save area (R34, R178, R291 to R293): a slot, or a chord with its strands (with the
slots they had), its station's engines, and the ways and descriptors of its grid there (R367). -/
inductive Saved where
  | slot (spillTag : Nat) (station : Nat) (t : Strand) (byFw : Bool)
  | chord (station : Nat) (c : Chord) (strands : List (Nat × Strand)) (eng : Engines) (ways : Nat)
      (prot : Vector Word 16)
  deriving DecidableEq, Repr

/-- An entry of the wait-for table (R297): a waiting party, the grid it belongs to, and its conditions, each with the parties that
can end it. -/
structure WaitEntry where
  who : Nat
  grid : Nat
  conds : List (List Nat)
  deriving DecidableEq, Repr

/-- The walker's memory (R298): the waiting set it saw on its last complete walk. -/
structure Walker where
  last : List WaitEntry := []
  passes : Nat := 0
  deriving DecidableEq, Repr

/-- A launch unit's memory of its rescue checks (R296): the contexts in want at the last check, as a set of bits, and the
grid that a rescue in progress will place. -/
structure Rescue where
  seen : Nat := 0
  target : Option Nat := none
  deriving DecidableEq, Repr

/-- What hardware, firmware or the host does where the rules state an effect and the opcode table has no row: single-bit errors that a
die corrects (R401, R405); a die reset that the host asks for (R402); a write to the firmware's power service (R441); management's
next step with a context of a failed station, with the place it chooses (R416); firmware's release of a shard's entry (R412); a
role's handover record during a swap (R419); and a write of 8 bytes to BAR4 (R431). Log entry 100. -/
inductive Service where
  | corrected (die n : Nat)
  | dieReset (die : Nat)
  | powerLimit (watts : Nat)
  | evacuate (ctx : Nat) (arg : Word)
  | releaseShard (shard : Nat)
  | handover (station : Nat)
  | bar4Write (func off : Nat) (value : Word)
  deriving DecidableEq, Repr

/-- Whose move it is: an event of the part or of the outside world, an instruction of a station, or a service. The
agenda is an input: it lists what happens next, in order; when it is empty the station in focus runs. -/
inductive Turn where
  | act (e : Instr)
  | run (station : Nat)
  | serve (x : Service)
  deriving DecidableEq, Repr

/-- The state of the package. -/
structure State where
  agenda : List Turn
  focus : Nat
  cur : Nat
  mem : List Host.Cell
  /-- Poisoned 64-byte blocks: key / 64 and 0 poison, 1 withheld, 2 an LP6 error not yet met (R215). -/
  poison : List (Nat × Nat)
  strands : List (Nat × Strand)
  stations : List (Nat × Station)
  dies : Vector Die 4
  reqs : List (Nat × Req)
  results : List (Nat × PRes)
  resv : List (Nat × Resv)
  queueWaits : List (Nat × List Nat)
  proofs : List (Nat × Proof)
  grids : List (Nat × Grid)
  ctxs : List (Nat × Context)
  queues : List (Nat × HQueue)
  saved : List Saved
  transit : List Transit
  guest : Guest
  shards : List (Nat × Shard)
  fw : Firmware
  windows : List (Nat × Window)
  atomics : List (Nat × Nat)
  /-- The times at which a home last supplied a line to a station of another package or accepted a merge of it (R203), by
  2^58 · station number + line. -/
  seenAway : List (Nat × Nat)
  /-- The lines that homes have marked for a conflict with a far atomic (R203): key / 64. -/
  marked : List Nat
  /-- Grids of other packages that have ended and whose packets stand in guest queues here (R269). -/
  awayEnded : List Nat
  pcie : List PcieOut
  string : List StringOut
  /-- Whether the east and the west String port have failed (R406). -/
  eastDown : Bool
  westDown : Bool
  boot : Boot
  cfg : CfgTable
  walkers : Vector Walker 4
  rescue : Vector Rescue 4
  clock : Nat
  nextId : Nat
  nextTag : Nat
  nextAge : Nat
  cfgSpace : List (Nat × BitVec 32)
  /-- The MSI-X tables of the functions (R431): 2^16 · function + offset. -/
  bar4 : List (Nat × Word)
  /-- Spare SRAM rows in use, by physical slice (R415). -/
  sliceRows : List (Nat × Nat)
  /-- The package's power limit in watts, and whether the package is over it (R441). -/
  powerLimit : Nat
  powerOver : Bool
  deriving DecidableEq, Repr

/-- Why the machine stops. No instruction and no event of the spec stops it: an exception is taken (a next
state), a fault ends a grid, a refusal freezes a master. -/
inductive Fault where
  /-- Raised by `step` alone: the device is held in reset, without power, or halted in boot, and the agenda
  names no event that could change that (R438, R441). Safe: the device executes nothing then. -/
  | deviceHeld
  deriving DecidableEq, Repr

/-- Why an instruction has no meaning. -/
inductive Refusal where
  /-- Raised by an arm of `exec` for a row whose meaning is not written. Safe: nothing follows from it. -/
  | notModelled (mnemonic : String)
  deriving DecidableEq, Repr

/-- The package as boot step 7 leaves it (R438, R402): LP6 zero, tables cleared, FWALLOW set and locked,
host queues disabled, no strand resident. Where the spec states no value the log names it. -/
def State.reset : State where
  agenda := []
  focus := 0
  cur := 0
  mem := []
  poison := []
  strands := []
  stations := []
  dies := Vector.replicate 4 {}
  reqs := []
  results := []
  resv := []
  queueWaits := []
  proofs := []
  grids := []
  ctxs := []
  queues := []
  saved := []
  transit := []
  guest := {}
  shards := []
  fw := {}
  windows := []
  atomics := []
  seenAway := []
  marked := []
  awayEnded := []
  pcie := []
  string := []
  eastDown := false
  westDown := false
  boot := {}
  cfg := {}
  walkers := Vector.replicate 4 {}
  rescue := Vector.replicate 4 {}
  clock := 0
  nextId := 0
  nextTag := 1
  nextAge := 0
  cfgSpace := []
  bar4 := []
  sliceRows := []
  powerLimit := 950
  powerOver := false

end Sys2Proof.Machine
end

