-- ==== Sys2Proof/Machine/Base.lean ====
section
/-! DEFINITION. The named operations over the state's tables, registers and home memory: where things stand, the registers
of a strand, and the bytes and poison of a home. -/

namespace Sys2Proof.Machine

/-! ### Places (R11, R12, R27) -/

/-- The station of a slot key. -/
def stationOf (k : Nat) : Nat := k / 8

/-- The slot number of a slot key. -/
def slotOf (k : Nat) : Nat := k % 8

/-- The die, row and column of a station number. -/
def dieOf (st : Nat) : Nat := st / 256
def rowOf (st : Nat) : Nat := st / 16 % 16
def colOf (st : Nat) : Nat := st % 16

/-- The station number of a die, row and column. -/
def stationAt (die row col : Nat) : Nat := die % 4 * 256 + row % 16 * 16 + col % 16

/-- DIE [41:40], ROW [39:36], COL [35:32] of an operand word (R171, R313, R380). -/
def stationOfWord (w : Word) : Nat := stationAt (bits w 41 40) (bits w 39 36) (bits w 35 32)

/-- The same fields written, below bit 42. -/
def stationWord (st : Nat) : Nat := dieOf st * 2 ^ 40 + rowOf st * 2 ^ 36 + colOf st * 2 ^ 32

/-- A number put in ascending order. -/
def insertNat (n : Nat) : List Nat → List Nat
  | [] => [n]
  | m :: l => if n ≤ m then n :: m :: l else m :: insertNat n l

/-- The stations of a role, in ascending order of die, row and column (R439). -/
def CfgTable.withRole (c : CfgTable) (r : Role) : List Nat :=
  (c.roles.filter fun e => e.2 == r).foldr (fun e l => insertNat e.1 l) []

/-- The front end stations (R439). -/
def CfgTable.frontEnds (c : CfgTable) : List Nat := c.withRole .frontEnd

/-- The pager of a die (R439). -/
def CfgTable.pagerStation (c : CfgTable) (die : Nat) : Nat := ((c.withRole .pager).find? fun st => dieOf st == die).getD (256 * die + 15)

/-- Whether a station lies in the Bridge column (R13). -/
def isBridge (c : CfgTable) (st : Nat) : Bool :=
  if c.bridgeHigh then decide (16 - c.bridgeWidth ≤ colOf st) else decide (colOf st < c.bridgeWidth)

/-- The rules of the role map (R439). -/
def CfgTable.rolesOk (c : CfgTable) : Bool :=
  let one (d : Nat) (r : Role) : Bool := ((c.withRole r).filter fun st => dieOf st == d).length == 1
  decide (c.roles.map (·.1)).Nodup && (c.roles.all fun e => decide (e.1 < 1024) && isBridge c e.1) &&
  (([0, 1, 2, 3] : List Nat).all fun d => one d .pager && one d .management && one d .thermal && one d .supervisor) &&
  !(c.withRole .frontEnd).isEmpty && !(c.withRole .scrubber).isEmpty

/-- The limits of the LP6 shares (R433), which R43 binds: 64 GiB to 384 GiB in the package. -/
def CfgTable.sharesOk (c : CfgTable) : Bool := c.lp6Gib.toList.all fun n => n % 8 == 0 && decide (16 ≤ n) && decide (n ≤ 96)

/-- The limits of the table's other items (R440), and R43's bound of 64 packages in a ring. -/
def CfgTable.limitsOk (c : CfgTable) : Bool :=
  (c.bridgeWidth == 1 || c.bridgeWidth == 2) && (c.tableShift.all fun n => decide (n ≤ 16)) &&
  decide (1 ≤ c.funcWorlds.length) && decide (c.funcWorlds.length ≤ 17) && decide (30 ≤ c.barLog2) && decide (c.barLog2 ≤ 38) &&
  (c.sharedWays.all fun e => decide (e.2 ≤ 15)) && (c.backing.toList.all fun b => b % 2 ^ 24 == 0) &&
  decide (2 ^ 30 ≤ c.scrubInterval) && decide (2 ^ 30 ≤ c.testInterval) && decide (c.wiredN ≤ 64)

/-! ### The tables of the state -/

def State.slot (s : State) (k : Nat) : Option Strand := tblGet s.strands k
def State.setSlot (s : State) (k : Nat) (t : Strand) : State := { s with strands := tblPut s.strands k t }
def State.freeSlot (s : State) (k : Nat) : State := { s with strands := tblDel s.strands k }
def State.modSlot (s : State) (k : Nat) (f : Strand → Strand) : State :=
  { s with strands := tblMod s.strands k f }

/-- The strand that executes. -/
def State.curStrand (s : State) : Option Strand := s.slot s.cur
def State.modCur (s : State) (f : Strand → Strand) : State := s.modSlot s.cur f

/-- The station, die and number of the executing slot. -/
def State.curStation (s : State) : Nat := stationOf s.cur
def State.curDie (s : State) : Nat := dieOf (stationOf s.cur)

def State.station (s : State) (n : Nat) : Station := (tblGet s.stations n).getD {}
def State.setStation (s : State) (n : Nat) (t : Station) : State :=
  { s with stations := tblPut s.stations n t }
def State.modStation (s : State) (n : Nat) (f : Station → Station) : State := s.setStation n (f (s.station n))

def State.die (s : State) (d : Nat) : Die := s.dies[(Fin.ofNat 4 d)]
def State.modDie (s : State) (d : Nat) (f : Die → Die) : State :=
  { s with dies := s.dies.set (Fin.ofNat 4 d) (f (s.die d)) }

def State.gridOf (s : State) (g : Nat) : Option Grid := tblGet s.grids g
def State.modGrid (s : State) (g : Nat) (f : Grid → Grid) : State := { s with grids := tblMod s.grids g f }

def State.ctx (s : State) (c : Nat) : Context := (tblGet s.ctxs c).getD {}
def State.modCtx (s : State) (c : Nat) (f : Context → Context) : State :=
  { s with ctxs := tblMod s.ctxs c f }

def State.req (s : State) (n : Nat) : Option Req := tblGet s.reqs n
def State.modReq (s : State) (n : Nat) (f : Req → Req) : State := { s with reqs := tblMod s.reqs n f }
def State.delReq (s : State) (n : Nat) : State := { s with reqs := tblDel s.reqs n }

/-- Adding a request under a fresh number. -/
def State.addReq (s : State) (r : Req) : State :=
  { s with reqs := tblPut s.reqs s.nextId { r with order := s.nextId }, nextId := s.nextId + 1 }

def State.modResult (s : State) (n : Nat) (f : PRes → PRes) : State :=
  { s with results := tblMod s.results n f }

/-- A result has its value: its arrival will write the register (R31). -/
def State.deliver (s : State) (n : Nat) (v : VWord) : State :=
  s.modResult n fun r => { r with value := v, pend := [], ready := true }

/-- A result arrives poisoned (R123). -/
def State.deliverPoison (s : State) (n : Nat) (c : Cause) : State :=
  s.modResult n fun r => { r with pend := [], ready := true, poison := some c }

/-- Delivering to a result that may be absent. -/
def State.deliverTo (s : State) (n : Option Nat) (v : VWord) : State :=
  match n with
  | some i => s.deliver i v
  | none => s

/-- The answer to a request of another package leaves on the String (R214). -/
def State.reply (s : State) (f : Nat × Nat) (v : VWord) (code : Cause) (kind : Fin 4 := 0) : State :=
  { s with string := s.string ++ [.reply f.1 f.2 v code kind] }

/-- The value that a request returns goes to the result it feeds, or to the package that sent it. -/
def State.answer (s : State) (r : Req) (v : VWord) (kind : Fin 4 := 0) : State :=
  match r.from_ with
  | some f => s.reply f v 0 kind
  | none => s.deliverTo r.res v

/-- GRID's value for a grid key (R27). -/
def gridWord (s : State) (g : Nat) : BitVec 23 :=
  match s.gridOf g with
  | some gr => BitVec.ofNat 23 (gr.world.toNat * 2 ^ 22 + gr.ctx * 2 ^ 16 + gr.serial.toNat)
  | none => 0

/-- The key of a grid: its context and SERIAL. -/
def gridKey (ctx : Nat) (serial : BitVec 16) : Nat := ctx * 65536 + serial.toNat

/-! ### Registers (R28 to R34) -/

/-- What a sibling reads in a cycle in which the register was written: the value before (R30). -/
def oldY (i : Fin 16) : List SameCycle → Option SCell
  | [] => none
  | .y j _ o :: t => if i = j then some o else oldY i t
  | .w _ _ _ :: t => oldY i t

def oldW (i : Fin 8) : List SameCycle → Option VCell
  | [] => none
  | .w j _ o :: t => if i = j then some o else oldW i t
  | .y _ _ _ :: t => oldW i t

/-- The highest slot number that wrote a shared register in this cycle, plus one. -/
def writerY (i : Fin 16) : List SameCycle → Nat
  | [] => 0
  | .y j n _ :: t => if i = j then max (n + 1) (writerY i t) else writerY i t
  | .w _ _ _ :: t => writerY i t

def writerW (i : Fin 8) : List SameCycle → Nat
  | [] => 0
  | .w j n _ :: t => if i = j then max (n + 1) (writerW i t) else writerW i t
  | .y _ _ _ :: t => writerW i t

/-- The scalar register as it stands, whatever was written in this cycle. -/
def State.scellNow (s : State) (k : Nat) (t : Strand) (r : SReg) : SCell :=
  match r with
  | .x i => if i = 0 then {} else t.x[i]
  | .y i =>
    match (s.station (stationOf k)).chord with
    | some c => c.yreg[i]
    | none => {}

/-- The scalar register as an instruction reads it: x0 is zero and full; a shared register written in this
cycle reads as before (R28, R30). -/
def State.scell (s : State) (k : Nat) (t : Strand) (r : SReg) : SCell :=
  match r with
  | .x _ => s.scellNow k t r
  | .y i => (oldY i (s.station (stationOf k)).same).getD (s.scellNow k t r)

def State.vcellNow (s : State) (k : Nat) (t : Strand) (r : VReg) : VCell :=
  match r with
  | .v i => t.v[i]
  | .w i =>
    match (s.station (stationOf k)).chord with
    | some c => c.wreg[i]
    | none => {}
  | .q _ => {}

def State.vcell (s : State) (k : Nat) (t : Strand) (r : VReg) : VCell :=
  match r with
  | .w i => (oldW i (s.station (stationOf k)).same).getD (s.vcellNow k t r)
  | .v _ => s.vcellNow k t r
  | .q _ => s.vcellNow k t r

/-- Changing a scalar register's cell. A write to x0 is ignored. Of two writes to a shared register in one
cycle, the one from the higher-numbered slot stands (R30). -/
def State.setScell (s : State) (k : Nat) (r : SReg) (c : SCell) : State :=
  match r with
  | .x i => if i = 0 then s else s.modSlot k fun t => { t with x := t.x.set i c }
  | .y i =>
    s.modStation (stationOf k) fun st =>
      match st.chord with
      | some ch =>
        if writerY i st.same ≤ slotOf k + 1 then
          { st with chord := some { ch with yreg := ch.yreg.set i c },
                    same := .y i (slotOf k) ((oldY i st.same).getD ch.yreg[i]) :: st.same }
        else st
      | none => st

def State.setVcell (s : State) (k : Nat) (r : VReg) (c : VCell) : State :=
  match r with
  | .v i => s.modSlot k fun t => { t with v := t.v.set i c }
  | .w i =>
    s.modStation (stationOf k) fun st =>
      match st.chord with
      | some ch =>
        if writerW i st.same ≤ slotOf k + 1 then
          { st with chord := some { ch with wreg := ch.wreg.set i c },
                    same := .w i (slotOf k) ((oldW i st.same).getD ch.wreg[i]) :: st.same }
        else st
      | none => st
  | .q _ => s

/-- Writing a scalar register: full, not poisoned. -/
def State.putS (s : State) (k : Nat) (r : SReg) (v : Word) : State := s.setScell k r { val := v }

/-- Writing a vector register with its XR tag (R130). -/
def State.putV (s : State) (k : Nat) (r : VReg) (v : VWord) (xr : Bool) : State :=
  s.setVcell k r { val := v, xr := xr }

/-- Marking a register empty at issue (R31). -/
def State.emptyS (s : State) (k : Nat) (t : Strand) (r : SReg) : State :=
  s.setScell k r { s.scellNow k t r with full := false }
def State.emptyV (s : State) (k : Nat) (t : Strand) (r : VReg) : State :=
  s.setVcell k r { s.vcellNow k t r with full := false }

/-- A predicate register; p0 reads all-true (R28). -/
def Strand.pred (t : Strand) (p : PReg) : PWord := if p = 0 then BitVec.allOnes 256 else t.p[p]

/-- Writing a predicate register; p0 ignores writes. -/
def Strand.setPred (t : Strand) (p : PReg) (v : PWord) : Strand :=
  if p = 0 then t else { t with p := t.p.set p v }

/-! ### MODE and STATUS fields (R24, R25) -/

def Strand.xr (t : Strand) : Bool := t.mode.getLsbD 1
def Strand.cvmTrap (t : Strand) : Bool := t.mode.getLsbD 0
def Strand.sr (t : Strand) : Bool := t.mode.getLsbD 4

/-- The rounding mode of a 2-bit code (R25). -/
def rmOf : Nat → RM
  | 0 => .rne | 1 => .rtz | 2 => .rdn | _ => .rup

def Strand.rm (t : Strand) : RM := rmOf (t.mode.toNat / 4 % 4)

/-- STATUS (R24). -/
def Strand.status (t : Strand) : Word :=
  BitVec.ofNat 64 (t.priv.toNat * 4 + t.world.toNat * 2 + t.intrap.toNat)

/-! ### Home memory (R39, R190, R191) -/

/-- The memory key of a translated byte; a PCIe address has none. -/
def Loc.key : Loc → Option Nat
  | .lp6 die pa => some (die * 2 ^ 48 + pa)
  | .plate st off => some (2 ^ 52 + st * 2 ^ 23 + off)
  | .shared st off => some (2 ^ 52 + st * 2 ^ 23 + 2 ^ 22 + off)
  | .pcie _ => none

/-- The location of a memory key. -/
def keyLoc (k : Nat) : Loc :=
  if 2 ^ 52 ≤ k then
    let st := (k - 2 ^ 52) / 2 ^ 23
    let off := (k - 2 ^ 52) % 2 ^ 23
    if off < 2 ^ 22 then .plate st off else .shared st (off - 2 ^ 22)
  else .lp6 (k / 2 ^ 48) (k % 2 ^ 48)

/-- A location some bytes further on. -/
def Loc.plus : Loc → Nat → Loc
  | .lp6 die pa, n => .lp6 die (pa + n)
  | .plate st off, n => .plate st (off + n)
  | .shared st off, n => .shared st (off + n)
  | .pcie a, n => .pcie (a + n)

/-- The home slice, as a station number (R39). -/
def Loc.home : Loc → Nat → Nat
  | .lp6 die pa, _ => die * 256 + Config.homeHash die (pa / 64) % 256
  | .plate st _, _ => st
  | .shared st _, _ => st
  | .pcie a, die => die * 256 + Config.homeHash die (a / 64) % 256

/-- The kind of poison on the 64-byte block that holds a key: 0 poison, 1 withheld (R215, R412). -/
def State.poisonAt (s : State) (key : Nat) : Option Nat := tblGet s.poison (key / 64)

/-- The first poison among the n bytes from a key. -/
def State.poisonIn (s : State) (key n : Nat) : Option Nat :=
  (numsFrom (key / 64) ((key + n - 1) / 64 + 1 - key / 64)).findSome? fun b => tblGet s.poison b

/-- A context-table entry (R353). -/
def Die.ctxEntry (d : Die) (c : Nat) : CtxEntry := (tblGet d.ctxTab c).getD {}

/-- Whether a station is a compute station of a context's section (R13, R353). -/
def State.inSection (s : State) (c st : Nat) : Bool :=
  let e := (s.die (dieOf st)).ctxEntry c
  e.sect.getLsbD (st % 256) && !isBridge s.cfg st

/-- Whether a station is reserved for a spilled chord (R293): until it leaves the section of the chord's context. -/
def State.heldForRestore (s : State) (st : Nat) : Bool :=
  s.saved.any fun v => match v with
    | .chord x c _ _ _ _ => x == st && ((s.gridOf c.grid).map fun g => s.inSection g.ctx st).getD true
    | .slot _ _ _ _ => false

/-- The number of valid plate bytes of a station, none while no course is placed on it (R40, R367), and of its shared
ways (R355). -/
def State.plateSize (s : State) (st : Nat) : Nat :=
  if (s.station st).chord.isSome || s.heldForRestore st then (s.station st).ways * 262144 else 0
def State.sharedWays (s : State) (st : Nat) : Nat := (tblGet s.cfg.sharedWays st).getD 0

/-- Whether a byte exists: plate bytes beyond the plate size do not (R40, R360). -/
def State.inPlate (s : State) : Loc → Bool
  | .plate st off => decide (off < s.plateSize st)
  | .shared st off => decide (off < s.sharedWays st * 262144)
  | .lp6 _ _ => true
  | .pcie _ => true

/-- The home value of a byte; a plate byte out of range reads zero. -/
def State.homeByte (s : State) (l : Loc) : Byte :=
  if s.inPlate l then (match l.key with | some k => memGet s.mem k | none => 0) else 0

/-- The home value of n bytes. -/
def State.homeBytes (s : State) (l : Loc) : Nat → List Byte
  | 0 => []
  | n + 1 => s.homeByte l :: s.homeBytes (l.plus 1) n

/-- A number read little-endian at its home. -/
def State.homeNat (s : State) (l : Loc) (n : Nat) : Nat := ofBytes (s.homeBytes l n)

/-- Writing the enabled bytes at their home; a plate byte out of range is dropped. A write of all 64 bytes of
a block clears its poison (R215, R406). -/
def State.homeWriteMask (s : State) (l : Loc) : List (Bool × Byte) → State
  | [] => s
  | (w, b) :: t =>
    let s := if w && s.inPlate l then
        (match l.key with | some k => { s with mem := memSet s.mem k b } | none => s) else s
    s.homeWriteMask (l.plus 1) t

def State.homeWrite (s : State) (l : Loc) (bs : List Byte) : State :=
  s.homeWriteMask l (bs.map fun b => (true, b))

/-- Marking and clearing a block's poison. -/
def State.setPoison (s : State) (key kind : Nat) : State := { s with poison := tblPut s.poison (key / 64) kind }
def State.clearPoison (s : State) (key : Nat) : State := { s with poison := tblDel s.poison (key / 64) }

/-- The first out-of-range plate address of a context is recorded (R40): an SLA, or a GVA with bit 63 set. -/
def State.recordOor (s : State) (c : Nat) (a : Word) : State :=
  s.modCtx c fun x => { x with oor := some (x.oor.getD a), plateoor := true }

/-- The same for an address given as a GVA. -/
def State.recordOorG (s : State) (c : Nat) (g : Word) : State := s.recordOor c (g ||| 0x8000000000000000#64)

/-- The time of the last far atomic on a byte, for R203. -/
def State.noteAtomic (s : State) (key : Nat) : Nat → State
  | 0 => s
  | n + 1 => ({ s with atomics := tblPut s.atomics key s.clock }).noteAtomic (key + 1) n

/-- One tick of the package's order of events. -/
def State.tick (s : State) : State := { s with clock := s.clock + 1 }

/-! ### Writes at a home (R192, R215, R406) -/

/-- Whether a write covers a whole 64-byte block. -/
def wholeBlock (key : Nat) (bs : List (Bool × Byte)) : Bool :=
  key % 64 == 0 && bs.length == 64 && bs.all (·.1)

/-- One write held at a home, within one block. A write of the whole block clears its poison. A partial write to
a block whose fetch from LP6 fails is not performed: the block becomes poisoned, and the answer is true
(METAPOISON, R215). A partial write to a poisoned block is performed and the block stays poisoned (R406). -/
def State.writeBlock (s : State) (l : Loc) (bs : List (Bool × Byte)) : State × Bool :=
  match l.key with
  | none => (s, false)
  | some k =>
    if wholeBlock k bs then ((s.clearPoison k).homeWriteMask l bs, false)
    else if s.poisonAt k = some 2 then (s.setPoison k 0, true)
    else (s.homeWriteMask l bs, false)

/-- The bytes of a list that lie in one block, with those of earlier positions left out. -/
def State.writeBlocks (s : State) (l : Loc) (bs : List Byte) : Nat → State × Bool
  | 0 => (s, false)
  | fuel + 1 =>
    match bs with
    | [] => (s, false)
    | _ =>
      let room := match l.key with
        | some k => 64 - k % 64
        | none => bs.length
      let (s', m) := s.writeBlock l ((bs.take room).map fun b => (true, b))
      let (s'', m') := s'.writeBlocks (l.plus room) (bs.drop room) fuel
      (s'', m || m')

/-- The poison kind a reader meets on n bytes at a location: an LP6 error not yet met counts as poison. -/
def State.readPoison (s : State) (l : Loc) (n : Nat) : Option Nat :=
  match l.key with
  | some k => (s.poisonIn k n).map fun p => if p = 2 then 0 else p
  | none => none

/-- The class 7 code of a poison kind for a source: POISON, or WITHHELD (R398, R412). -/
def poisonCode (src kind : Nat) : Cause := causeOf 7 src (if kind = 1 then 2 else 0)

/-- The address of the block of an address: METAPOISON's report names it (R215). -/
def blockOf (g : Word) : Word := g &&& ~~~63#64

/-! ### Addresses (R37) -/

/-- The ring position of a GVA. -/
def gvaPkg (a : Word) : Nat := bits a 56 51

/-- The owning die of a GVA. -/
def gvaDie (a : Word) : Nat := bits a 50 49

/-- The key of a GVA's 64 KiB page: bits [56:16]. -/
def gvaPage (a : Word) : Nat := bits a 56 16

/-- R37: bits [63:57] are zero and the package is one of the ring. -/
def gvaOk (c : CfgTable) (a : Word) : Bool := bits a 63 57 == 0 && decide (gvaPkg a < c.ringN)

end Sys2Proof.Machine
end

