-- ==== Sys2Proof/Machine/Xlat.lean ====
section
/-! DEFINITION. Translation and the checks on an access: page tables, rights, regions, the Bridge firewall and
the protection unit (R352 to R371). -/

namespace Sys2Proof.Machine

/-- Who makes an access: the context (64 for firmware), its world, whether it is the guest, and whether the front end makes
it for the context. -/
structure Who where
  ctx : Nat
  world : Bool
  guest : Bool := false
  front : Bool := false
  deriving DecidableEq, Repr

/-- A firmware strand, through entry 64 (R353, R360). -/
def Who.fw (w : Who) : Bool := w.ctx == 64

/-- Firmware, and the front end, which stands in the Bridge column: no router of its edge checks their packets (R371). -/
def Who.unchecked (w : Who) : Bool := w.fw || w.front

/-- The executing strand's authority. -/
def Strand.who (t : Strand) : Who := { ctx := t.ctx, world := t.world }

/-- How a walk ends (R357, R405). -/
inductive WalkEnd where
  | leaf (p : Word) (big : Bool)
  | notPresent
  | noCtx
  | badPte
  | poison
  deriving DecidableEq, Repr

/-- How a translation ends: the location and its page kind; NOTPRESENT; a deferred fault of class 6 with its
detail, or 0x1E8, or 0x16C; a refusal of class 5 with its detail, or by the firewall. -/
inductive Xlat where
  | ok (l : Loc) (kind : Fin 4)
  | notPresent
  | fault (code : Nat → Cause)
  | refused (code : Nat → Cause)

/-- The compute stations of a context's section, in ascending order. -/
def State.sectionOf (s : State) (c : Nat) : List Nat := (numsFrom 0 1024).filter fun st => s.inSection c st

/-- Reserved bits of a table entry, BANK = 3, or SH with W (R356, R357). -/
def pteBad (p : Word) : Bool :=
  bits p 54 48 != 0 || bits p 57 56 == 3 || (bit p 55 && bit p 59) ||
  (bits p 62 61 != 0 && bits p 15 14 != 0)

/-- One level of the walk: the entry at index idx of the table at LP6 physical address t. -/
def State.pte (s : State) (die t idx : Nat) : Word :=
  BitVec.ofNat 64 (s.homeNat (.lp6 die (t + 8 * idx)) 8)

/-- Whether the block of a table entry is poisoned. -/
def State.ptePoison (s : State) (die t idx : Nat) : Bool :=
  (tblGet s.poison ((die * 2 ^ 48 + t + 8 * idx) / 64)).isSome

/-- The walk from a level (R357); `n` levels remain. -/
def State.walkFrom (s : State) (die : Nat) (g : Word) : Nat → Nat → WalkEnd
  | 0, _ => .badPte
  | n + 1, t =>
    let lvl := 2 - n
    let idx := if lvl = 0 then bits g 48 38 else if lvl = 1 then bits g 37 27 else bits g 26 16
    let p := s.pte die t idx
    if s.ptePoison die t idx then .poison
    else if !bit p 63 then .notPresent
    else if pteBad p then .badPte
    else if bits p 62 61 = 0 then
      if lvl = 2 then .badPte else s.walkFrom die g n (bits p 47 14 * 2 ^ 14)
    else if lvl = 0 || (lvl = 1 && bits p 62 61 == 1) then .badPte
    else if lvl = 1 && bits p 26 16 != 0 then .badPte
    else .leaf p (lvl = 1)

/-- A walk of GVA g from a context-table entry (R357): the entry as it stood when the walk started (R353). -/
def State.walkBy (s : State) (die : Nat) (e : CtxEntry) (w : Who) (g : Word) : WalkEnd :=
  if !e.valid || e.world != w.world then .noCtx else s.walkFrom die g 3 e.root

/-- A walk of GVA g in context c on a die (R357). -/
def State.walk (s : State) (die : Nat) (w : Who) (g : Word) : WalkEnd := s.walkBy die ((s.die die).ctxEntry w.ctx) w g

/-- A leaf in the second-level TLB (R358): its page is the 64 KiB page of the GVA, or its 128 MiB page. -/
def Die.tlbHit (d : Die) (c : Nat) (g : Word) : Option (Word × Bool) :=
  (d.tlb.find? fun e => e.ctx == c &&
    (if e.big then e.page / 2048 == gvaPage g / 2048 else e.page == gvaPage g)).map fun e => (e.leaf, e.big)

/-- The frame of a byte: FRAME[47:16], with the page offset's high bits for a 128 MiB leaf. -/
def frameOf (p : Word) (big : Bool) (g : Word) : Nat :=
  bits p 47 16 + (if big then bits g 26 16 else 0)

/-- The rights of R359 that an access needs of a leaf: the refusing detail, if one. -/
def rightsRefuse (p : Word) : Access → Option Nat
  | .read => if bit p 60 then none else some 0
  | .write => if bit p 59 && !bit p 55 then none else some 1
  | .fetch => if bit p 58 then none else some 2
  | .queueOp => if (bits p 57 56 == 1 || bits p 57 56 == 2) && !bit p 55 then none else some 3
  | .bankOp => if bits p 57 56 == 2 && !bit p 55 then none else some 3
  | .locate => none

/-- Whether a valid region entry covers a frame of a kind (R365). -/
def regionMatch (r : Word × Word) (kind frame : Nat) : Bool :=
  bit r.1 63 && bits r.1 62 61 == kind && decide (bits r.1 47 16 ≤ frame) && decide (frame ≤ bits r.2 47 16)

/-- What the deciding region entry allows (R365). -/
def regionAllows (r : Word × Word) (w : Who) (a : Access) : Bool :=
  (w.world || !bit r.1 60) && !bit r.1 59 && (!w.guest || bit r.1 55) &&
  (match a with
    | .read => bit r.1 58
    | .write => bit r.1 57
    | .fetch => bit r.1 56
    | .queueOp => bit r.1 58 && bit r.1 57
    | .bankOp => bit r.1 58 && bit r.1 57
    | .locate => true)

/-- The region table's decision: the lowest-numbered match; firmware is not checked (R365). -/
def Die.regionHas (d : Die) (w : Who) (a : Access) (kind frame : Nat) : Bool :=
  w.fw ||
  (match d.region.toList.find? fun r => regionMatch r kind frame with
    | some r => regionAllows r w a
    | none => false)

/-- Whether the region table lets an access go on; finding a home is no access. -/
def Die.regionOk (d : Die) (w : Who) (a : Access) (kind frame : Nat) : Bool :=
  a == .locate || d.regionHas w a kind frame

/-- The FWALLOW bit of a class: 0 HOME, 1 BANK, 2 PROOF, 3 SVCQ (R371). A packet of a non-firmware master to a
Bridge station passes only if the router of its row allows the class. -/
def State.fwPass (s : State) (w : Who) (cls : Nat) (die : Nat) (home : Unit → Nat) : Bool :=
  w.unchecked || (s.die die).fwallow.toList.all (fun x => x.getLsbD cls) || !isBridge s.cfg (home ()) ||
  ((s.die die).fwallow[(Fin.ofNat 16 (rowOf (home ())))]).getLsbD cls

/-- The class of the firewall that an access belongs to. -/
def Access.fwClass : Access → Nat
  | .read => 0 | .write => 0 | .fetch => 0 | .queueOp => 1 | .bankOp => 1 | .locate => 0

/-- A class 5 refusal with detail d; the argument is the master's source (R370). -/
def refusal (d : Nat) : Xlat := .refused fun src => causeOf 5 src d

/-- What a leaf gives an access (R359, R360, R365, R371). The order is: a bank operation on a host-window page
(0x16C), malformed frames, PAOOR, page rights, the region table, the firewall (log entry 11). -/
def State.useLeaf (s : State) (die : Nat) (w : Who) (g : Word) (a : Access) (p : Word) (big : Bool) : Xlat :=
  let kind := bits p 62 61
  let f := frameOf p big g
  let check (l : Loc) (k : Fin 4) : Xlat :=
    match rightsRefuse p a with
    | some d => refusal d
    | none =>
      if !(s.die die).regionOk w a kind f then refusal 5
      else if a ≠ .locate ∧ !s.fwPass w a.fwClass die (fun _ => l.home die) then .refused fun _ => 0x2F0
      else .ok l k
  if kind = 3 then
    if a = .queueOp ∨ a = .bankOp then .fault fun _ => 0x16C
    else if a = .fetch then refusal 2
    else
      let hi := ((s.die die).ctxEntry w.ctx).hwhi.toNat
      check (.pcie (hi * 2 ^ 48 + f * 2 ^ 16 + bits g 15 0)) 3
  else if kind = 2 then
    let pa := f * 2 ^ 16 + bits g 15 0
    if s.cfg.lp6Gib[(Fin.ofNat 4 die)] * 2 ^ 30 ≤ pa then .fault fun src => causeOf 6 src 3
    else check (.lp6 die pa) 2
  else
    -- FRAME's [43:40] ROW, [39:36] COL, [22] SHW, [21:16] SLA; every other bit zero
    let shw := bit p 22
    let st := stationAt die (bits p 43 40) (bits p 39 36)
    let off := bits p 21 16 * 2 ^ 16 + bits g 15 0
    if bits p 47 44 ≠ 0 ∨ bits p 35 23 ≠ 0 ∨ (shw ∧ !bit p 55 ∧ !w.fw) then .fault fun src => causeOf 6 src 1
    else if isBridge s.cfg st then .fault fun src => causeOf 6 src 3
    else check (if shw then .shared st off else .plate st off) 1

/-- A walk's end for an access (R357, R405). -/
def State.useWalk (s : State) (die : Nat) (w : Who) (g : Word) (a : Access) : WalkEnd → Xlat
  | .leaf p big => s.useLeaf die w g a p big
  | .notPresent => .notPresent
  | .noCtx => .fault fun src => causeOf 6 src 2
  | .badPte => .fault fun src => causeOf 6 src 1
  | .poison => .fault fun _ => 0x1E8

/-- A translation at once: by the TLB, or by a walk (R357, R358). -/
def State.translate (s : State) (w : Who) (g : Word) (a : Access) : Xlat :=
  let die := gvaDie g
  match (s.die die).tlbHit w.ctx g with
  | some (p, big) => s.useLeaf die w g a p big
  | none => s.useWalk die w g a (s.walk die w g)

/-- The page kind and the home slice of a GVA as its owning die would give them now; none when it does not
translate. -/
def State.whereIs (s : State) (w : Who) (g : Word) : Option (Loc × Fin 4) :=
  if gvaPkg g ≠ s.cfg.pkg then none else
  match (s.die (gvaDie g)).tlbHit w.ctx g with
  | some (p, big) =>
    match s.useLeaf (gvaDie g) { w with ctx := w.ctx } g .read p big with
    | .ok l k => some (l, k)
    | _ => none
  | none =>
    match s.useWalk (gvaDie g) w g .read (s.walk (gvaDie g) w g) with
    | .ok l k => some (l, k)
    | _ => none

/-- Whether a line is homed in a scope, seen from a station (R197). For station scope a line whose home is not
known counts as homed there: releases wait and acquires discard. -/
def State.homedIn (s : State) (st : Nat) (sc : Scope) (w : Who) (g : Word) : Bool :=
  match sc with
  | .station =>
    gvaPkg g == s.cfg.pkg && gvaDie g == dieOf st &&
    (match s.whereIs w g with
      | some (l, _) => l.home (gvaDie g) == st
      | none => true)
  | .die => gvaPkg g == s.cfg.pkg && gvaDie g == dieOf st
  | .package => gvaPkg g == s.cfg.pkg
  | .ring => true
  | .system => true

/-! ### Lines the guest's cache holds (R213, R373) -/

/-- The lines that a location's n bytes touch and that the guest's cache holds so that an access must snoop it: with
ownership, or, for a write, at all. -/
def State.guestLines (s : State) (l : Loc) (n : Nat) (wr : Bool) : List Nat :=
  match l.key with
  | none => []
  | some k => (numsFrom (k / 64) ((k + n - 1) / 64 + 1 - k / 64)).filter fun x =>
      s.guest.owned.contains x || (wr && s.guest.shared.contains x)

/-- The lines of a longer range, from its start, that the guest's cache holds. -/
def State.guestRange (s : State) (l : Loc) (n : Nat) : List Nat :=
  match l.key with
  | none => []
  | some k => (s.guest.owned ++ s.guest.shared).filter fun x => decide (k / 64 ≤ x) && decide (x * 64 < k + n)

/-- Sending the guest a snoop of a line: SnpInv for a write, SnpData for a read, unless one that serves is outstanding (log
entry 70). -/
def State.snoop (s : State) (line : Nat) (wr : Bool) : State :=
  if s.guest.snoops.any fun p => p.2.1 == line && (p.2.2 == .inv || !wr) then s
  else
    let kind : Snoop := if wr then .inv else .data
    { s with guest := { s.guest with
        snoops := s.guest.snoops ++ [(s.guest.nextSnoop, line, kind)]
        nextSnoop := s.guest.nextSnoop + 1
        out := s.guest.out ++ [.snoop s.guest.nextSnoop line kind] } }

/-- An access to some lines waits for a snoop of each; none when it needs none. -/
def State.recallLines (s : State) (wr : Bool) (ls : List Nat) : Option State :=
  match ls with
  | [] => none
  | _ => some (ls.foldl (fun s x => s.snoop x wr) s)

/-- A home access to lines that the guest's cache holds waits for the guest; none when it goes on (R213). -/
def State.recall (s : State) (l : Loc) (n : Nat) (wr : Bool := true) : Option State :=
  s.recallLines wr (s.guestLines l n wr)

/-- The same for several accesses of n bytes by SLA at a station's plate. -/
def State.recallPlate (s : State) (st : Nat) (slas : List Nat) (n : Nat) (wr : Bool) : Option State :=
  s.recallLines wr ((slas.flatMap fun a => s.guestLines (.plate st a) n wr).eraseDups)

/-- The lines of the table entries that a walk from a level reads (R357); `n` levels remain. -/
def State.walkKeys (s : State) (die : Nat) (g : Word) : Nat → Nat → List Nat
  | 0, _ => []
  | n + 1, t =>
    let lvl := 2 - n
    let idx := if lvl = 0 then bits g 48 38 else if lvl = 1 then bits g 37 27 else bits g 26 16
    let p := s.pte die t idx
    (die * 2 ^ 48 + t + 8 * idx) / 64 ::
      (if bit p 63 && !pteBad p && bits p 62 61 == 0 && lvl != 2 then s.walkKeys die g n (bits p 47 14 * 2 ^ 14) else [])

/-- The lines of a walk of GVA g that the guest's cache owns, which it gives up before the walk reads them (R213). -/
def State.walkHeld (s : State) (die : Nat) (e : CtxEntry) (g : Word) : List Nat :=
  if e.valid then (s.walkKeys die g 3 e.root).filter fun x => s.guest.owned.contains x else []

/-! ### The protection unit (R366) -/

/-- The kind bits an access by SLA needs besides R or W. -/
inductive ProtKind where
  | chord | loose | engine | remote
  deriving DecidableEq, Repr

/-- Whether one descriptor allows an access to bytes lo to hi (R366). -/
def descAllows (d : Word) (k : ProtKind) (wr : Bool) (lo hi : Nat) : Bool :=
  bit d 63 && decide (bits d 13 0 ≤ lo / 256) && decide (hi / 256 ≤ bits d 45 32) &&
  (if wr then bit d 61 else bit d 62) &&
  (match k with
    | .chord => true
    | .loose => bit d 59
    | .engine => bit d 60
    | .remote => bit d 58)

/-- Whether the station's protection unit allows an in-range access to n bytes from an SLA. -/
def Station.protOk (st : Station) (k : ProtKind) (wr : Bool) (lo n : Nat) : Bool :=
  st.prot.toList.any fun d => descAllows d k wr lo (lo + n - 1)

/-- The kind of an SLA access of a strand. -/
def Strand.protKind (t : Strand) : ProtKind := if t.loose then .loose else .chord

end Sys2Proof.Machine
end

