-- ==== Sys2Proof/Machine/Queue.lean ====
section
/-! DEFINITION. Global queues at their homes (R265, R266), and the notifications a DTU enqueues to its pager's
queue (R361 to R363). -/

namespace Sys2Proof.Machine

/-- A queue descriptor as the bank reads it (R265). -/
structure QDesc where
  base : Word
  ctl : Word
  tail : Word
  head : Word
  done : Word
  tailOk : Bool
  deriving DecidableEq, Repr

/-- Reading the descriptor at its home. -/
def State.qdesc (s : State) (l : Loc) : QDesc :=
  let w (o : Nat) : Word := BitVec.ofNat 64 (s.homeNat (l.plus o) 8)
  { base := w 0, ctl := w 8, tail := w 16, head := w 24, done := w 32, tailOk := w 40 == 0 && w 48 == 0 && w 56 == 0 }

def QDesc.guestq (q : QDesc) : Bool := bit q.ctl 62
def QDesc.gqn (q : QDesc) : Nat := bits q.ctl 37 32
def QDesc.cap (q : QDesc) : Nat := 2 ^ bits q.ctl 4 0

/-- R266's checks of the descriptor, but for its owner. -/
def QDesc.valid (q : QDesc) : Bool :=
  bit q.ctl 63 && bits q.ctl 54 38 == 0 && bits q.ctl 31 5 == 0 && (q.guestq || (q.gqn == 0 && q.done == 0)) &&
  decide (1 ≤ bits q.ctl 4 0) && decide (bits q.ctl 4 0 ≤ 20) && q.base.toNat % 64 == 0 && q.tailOk

/-- R266's check of the owner. -/
def QDesc.mine (q : QDesc) (w : Who) : Bool := bits q.ctl 60 55 == w.ctx && bit q.ctl 61 == w.world

def QDesc.full (q : QDesc) : Bool := decide (q.cap ≤ (q.tail - q.head).toNat)
def QDesc.empty (q : QDesc) : Bool := q.tail == q.head

/-- The address of the slot of a sequence number. -/
def QDesc.slot (q : QDesc) (n : Word) : Word := q.base + BitVec.ofNat 64 (64 * (n.toNat % q.cap))

/-- Writing a counter of the descriptor. -/
def State.setTail (s : State) (l : Loc) (v : Word) : State := (s.writeBlock (l.plus 16) ((bytesOf 8 v.toNat).map fun b => (true, b))).1
def State.setHead (s : State) (l : Loc) (v : Word) : State := (s.writeBlock (l.plus 24) ((bytesOf 8 v.toNat).map fun b => (true, b))).1
def State.setDone (s : State) (l : Loc) (v : Word) : State := (s.writeBlock (l.plus 32) ((bytesOf 8 v.toNat).map fun b => (true, b))).1

/-- Firmware's authority. -/
def fwWho : Who := { ctx := 64, world := true }

/-- The pager, management and service queues that the configuration table names: firmware strands reach them without the
check of the owner (R363, R368, R375). -/
def CfgTable.deviceQueue (c : CfgTable) (g : Word) : Bool :=
  c.pagerGva.toList.contains g || c.mgmtGva.toList.contains g || c.svcGva.toList.contains g

/-- An ENQ by the device of 64 bytes, with the packet's sequence number; none when the queue is full or cannot be reached. -/
def State.devEnqueue (s : State) (g : Word) (packet : List Byte) : Option (State × Nat) :=
  match s.translate fwWho g .queueOp with
  | .ok l _ =>
    let q := s.qdesc l
    if !q.valid || q.guestq || q.full then none
    else
      match s.translate fwWho (q.slot q.tail) .write with
      | .ok l' _ => some (((s.writeBlock l' (packet.map fun b => (true, b))).1).setTail l (q.tail + 1), q.tail.toNat)
      | .notPresent => none
      | .fault _ => none
      | .refused _ => none
  | .notPresent => none
  | .fault _ => none
  | .refused _ => none

/-- The lines that an ENQ by the device reads and writes and that the guest's cache holds: it gives them up first (R213). -/
def State.devLines (s : State) (g : Word) : List Nat :=
  s.walkHeld (gvaDie g) ((s.die (gvaDie g)).ctxEntry 64) g ++
  match s.translate fwWho g .queueOp with
  | .ok l _ =>
    let slot := (s.qdesc l).slot (s.qdesc l).tail
    s.guestLines l 64 true ++ s.walkHeld (gvaDie slot) ((s.die (gvaDie slot)).ctxEntry 64) slot ++
    (match s.translate fwWho slot .write with
      | .ok l' _ => s.guestLines l' 64 true
      | .notPresent => []
      | .fault _ => []
      | .refused _ => [])
  | .notPresent => []
  | .fault _ => []
  | .refused _ => []

/-- The device's access to a queue of its own waits for the guest (R213); none when it goes on. -/
def State.recallDev (s : State) (g : Word) : Option State := s.recallLines true (s.devLines g).eraseDups

/-- The device's own consumer takes the packet of a sequence number, if no strand has taken it (R375, R400). -/
def State.devTake (s : State) (g : Word) (seq : Option Nat) : State :=
  match seq, s.translate fwWho g .queueOp with
  | some n, .ok l _ => if (s.qdesc l).head.toNat ≤ n then s.setHead l (BitVec.ofNat 64 (n + 1)) else s
  | _, _ => s

/-- The device's own consumer waits for the guest before it takes a packet (R213); none when it goes on. -/
def State.recallTake (s : State) (g : Word) (seq : Option Nat) : Option State :=
  match seq, s.translate fwWho g .queueOp with
  | some _, .ok l _ => s.recallLines true (s.guestLines l 64 true)
  | _, _ => none

/-- A pager notification (R363). -/
def notice (kind entry ctx : Nat) (acc : BitVec 5) (g w1 : Nat) : List Byte :=
  bytesOf 1 kind ++ bytesOf 1 entry ++ bytesOf 1 ctx ++ bytesOf 1 acc.toNat ++ bytesOf 4 0 ++ bytesOf 8 g ++
    bytesOf 8 w1 ++ bytesOf 40 0

/-- The DROPPED notification of a refused request's context, held by the DTU while the pager queue is full (R363, R391). -/
def State.noteDropped (s : State) (d ctx : Nat) : State :=
  match s.recallDev s.cfg.pagerGva[(Fin.ofNat 4 d)] with
  | some s' => s'.modDie d fun x => { x with droppedNote := some ctx }
  | none =>
  match s.devEnqueue s.cfg.pagerGva[(Fin.ofNat 4 d)] (notice 2 0 ctx 0 0 0) with
  | some x => x.1.modDie d fun x => { x with droppedNote := none }
  | none => s.modDie d fun x => { x with droppedNote := some ctx }

/-- The DROPPED notifications that DTUs hold go as soon as their queues have room (R363). -/
def State.pagerFlush (s : State) : List Nat → State
  | [] => s
  | d :: l => (match (s.die d).droppedNote with
      | some c => s.noteDropped d c
      | none => s).pagerFlush l

end Sys2Proof.Machine
end

