-- ==== Sys2Proof/Machine/Ops.lean ====
section
/-! DEFINITION. The operations that meanings share: fault records, the end of a grid by a fault, freezing, TAKING A USER-LEVEL
TRAP and returning from one, and the advance of the PC. -/

namespace Sys2Proof.Machine

/-! ### Records (R400) -/

/-- The master number of R400 for a source. -/
def masterOf : Nat → Fin 8
  | 0 => 0 | 1 => 0 | 2 => 1 | 3 => 2 | 4 => 5 | 5 => 3 | 6 => 6 | _ => 4

/-- PLACE: package, station and slot. -/
def State.place (s : State) (k : Nat) : BitVec 54 :=
  BitVec.ofNat 54 (s.cfg.pkg * 2 ^ 48 + stationWord (stationOf k) + slotOf k)

/-- A record for a die's management queue of 256 records; one that finds it full is dropped and counted, and its event is
still acted on. The records are kept with the die, in order, until management has acted on them; `State.mgmtFlush` writes
them in the queue's slots (log entry 67). -/
def State.addRecord (s : State) (d : Nat) (r : Record) : State :=
  s.modDie d fun x =>
    if (x.mgmt.filter fun y => !y.dropped).length < 256 then { x with mgmt := x.mgmt ++ [r] }
    else { x with mgmt := x.mgmt ++ [{ r with dropped := true }], recdrop := x.recdrop + 1 }

/-- A record's 64 bytes (R400). -/
def Record.bytes (r : Record) : List Byte :=
  bytesOf 2 r.code.toNat ++ bytesOf 1 r.kind.val ++ bytesOf 1 r.master.val ++ bytesOf 4 r.gridw.toNat ++ bytesOf 8 r.place.toNat ++
    bytesOf 8 r.pc.toNat ++ bytesOf 8 r.addr.toNat ++ bytesOf 8 r.cycle.toNat ++ bytesOf 8 r.aux.toNat ++ bytesOf 16 0

/-- Enqueuing the records that wait, in order, with the sequence numbers that the queue gives them. -/
def State.flushRecords (s : State) (d : Nat) (done : List Record) : List Record → State
  | [] => s.modDie d fun x => { x with mgmt := done }
  | r :: l =>
    if r.seq.isSome || r.dropped then s.flushRecords d (done ++ [r]) l
    else
      match s.recallDev s.cfg.mgmtGva[(Fin.ofNat 4 d)] with
      | some s' => s'.modDie d fun x => { x with mgmt := done ++ r :: l }
      | none =>
        match s.devEnqueue s.cfg.mgmtGva[(Fin.ofNat 4 d)] r.bytes with
        | some x => x.1.flushRecords d (done ++ [{ r with seq := some x.2 }]) l
        | none => s.modDie d fun x => { x with mgmt := done ++ r :: l }

/-- The records of a die that its management queue does not hold yet are enqueued (R368, R400): before the next record is
dequeued, by management or by a strand's DEQ. -/
def State.mgmtFlush (s : State) (d : Nat) : State := s.flushRecords d [] (s.die d).mgmt

/-- An SVC request's 64 bytes (R375), which hold its ticket, context, world, station word, number and argument. The rule does
not place them: a free value (log entry 67). -/
def SvcReq.bytes (q : SvcReq) : List Byte :=
  bytesOf 64 (Config.svcPacket q.ticket q.ctx q.world (BitVec.ofNat 64 (stationWord q.station)) q.n q.arg).toNat

/-- Enqueuing the service requests that wait, in order. -/
def State.flushServices (s : State) (d : Nat) (done : List SvcReq) : List SvcReq → State
  | [] => s.modDie d fun x => { x with svcq := done }
  | r :: l =>
    if r.seq.isSome then s.flushServices d (done ++ [r]) l
    else
      match s.recallDev s.cfg.svcGva[(Fin.ofNat 4 d)] with
      | some s' => s'.modDie d fun x => { x with svcq := done ++ r :: l }
      | none =>
        match s.devEnqueue s.cfg.svcGva[(Fin.ofNat 4 d)] r.bytes with
        | some x => x.1.flushServices d (done ++ [{ r with seq := some x.2 }]) l
        | none => s.modDie d fun x => { x with svcq := done ++ r :: l }

/-- The requests that a die's service queue does not hold yet are enqueued, before the next is taken (R375). -/
def State.svcFlush (s : State) (d : Nat) : State := s.flushServices d [] (s.die d).svcq

/-- A record about a slot. -/
def State.slotRecord (s : State) (k : Nat) (code : Cause) (kind : Fin 5) (master : Fin 8) (g : Nat)
    (pc addr aux : Word) : Record where
  code := code
  kind := kind
  master := master
  gridw := gridWord s g
  place := s.place k
  pc := pc
  addr := addr
  cycle := (s.station (stationOf k)).cycle
  aux := aux
  slot := k
  grid := g

/-! ### The end of a grid by a fault (R288) -/

/-- Granting a reserved word to its first waiter, or freeing it (R226, R227): x[d] receives the word's home
value, poisoned if the word is. An LRW that returns no value and meets poison is answered with its grid's fault, which BANK_LRW
raises (R225). -/
def State.resvGrant (s : State) (key : Nat) : State :=
  match tblGet s.resv key with
  | none => s
  | some r =>
    match r.waiters with
    | [] => { s with resv := tblDel s.resv key }
    | w :: ws =>
      let s := { s with resv := tblPut s.resv key { holder := w.tag, grid := w.grid, waiters := ws } }
      let v : VWord := BitVec.ofNat 2048 (s.homeNat (keyLoc key) 8)
      match w.from_, w.res, s.poisonIn key 8 with
      | some f, _, some p => s.reply f 0 (poisonCode 0 p)
      | some f, _, none => s.reply f v 0
      | none, none, some p =>
        s.addReq { kind := .lrw, stage := .replied false (poisonCode 4 p), tag := w.tag, slot := w.slot, station := stationOf w.slot,
                   grid := w.grid, gva := w.addr }
      | none, none, none => s
      | none, some res, some p => s.deliverPoison res (poisonCode 0 p)
      | none, some res, none => s.deliver res v

/-- The LRWs of other packages that a home gives up are answered there. -/
def State.answerGone (s : State) (gone : List LWaiter) : State :=
  gone.foldl (fun s w => match w.from_ with
    | some f => s.reply f 0 0
    | none => s) s

/-- Freeing every reservation of a grid's strands, as RREL does, and removing its waiters (R227); the LRWs of another package are
told. -/
def State.resvEnd (s : State) (g : Nat) : List Nat → State
  | [] => s
  | key :: t =>
    let s := s.answerGone ((((tblGet s.resv key).map (·.waiters)).getD []).filter fun w => w.grid == g)
    let s := { s with resv := tblMod s.resv key fun r =>
      { r with waiters := r.waiters.filter fun w => w.grid ≠ g } }
    let s := match tblGet s.resv key with
      | some r => if r.grid = g then s.resvGrant key else s
      | none => s
    s.resvEnd g t

/-- Removing requests by number from every place that waits for them: the fault buffers, the walks, the
stations that keep refused requests, the proofs and the global queues (R229, R361). -/
def State.dropReqs (s : State) (gone : List Nat) : State :=
  let keep (l : List Nat) := l.filter fun n => !gone.contains n
  { s with
    reqs := s.reqs.filter fun e => !gone.contains e.1
    dies := s.dies.map fun d =>
      { d with
        walks := (d.walks.map fun w => { w with reqs := keep w.reqs }).filter fun w => !w.reqs.isEmpty
        fbuf := d.fbuf.map fun o => o.bind fun e =>
          let e := { e with reqs := keep e.reqs }
          if e.reqs.isEmpty then none else some e }
    proofs := s.proofs.map fun e =>
      (e.1, { e.2 with waiters := e.2.waiters.filter fun w => !gone.contains w.req })
    queueWaits := (s.queueWaits.map fun e => (e.1, keep e.2)).filter fun e => !e.2.isEmpty
    stations := s.stations.map fun e => (e.1, { e.2 with refused := keep e.2.refused }) }

/-- The holder tags of a grid's strands, wherever they are. -/
def State.gridTags (s : State) (g : Nat) : List Nat :=
  (s.strands.filter fun e => e.2.grid == g).map (·.2.tag) ++
  (s.stations.flatMap fun e => (e.2.runq.filter fun t => t.grid == g).map (·.tag)) ++
  (s.transit.filter fun t => t.strand.grid == g).map (·.strand.tag) ++
  s.saved.flatMap fun v =>
    match v with
    | .slot _ _ t _ => if t.grid == g then [t.tag] else []
    | .chord _ c ts _ _ _ => if c.grid == g then ts.map (fun e => e.2.tag) else []

/-- What is left of a copy engine when a grid ends, whose chord stands there when `mine`: the entries of other grids, with which it
goes on (R244, R369, R404). -/
def CopyEngine.stopGrid (c : CopyEngine) (g : Nat) (mine : Bool) : CopyEngine :=
  let thaw := mine || c.frozenGrid == g
  { c with
    queue := c.queue.filter fun i => i.grid != g
    handlerQ := c.handlerQ.filter fun i => i.grid != g
    halted := if c.haltGrid = g then none else c.halted
    frozen := if thaw then none else c.frozen
    frozenGrid := if thaw then 0 else c.frozenGrid }

/-- What is left of a station when a grid of it ends: its strands, engine entries and waits are gone; a matrix engine frozen
with the grid returns to reset, and a copy engine frozen with it goes on with the entries of other grids, which the end of
this one does not reach (R288, R244, R369, R402, R404). -/
def Station.stopGrid (st : Station) (g : Nat) (tags : List Nat) : Station :=
  let mine := (st.chord.map fun c => c.grid == g).getD false
  let live (i : MItem) := i.grid != g
  let eng := if (mine || st.eng.frozenGrid == g) && st.eng.frozen.isSome then ({} : Engine) else
    { st.eng with
      queue := st.eng.queue.filter live
      handlerQ := st.eng.handlerQ.filter live
      drain := st.eng.drain.filter fun d => d.item.grid != g
      halted := if st.eng.haltGrid = g then none else st.eng.halted
      loading := st.eng.loading.filter fun t => !tags.contains t }
  { st with
    eng := eng
    cpy := st.cpy.stopGrid g mine
    sfu := st.sfu.filter fun q => !tags.contains q.tag
    mrecv := st.mrecv.filter fun w => !tags.contains w.tag
    mheld := st.mheld.filter fun m => !tags.contains m.2.sender
    runq := st.runq.filter fun t => t.grid != g
    chord := if mine then st.chord.map fun c => { c with st := .ended, live := [] } else st.chord }

/-- The grid of a save image. -/
def Saved.grid : Saved → Nat
  | .slot _ _ t _ => t.grid
  | .chord _ c _ _ _ _ => c.grid

/-- A save image without the copy entries of an ended grid. -/
def Saved.stopGrid (g : Nat) : Saved → Saved
  | .slot a b t c => .slot a b t c
  | .chord st c ts e w p => .chord st c ts { e with cpy := e.cpy.stopGrid g false } w p

/-- Whether a request of an ending grid is carried on: merges are performed and the kinds their stores need are
learnt (R201, R212), the publication of a guest packet that is complete is made (R271), far atomics and words of write streams
that are on their way are performed at their homes, with their results discarded (R202, R207), and other requests are removed
(R288, R361; log entry 80). -/
def Req.survives (r : Req) : Bool :=
  match r.kind with
  | .merge => true
  | .kindQuery => true
  | .amo _ _ => true
  | .streamWrite _ => true
  | .proofPub => r.src == 7
  | _ => false

/-- Whether a request waits in a fault buffer, or at its station after a refusal (R361). -/
def Stage.parked : Stage → Bool
  | .buffered _ => true
  | .refused => true
  | _ => false

/-- A store of a page whose kind the station does not know. -/
def Store.asks (x : Store) (page : Nat) : Bool := decide (x.line / 1024 = page) && x.kind.isNone

/-- Kind queries that are gone without an answer: the kinds that stores still wait for are asked for again (R212). -/
def State.reask (s : State) : List (Nat × Nat) → State
  | [] => s
  | (n, page) :: l =>
    let pending := s.reqs.any fun e => e.2.kind == .kindQuery && e.2.station == n && e.2.gva.toNat / 65536 == page
    let s := match (s.station n).stores.find? (·.asks page) with
      | some x =>
        if pending then s
        else s.addReq { kind := .kindQuery, tag := ((s.slot x.slot).map fun t : Strand => t.tag).getD 0, slot := x.slot, station := n,
                        grid := x.grid, ctx := x.ctx, world := x.world,
                        gva := BitVec.ofNat 64 (x.line * 64 + ((List.range 64).find? x.mask.getLsbD).getD 0) }
      | none => s
    s.reask l

/-- The station and page of each kind query of a list of requests. -/
def kindPages (l : List (Nat × Req)) : List (Nat × Nat) :=
  (l.filter fun e => e.2.kind == .kindQuery).map fun e => (e.2.station, e.2.gva.toNat / 65536)

/-- The stations of a grid that the homes of other packages may know: those whose requests have gone there, or the first of the
package when none waits there. -/
def State.awayStations (s : State) (g : Nat) : List Nat :=
  match ((s.reqs.filter fun e => e.2.grid == g && e.2.stage == .remote).map (·.2.station)).eraseDups with
  | [] => [0]
  | l => l

/-- The homes of the ring's other packages learn that a grid has ended: they free its reservations and remove what waits there
for it (R227, R229, R252), behind what its stations have sent (R214). -/
def State.tellEnd (s : State) (g : Nat) (faulted : Bool) : State :=
  let others := (numsFrom 0 s.cfg.ringN).filter fun p => p != s.cfg.pkg
  { s with string := s.string ++ others.flatMap fun p => (s.awayStations g).map fun st =>
      .request p { pkg := s.cfg.pkg, station := st, id := 0, ctx := 0, world := false, grid := g, op := .gridEnd faulted, gva := 0 } }

/-- Stopping every part of a grid (R288, the action of the fault row). Its requests in a fault buffer, or kept by
a station after a refusal, go without effect (R361), and with a kind query the stores that wait for it. -/
def State.stopGrid (s : State) (g : Nat) : State :=
  let tags := s.gridTags g
  let s := s.tellEnd g true
  let out := s.reqs.filter fun e => e.2.grid == g && (!e.2.survives || e.2.stage.parked)
  let gone := out.map (·.1)
  let pages := kindPages out
  let s : State := { s with
    strands := s.strands.filter fun e => e.2.grid != g
    results := s.results.filter fun e => !tags.contains e.2.tag
    transit := s.transit.filter fun t => t.strand.grid != g
    saved := (s.saved.filter fun v => v.grid != g).map (Saved.stopGrid g)
    stations := s.stations.map fun e =>
      let S := e.2.stopGrid g tags
      (e.1, { S with stores := S.stores.filter fun x => !(x.grid == g && pages.any fun p => p.1 == e.1 && x.asks p.2) }) }
  let s := (s.dropReqs gone).reask pages
  s.resvEnd g (s.resv.map (·.1))

/-- A fault of a grid (R3, R288, R401): the first is recorded and the grid moves to ENDING; each later one
before FAULTED only adds 1 to LATEFLT of the die where it arises. `k` is the slot key that the record's PLACE
names. A fault of a strand without a grid is recorded and frees its slot (log entry 9). -/
def State.faultGrid (s : State) (g : Nat) (code : Cause) (kind : Fin 5) (master : Fin 8) (k : Nat)
    (pc addr aux : Word) : State :=
  let d := dieOf (stationOf k)
  match s.gridOf g with
  | none => s.addRecord d (s.slotRecord k code kind master g pc addr aux)
  | some gr =>
    if gr.st = .faulted then s
    else if gr.st = .ending then s.modDie d fun x => { x with lateflt := x.lateflt + 1 }
    else
      let s := s.addRecord d (s.slotRecord k code kind master g pc addr aux)
      let s := s.modGrid g fun gr => { gr with st := .ending, cause := code, addr := addr }
      s.stopGrid g

/-- A deferred fault of a grid (R3). -/
def State.faultDeferred (s : State) (g : Nat) (code : Cause) (master : Fin 8) (k : Nat) (addr : Word) : State :=
  s.faultGrid g code 1 master k 0 addr 0

/-- A precise fault of the executing strand, with the address it names and AUX (R3, R400): the instruction
changes nothing else. -/
def State.faultCur (s : State) (code : Cause) (kind : Fin 5) (addr aux : Word) : State :=
  match s.curStrand with
  | none => s
  | some t =>
    let s' := s.faultGrid t.grid code kind 0 s.cur t.pc addr aux
    match s.gridOf t.grid with
    | some _ => s'
    | none => s'.freeSlot s.cur

/-- A precise fault that names no address. -/
def State.fault (s : State) (code : Cause) : State := s.faultCur code 0 0 0

/-- A precise fault that names an address. -/
def State.faultAt (s : State) (code : Cause) (addr : Word) : State := s.faultCur code 0 addr 0

/-- An illegal instruction: class 1, the major's source, a detail (R53). -/
def State.illegal (s : State) (src det : Nat) : State := s.faultCur (causeOf 1 src det) 3 0 0

/-! ### Freezing (R368) -/

/-- Freezing a slot: it issues nothing from then on; a freeze record goes to the die's management queue. -/
def State.freezeSlot (s : State) (k : Nat) (code : Cause) (addr : Word) : State :=
  match s.slot k with
  | none => s
  | some t =>
    let s := s.addRecord (dieOf (stationOf k)) (s.slotRecord k code 2 0 t.grid t.pc addr 0)
    s.modSlot k fun t => { t with frozen := some code }

/-- Freezing a station's matrix engine. -/
def State.freezeEngine (s : State) (n : Nat) (code : Cause) (g : Nat) (addr : Word) : State :=
  let s := s.addRecord (dieOf n) (s.slotRecord (8 * n) code 2 1 g 0 addr 0)
  s.modStation n fun st => { st with eng := { st.eng with frozen := some code, frozenGrid := g } }

/-- Freezing a station's copy engine. -/
def State.freezeCopy (s : State) (n : Nat) (code : Cause) (g : Nat) (addr : Word) : State :=
  let s := s.addRecord (dieOf n) (s.slotRecord (8 * n) code 2 2 g 0 addr 0)
  s.modStation n fun st => { st with cpy := { st.cpy with frozen := some code, frozenGrid := g } }

/-- Freezing the inbound path of a PCIe function. -/
def State.freezeFunc (s : State) (d func : Nat) (code : Cause) (addr : Word) : State :=
  let s := s.addRecord d { (s.slotRecord (d * 2048) code 2 3 0 0 addr (BitVec.ofNat 64 func)) with gridw := 0 }
  let w := (tblGet s.windows func).getD {}
  { s with windows := tblPut s.windows func { w with frozen := some code } }

/-- Freezing the guest: the record names the GVA or frame concerned, and the packet (R368, R400). -/
def State.freezeGuest (s : State) (code : Cause) (addr aux : Word) : State :=
  let s := s.addRecord 0 { (s.slotRecord 0 code 2 4 0 0 addr aux) with gridw := 0 }
  { s with guest := { s.guest with
      st := .frozen, lastCause := code, was := if s.guest.st = .frozen then s.guest.was else s.guest.st } }

/-! ### User-level traps (R319, R321, R324) -/

/-- UCAUSE's layout (R319). -/
def ucauseOf (kind reg : Nat) (code : Cause) : Word := BitVec.ofNat 64 (kind * 2 ^ 21 + reg * 2 ^ 16 + code.toNat)

/-- The code of the timer trap (R302). -/
def timerCode : Cause := 0x281
def messageCode : Cause := 0x282

/-- TAKING A USER-LEVEL TRAP (R321): UEPC and UCAUSE are written, the masks are saved and cleared, a timer
trap clears FIRED, INTRAP is set and the PC goes to the handler. VREP's state is kept and paused (R155). -/
def Strand.enterTrap (t : Strand) (code : Cause) (kind reg : Nat) (uepc : Word) : Strand :=
  { t with
    uepc := uepc
    ucause := ucauseOf kind reg code
    umask := BitVec.ofNat 4 (t.umask.toNat % 4 * 4)
    timer := if code = timerCode then { t.timer with fired := false } else t.timer
    intrap := true
    pc := t.utvec
    hold := .none
    rep := t.rep.map fun r => { r with paused := true } }

/-- A user-level trap at a boundary of the strand in slot k, or the fault of its grid with the trap's own
code when there is no handler (R321, R322). -/
def State.trapAt (s : State) (k : Nat) (code : Cause) (kind reg : Nat) (uepc : Word) : State :=
  match s.slot k with
  | none => s
  | some t =>
    if t.utvec = 0 then ({ s with cur := k }).fault code
    else s.setSlot k (t.enterTrap code kind reg uepc)

/-- A precise user-level trap of the executing instruction (R321): inside a handler it is the fault 0x283,
whose report names the code it replaces. -/
def State.trapPrecise (s : State) (code : Cause) (kind reg : Nat) : State :=
  match s.curStrand with
  | none => s
  | some t =>
    if t.intrap then s.faultCur 0x283 0 0 (code.setWidth 64)
    else s.trapAt s.cur code kind reg t.pc

/-- A precise user-level trap that names no register. -/
def State.trap (s : State) (code : Cause) : State := s.trapPrecise code 0 0

/-- RETURNING FROM A TRAP (R324): the masks are restored, INTRAP is cleared, the PC is UEPC. Return to a body
word of the live repeat state resumes the repetition there; any other address clears the state (R155). -/
def Strand.returnTrap (t : Strand) : Strand :=
  { t with
    umask := BitVec.ofNat 4 (t.umask.toNat / 4 * 4 + t.umask.toNat / 4)
    intrap := false
    pc := t.uepc
    rep := t.rep.bind fun r =>
      let off := (t.uepc - r.body).toNat
      if off / 4 < r.words.length ∧ off % 4 = 0 then some { r with idx := off / 4, paused := false } else none }

/-! ### The advance of the PC -/

/-- After an instruction: the next word, or the next word of a repetition (R154). -/
def Strand.advance (t : Strand) : Strand :=
  let t := { t with hold := .none, pc := t.pc + 4 }
  match t.rep with
  | none => t
  | some r =>
    if r.paused then t
    else if r.idx + 1 < r.words.length then { t with rep := some { r with idx := r.idx + 1 } }
    else if 1 < r.left then { t with pc := r.body, rep := some { r with left := r.left - 1, idx := 0 } }
    else { t with rep := none }

/-- The executing strand goes on to its next instruction. -/
def State.advance (s : State) : State := s.modCur Strand.advance

/-- The executing strand goes to an address. -/
def State.jump (s : State) (a : Word) : State := s.modCur fun t => { t with pc := a, hold := .none }

/-- The executing strand is held. -/
def State.hold (s : State) (h : Hold) : State := s.modCur fun t => { t with hold := h }

/-- The strand held in slot k has done its instruction: it goes on to the next one. -/
def State.release (s : State) (k : Nat) : State := s.modSlot k Strand.advance

end Sys2Proof.Machine
end

