-- ==== Sys2Proof/Machine/Flags.lean ====
section
/-! DEFINITION. MSTICKY (R26): the sticky arithmetic flags and how an instruction raises them. -/

namespace Sys2Proof.Machine

/-- The flags of R26 as a set of bits: NV 0, DZ 1, OF 2, UF 3, NX 4, SAT 5. -/
abbrev FlagSet := BitVec 6

def flNV : FlagSet := 1
def flDZ : FlagSet := 2
def flOF : FlagSet := 4
def flUF : FlagSet := 8
def flNX : FlagSet := 16
def flSAT : FlagSet := 32

/-- A flag under a condition. -/
def flagIf (c : Bool) (f : FlagSet) : FlagSet := if c then f else 0

/-- The union of the flags of several results. -/
def flagsOf (l : List FlagSet) : FlagSet := l.foldl (· ||| ·) 0

/-- Raising flags: hardware sets them and only a write of 1 clears them (R3, R26). -/
def Strand.raise (t : Strand) (f : FlagSet) : Strand := { t with msticky := t.msticky ||| f }

/-- Raising flags of the executing strand. -/
def State.raise (s : State) (f : FlagSet) : State := s.modCur fun t => t.raise f

/-- Changing the strand with a holder tag, wherever it is: in a slot, a run queue, transit or a save image. -/
def State.modTag (s : State) (tag : Nat) (f : Strand → Strand) : State :=
  let g (t : Strand) : Strand := if t.tag = tag then f t else t
  { s with
    strands := s.strands.map fun e => (e.1, g e.2)
    stations := s.stations.map fun e => (e.1, { e.2 with runq := e.2.runq.map g })
    transit := s.transit.map fun x => { x with strand := g x.strand }
    saved := s.saved.map fun v =>
      match v with
      | .slot a b t c => .slot a b (g t) c
      | .chord a c ts b d e => .chord a c (ts.map fun x => (x.1, g x.2)) b d e }

/-- Raising flags of the strand with a holder tag. -/
def State.raiseTag (s : State) (tag : Nat) (f : FlagSet) : State := s.modTag tag fun t => t.raise f

/-- The strands of a save image. -/
def Saved.strands : Saved → List Strand
  | .slot _ _ t _ => [t]
  | .chord _ _ ts _ _ _ => ts.map (·.2)

/-- Every strand that has not ended, with the slot key it holds, if it holds one. -/
def State.allStrands (s : State) : List Strand :=
  s.strands.map (·.2) ++ s.stations.flatMap (·.2.runq) ++ s.transit.map (·.strand) ++ s.saved.flatMap Saved.strands

/-- The strand with a holder tag, wherever it is. -/
def State.findTag (s : State) (tag : Nat) : Option Strand := s.allStrands.find? fun t => t.tag == tag

/-- The slot that holds a strand. -/
def State.slotOfTag (s : State) (tag : Nat) : Option Nat := (s.strands.find? fun e => e.2.tag == tag).map (·.1)

end Sys2Proof.Machine
end

