-- ==== Sys2Proof/Machine/Operands.lean ====
section
/-! DEFINITION. Operands: the examination of sources and destinations at issue (R19, R29, R32, R33, R36,
R49, R50, R123), reading a source (which takes a word when the source is a port), and writing a result
(which sends a word when the destination is a port, and arrives later when a source was a port, R31). -/

namespace Sys2Proof.Machine

/-- The answer of an instruction or event. -/
abbrev Out := Host.Outcome State Fault Refusal

/-- A register operand: a scalar or a vector field. -/
inductive Opnd where
  | s (r : SReg)
  | v (r : VReg)
  deriving DecidableEq, Repr

/-- Whether the operand is a register of the chord, absent to loose strands (R19, R28). -/
def Opnd.shared : Opnd → Bool
  | .s (.y _) => true
  | .s (.x _) => false
  | .v (.w _) => true
  | .v (.v _) => false
  | .v (.q _) => false

/-- What the examination of one operand finds. -/
inductive Look where
  | ok
  | empty (kind reg : Nat)
  | fault (code : Cause)
  deriving DecidableEq, Repr

/-- The words of a stream: (C0M1 + 1) · (C1M1 + 1) (R231). -/
def Stream.total (p : Stream) : Nat := (bits p.desc 31 20 + 1) * (bits p.desc 59 48 + 1)

/-- The examination of a source (R32, R36). `n` reads of the same port come before it in this instruction;
`src` is the instruction's source number of R53. -/
def lookSrc (s : State) (k : Nat) (t : Strand) (src n : Nat) : Opnd → Look
  | .s r => if (s.scell k t r).full then .ok else .empty 1 r.code
  | .v (.v i) => if (s.vcell k t (.v i)).full then .ok else .empty 2 (VReg.v i).code
  | .v (.w i) => if (s.vcell k t (.w i)).full then .ok else .empty 2 (VReg.w i).code
  | .v (.q i) =>
    match t.ports[i] with
    | .unbound => .fault (causeOf 9 src 0)
    | .stream p =>
      if p.write then .fault (causeOf 9 src 0)
      else if p.total ≤ p.pos + n then .fault (causeOf 9 src 1)
      else if p.buf.any (fun e => e.1 == p.pos + n) then .ok
      else .empty 2 (VReg.q i).code
    | .channel c =>
      if c.sends then .fault (causeOf 9 src 0)
      else if c.edge || decide (n < c.buf.length) then .ok
      else .empty 2 (VReg.q i).code

/-- The port that a register of UCAUSE names (R319): vector codes 24 to 31. -/
def portOfCode (kind reg : Nat) : Option (Fin 8) := if kind = 2 ∧ 24 ≤ reg then some (Fin.ofNat 8 reg) else none

/-- How many operands of a list are this one. -/
def countOf (o : Opnd) (l : List Opnd) : Nat := (l.filter fun x => x == o).length

/-- The examination of the sources in operand order: the first that is not ready decides (R32). -/
def lookSrcs (s : State) (k : Nat) (t : Strand) (src : Nat) : List Opnd → List Opnd → Look
  | _, [] => .ok
  | seen, o :: rest =>
    match lookSrc s k t src (countOf o seen) o with
    | .ok => lookSrcs s k t src (o :: seen) rest
    | .empty a b => .empty a b
    | .fault c => .fault c

/-- The examination of a destination (R33, R36): an empty register or a port without room holds the strand. -/
def lookDst (s : State) (k : Nat) (t : Strand) (src : Nat) : Opnd → Look
  | .s r => if (s.scellNow k t r).full then .ok else .empty 1 r.code
  | .v (.v i) => if (s.vcellNow k t (.v i)).full then .ok else .empty 2 (VReg.v i).code
  | .v (.w i) => if (s.vcellNow k t (.w i)).full then .ok else .empty 2 (VReg.w i).code
  | .v (.q i) =>
    match t.ports[i] with
    | .unbound => .fault (causeOf 9 src 0)
    | .stream p =>
      if !p.write then .fault (causeOf 9 src 0)
      else if p.total ≤ p.pos then .fault (causeOf 9 src 1)
      else if p.buf.length < 4 then .ok
      else .empty 2 (VReg.q i).code
    | .channel c =>
      if !c.sends then .fault (causeOf 9 src 0)
      else if c.edge || (c.peer.isSome && decide (0 < c.credit)) then .ok
      else .empty 2 (VReg.q i).code

def lookDsts (s : State) (k : Nat) (t : Strand) (src : Nat) : List Opnd → Look
  | [] => .ok
  | o :: rest =>
    match lookDst s k t src o with
    | .ok => lookDsts s k t src rest
    | .empty a b => .empty a b
    | .fault c => .fault c

/-- The poison of an operand as a sibling sees it in this cycle (R30): the PC and address of the load that wrote it, and the
fault's code (R123, R142); for one of the n words taken from a port, the reader's own PC and the POISON code of its source
(R234). -/
def poisonOf (s : State) (k : Nat) (t : Strand) (src n : Nat) : Opnd → Option Poison
  | .s r => (s.scell k t r).poison
  | .v (.v i) => (s.vcell k t (.v i)).poison
  | .v (.w i) => (s.vcell k t (.w i)).poison
  | .v (.q i) =>
    match t.ports[i] with
    | .stream p =>
      if p.buf.any (fun e => decide (p.pos ≤ e.1 ∧ e.1 < p.pos + n) && e.2.poison)
      then some ⟨t.pc, 0, causeOf 7 src 0, t.tag⟩ else none
    | .channel c =>
      if !c.sends && (c.buf.take n).any (·.poison) then some ⟨t.pc, 0, causeOf 7 src 0, t.tag⟩ else none
    | .unbound => none

/-- The fault of using a poisoned register: the report names the load's PC and address (R123). -/
def State.faultPoison (s : State) (p : Poison) : State :=
  match s.curStrand with
  | none => s
  | some t =>
    let s' := s.faultGrid t.grid p.code 0 0 s.cur p.pc p.addr 0
    match s.gridOf t.grid with
    | some _ => s'
    | none => s'.freeSlot s.cur

/-- THE EXAMINATION AT ISSUE: none when the instruction goes on, else the state in which it stops. A loose
strand names no y or w register (R19, BADOPND); an empty source traps or holds by e (R32); a poisoned source
or destination faults (R123; log entry 10 for the order); an empty destination or a full port holds (R33, R36). -/
def State.gate (s : State) (src : Nat) (e : Bool) (srcs dsts : List Opnd) : Option State :=
  match s.curStrand with
  | none => some s
  | some t =>
    if t.loose && (srcs ++ dsts).any Opnd.shared then some (s.illegal src 4)
    else
      match lookSrcs s s.cur t src [] srcs with
      | .fault c => some (s.fault c)
      | .empty kind reg =>
        some (if e then s.trapPrecise (causeOf 10 src 0) kind reg else s.hold (.source kind reg))
      | .ok =>
        match (srcs ++ dsts).findSome? fun o => poisonOf s s.cur t src (countOf o srcs) o with
        | some p => some (s.faultPoison p)
        | none =>
          match lookDsts s s.cur t src dsts with
          | .fault c => some (s.fault c)
          | .empty kind reg => some (s.hold (.issue (match portOfCode kind reg with
              | some q => .port q
              | none => .reg kind reg)))
          | .ok => none

/-- An instruction: the examination, then its effect on the executing strand. -/
def State.issue (s : State) (src : Nat) (e : Bool) (srcs dsts : List Opnd) (f : Strand → State) : Out :=
  .next (match s.gate src e srcs dsts with
    | some s' => s'
    | none =>
      match s.curStrand with
      | some t => f t
      | none => s)

/-- The value of a scalar source of the executing strand. -/
def State.sval (s : State) (t : Strand) (r : SReg) : Word := (s.scell s.cur t r).val

/-- Taking the next word of a port (R36): a read stream's word at its position, a channel's oldest word
(its credit goes back to the sender), or an edge channel's zeros with the reader's MODE.XR (R233). -/
def State.popPort (s : State) (t : Strand) (i : Fin 8) : VCell × State :=
  match t.ports[i] with
  | .unbound => ({}, s)
  | .stream p =>
    match p.buf.find? (fun e => e.1 == p.pos) with
    | none => ({}, s)
    | some e =>
      ({ val := e.2.val, xr := e.2.xr },
        s.modCur fun t => { t with ports := t.ports.set i (.stream { p with
          pos := p.pos + 1, buf := p.buf.filter fun x => x.1 != p.pos }) })
  | .channel c =>
    if c.edge then ({ val := 0, xr := t.xr }, s)
    else
      match c.buf with
      | [] => ({}, s)
      | w :: ws =>
        ({ val := w.val, xr := w.xr },
          s.modCur fun t => { t with ports := t.ports.set i (.channel { c with
            buf := ws, returns := c.returns + 1 }) })

/-- Reading a vector source; a port gives up its next word (R36, R50). -/
def State.takeV (s : State) (r : VReg) : VCell × State :=
  match s.curStrand with
  | none => ({}, s)
  | some t =>
    match r with
    | .q i => s.popPort t i
    | .v i => (s.vcell s.cur t (.v i), s)
    | .w i => (s.vcell s.cur t (.w i), s)

/-- Writing one word to a port (R36, R233, R234). -/
def State.pushPort (s : State) (i : Fin 8) (w : PortWord) : State :=
  let w := { w with id := s.nextId }
  let s : State := { s with nextId := s.nextId + 1 }
  s.modCur fun t =>
    match t.ports[i] with
    | .unbound => t
    | .stream p => { t with ports := t.ports.set i (.stream { p with
        pos := p.pos + 1, buf := p.buf ++ [(p.pos, w)] }) }
    | .channel c =>
      if c.edge then t
      else { t with ports := t.ports.set i (.channel { c with credit := c.credit - 1, buf := c.buf ++ [w] }) }

/-- Where a scalar result goes; x0 takes none. -/
def dstS (d : SReg) : Dst := if d = .x 0 then .none else .s d

/-- Marking a scalar destination empty for a result that arrives later (R31): the result's number is the
`nextId` of the state before. -/
def State.pendS (s : State) (t : Strand) (d : SReg) (r : PRes) : State :=
  let s := if d = .x 0 then s else s.emptyS s.cur t d
  { s with results := tblPut s.results s.nextId { r with tag := t.tag, dst := dstS d, pc := t.pc },
           nextId := s.nextId + 1 }

/-- Marking a vector destination empty for a result that arrives later. -/
def State.pendV (s : State) (t : Strand) (d : VReg) (r : PRes) : State :=
  let s := s.emptyV s.cur t d
  { s with results := tblPut s.results s.nextId { r with tag := t.tag, dst := .v d, pc := t.pc },
           nextId := s.nextId + 1 }

/-- A result with nothing known of it yet. -/
def emptyRes (t : Strand) (d : Dst) : PRes := { tag := t.tag, dst := d, pc := t.pc }

/-- A scalar result: written at once, or empty-marking when a source was a port (R31, R131). -/
def State.finishS (s : State) (t : Strand) (viaPort : Bool) (d : SReg) (v : Word) : State :=
  if viaPort then s.pendS t d { emptyRes t (dstS d) with value := v.setWidth 2048, ready := true }
  else s.putS s.cur d v

/-- A vector result: a port receives one word; a register is written at once, or empty-marking when a
source was a port. The XR tag is the strand's MODE.XR unless given (R130). -/
def State.finishV (s : State) (t : Strand) (viaPort : Bool) (d : VReg) (v : VWord) (xr : Bool) : State :=
  match d with
  | .q i => s.pushPort i { val := v, xr := xr }
  | .v _ =>
    if viaPort then s.pendV t d { emptyRes t (.v d) with value := v, xr := xr, ready := true }
    else s.putV s.cur d v xr
  | .w _ =>
    if viaPort then s.pendV t d { emptyRes t (.v d) with value := v, xr := xr, ready := true }
    else s.putV s.cur d v xr

/-- The old value of a vector destination, for the elements that keep it; a port has none (R128). -/
def State.oldV (s : State) (t : Strand) (d : VReg) : VWord :=
  match d with
  | .q _ => 0
  | .v i => (s.vcell s.cur t (.v i)).val
  | .w i => (s.vcell s.cur t (.w i)).val

/-! ### Scalar shapes -/

/-- An instruction with two scalar sources and a scalar result that is ready at once. -/
def State.binS (s : State) (d a b : SReg) (e : Bool) (f : Word → Word → Word) : Out :=
  s.issue 0 e [.s a, .s b] [.s d] fun t => (s.putS s.cur d (f (s.sval t a) (s.sval t b))).advance

/-- One scalar source. -/
def State.unS (s : State) (d a : SReg) (e : Bool) (f : Word → Word) : Out :=
  s.issue 0 e [.s a] [.s d] fun t => (s.putS s.cur d (f (s.sval t a))).advance

end Sys2Proof.Machine
end

