-- ==== Sys2Proof/Machine/Alu.lean ====
section
/-! DEFINITION. The scalar ALU: majors 0x01 to 0x0C (R104 to R113). Every result is modular (R105), is
written at once (R104), and none sets an MSTICKY flag. -/

namespace Sys2Proof.Machine

/-! ### The operations -/

/-- 0 or 1. -/
def ofBool (b : Bool) : Word := if b then 1 else 0

/-- The number of 0 bits above the highest 1 bit, n if there is none. -/
def clzNat (n v : Nat) : Nat := if v = 0 then n else n - 1 - Nat.log2 v

/-- The number of 0 bits below the lowest 1 bit of n bits, n if there is none. -/
def ctzNat : Nat → Nat → Nat
  | 0, _ => 0
  | n + 1, v => if v % 2 = 1 then 0 else ctzNat n (v / 2) + 1

/-- The number of 1 bits among n. -/
def popNat : Nat → Nat → Nat
  | 0, _ => 0
  | n + 1, v => v % 2 + popNat n (v / 2)

/-- The shift amount of a 64-bit shift: B[5:0]; of a .w shift: B[4:0]. -/
def sh64 (b : Word) : Nat := b.toNat % 64
def sh32 (b : Word) : Nat := b.toNat % 32

/-- A[31:0]. -/
def lo32 (a : Word) : BitVec 32 := a.setWidth 32

/-- A .w result: Sext(Trunc32(r)) (R109). -/
def wres (r : BitVec 32) : Word := r.signExtend 64

/-- A .w instruction from its 32-bit operation. -/
def wop (f : BitVec 32 → BitVec 32 → BitVec 32) (a b : Word) : Word := wres (f (lo32 a) (lo32 b))

/-- The .w shifts (R109): A[31:0] by B[4:0]. -/
def sllWord (a b : Word) : Word := wres (lo32 a <<< sh32 b)
def srlWord (a b : Word) : Word := wres (lo32 a >>> sh32 b)
def sraWord (a b : Word) : Word := wres ((lo32 a).sshiftRight (sh32 b))

/-- The 64-bit shifts (R107). -/
def sllLong (a b : Word) : Word := a <<< sh64 b
def srlLong (a b : Word) : Word := a >>> sh64 b
def sraLong (a b : Word) : Word := a.sshiftRight (sh64 b)

/-- The high half of the signed and of the unsigned product (R110). -/
def mulhOf (n : Nat) (a b : BitVec n) : BitVec n := BitVec.ofInt n (a.toInt * b.toInt / 2 ^ n)
def mulhuOf (n : Nat) (a b : BitVec n) : BitVec n := BitVec.ofNat n (a.toNat * b.toNat / 2 ^ n)

/-- R110's division table; the quotient truncates toward zero and the remainder follows the dividend. The most
negative number by −1 gives itself, and 0, because the exact results are taken modulo 2^n. -/
def divOf (n : Nat) (a b : BitVec n) : BitVec n :=
  if b = 0 then BitVec.allOnes n else BitVec.ofInt n (a.toInt.tdiv b.toInt)
def divuOf (n : Nat) (a b : BitVec n) : BitVec n :=
  if b = 0 then BitVec.allOnes n else BitVec.ofNat n (a.toNat / b.toNat)
def remOf (n : Nat) (a b : BitVec n) : BitVec n :=
  if b = 0 then a else BitVec.ofInt n (a.toInt.tmod b.toInt)
def remuOf (n : Nat) (a b : BitVec n) : BitVec n :=
  if b = 0 then a else BitVec.ofNat n (a.toNat % b.toNat)

/-! ### Major 0x01 (R107, R108) -/

/-- Trunc64(A + B) (R107). -/
def execAdd (d a b : SReg) (e : Bool) (s : State) : Out := s.binS d a b e (· + ·)

/-- Trunc64(A − B) (R107). -/
def execSub (d a b : SReg) (e : Bool) (s : State) : Out := s.binS d a b e (· - ·)

/-- A AND B (R107). -/
def execAnd (d a b : SReg) (e : Bool) (s : State) : Out := s.binS d a b e (· &&& ·)

/-- A OR B (R107). -/
def execOr (d a b : SReg) (e : Bool) (s : State) : Out := s.binS d a b e (· ||| ·)

/-- A XOR B (R107). -/
def execXor (d a b : SReg) (e : Bool) (s : State) : Out := s.binS d a b e (· ^^^ ·)

/-- A shifted left by B[5:0] (R107). -/
def execSll (d a b : SReg) (e : Bool) (s : State) : Out := s.binS d a b e sllLong

/-- A read unsigned, shifted right by B[5:0] (R107). -/
def execSrl (d a b : SReg) (e : Bool) (s : State) : Out := s.binS d a b e srlLong

/-- A read signed, shifted right by B[5:0] (R107). -/
def execSra (d a b : SReg) (e : Bool) (s : State) : Out := s.binS d a b e sraLong

/-- 1 if As < Bs (R107). -/
def execSlt (d a b : SReg) (e : Bool) (s : State) : Out := s.binS d a b e (fun a b => ofBool (a.slt b))

/-- 1 if Au < Bu (R107). -/
def execSltu (d a b : SReg) (e : Bool) (s : State) : Out := s.binS d a b e (fun a b => ofBool (a.ult b))

/-- The smaller of As, Bs (R107). -/
def execMin (d a b : SReg) (e : Bool) (s : State) : Out := s.binS d a b e (fun a b => if a.slt b then a else b)

/-- The larger of As, Bs (R107). -/
def execMax (d a b : SReg) (e : Bool) (s : State) : Out := s.binS d a b e (fun a b => if a.slt b then b else a)

/-- The smaller of Au, Bu (R107). -/
def execMinu (d a b : SReg) (e : Bool) (s : State) : Out := s.binS d a b e (fun a b => if a.ult b then a else b)

/-- The larger of Au, Bu (R107). -/
def execMaxu (d a b : SReg) (e : Bool) (s : State) : Out := s.binS d a b e (fun a b => if a.ult b then b else a)

/-- Zeros above the highest 1 bit of A; 64 if A = 0 (R107). -/
def execClz (d a : SReg) (e : Bool) (s : State) : Out := s.unS d a e (fun a => BitVec.ofNat 64 (clzNat 64 a.toNat))

/-- Zeros below the lowest 1 bit of A; 64 if A = 0 (R107). -/
def execCtz (d a : SReg) (e : Bool) (s : State) : Out := s.unS d a e (fun a => BitVec.ofNat 64 (ctzNat 64 a.toNat))

/-- The number of 1 bits in A (R107). -/
def execPopc (d a : SReg) (e : Bool) (s : State) : Out := s.unS d a e (fun a => BitVec.ofNat 64 (popNat 64 a.toNat))

/-- Sext(A[7:0]) (R107). -/
def execSextB (d a : SReg) (e : Bool) (s : State) : Out := s.unS d a e (fun a => (a.setWidth 8).signExtend 64)

/-- Sext(A[15:0]) (R107). -/
def execSextH (d a : SReg) (e : Bool) (s : State) : Out := s.unS d a e (fun a => (a.setWidth 16).signExtend 64)

/-- Sext(A[31:0]) (R107). -/
def execSextW (d a : SReg) (e : Bool) (s : State) : Out := s.unS d a e (fun a => (a.setWidth 32).signExtend 64)

/-- Zext(A[7:0]) (R107). -/
def execZextB (d a : SReg) (e : Bool) (s : State) : Out := s.unS d a e (fun a => (a.setWidth 8).setWidth 64)

/-- Zext(A[15:0]) (R107). -/
def execZextH (d a : SReg) (e : Bool) (s : State) : Out := s.unS d a e (fun a => (a.setWidth 16).setWidth 64)

/-- Zext(A[31:0]) (R107). -/
def execZextW (d a : SReg) (e : Bool) (s : State) : Out := s.unS d a e (fun a => (a.setWidth 32).setWidth 64)

/-- A if the old x[d] ≠ 0, else B; d is a third source, and R33 does not apply to it (R108). -/
def execSel (d a b : SReg) (e : Bool) (s : State) : Out :=
  s.issue 0 e [.s a, .s b, .s d] [] fun t =>
    (s.putS s.cur d (if s.sval t d ≠ 0 then s.sval t a else s.sval t b)).advance

/-! ### Major 0x02 (R109) -/

/-- ADD of A[31:0] and B[31:0] (R109). -/
def execAddW (d a b : SReg) (e : Bool) (s : State) : Out := s.binS d a b e (wop (· + ·))

/-- SUB of A[31:0] and B[31:0] (R109). -/
def execSubW (d a b : SReg) (e : Bool) (s : State) : Out := s.binS d a b e (wop (· - ·))

/-- AND of A[31:0] and B[31:0] (R109). -/
def execAndW (d a b : SReg) (e : Bool) (s : State) : Out := s.binS d a b e (wop (· &&& ·))

/-- OR of A[31:0] and B[31:0] (R109). -/
def execOrW (d a b : SReg) (e : Bool) (s : State) : Out := s.binS d a b e (wop (· ||| ·))

/-- XOR of A[31:0] and B[31:0] (R109). -/
def execXorW (d a b : SReg) (e : Bool) (s : State) : Out := s.binS d a b e (wop (· ^^^ ·))

/-- A[31:0] shifted left by B[4:0] (R109). -/
def execSllW (d a b : SReg) (e : Bool) (s : State) : Out := s.binS d a b e sllWord

/-- A[31:0] read unsigned, shifted right by B[4:0] (R109). -/
def execSrlW (d a b : SReg) (e : Bool) (s : State) : Out := s.binS d a b e srlWord

/-- A[31:0] read signed, shifted right by B[4:0] (R109). -/
def execSraW (d a b : SReg) (e : Bool) (s : State) : Out := s.binS d a b e sraWord

/-- 1 if A[31:0] < B[31:0], signed (R109). -/
def execSltW (d a b : SReg) (e : Bool) (s : State) : Out := s.binS d a b e (fun a b => ofBool ((lo32 a).slt (lo32 b)))

/-- 1 if A[31:0] < B[31:0], unsigned (R109). -/
def execSltuW (d a b : SReg) (e : Bool) (s : State) : Out := s.binS d a b e (fun a b => ofBool ((lo32 a).ult (lo32 b)))

/-- The smaller, signed (R109). -/
def execMinW (d a b : SReg) (e : Bool) (s : State) : Out := s.binS d a b e (wop fun a b => if a.slt b then a else b)

/-- The larger, signed (R109). -/
def execMaxW (d a b : SReg) (e : Bool) (s : State) : Out := s.binS d a b e (wop fun a b => if a.slt b then b else a)

/-- The smaller, unsigned (R109). -/
def execMinuW (d a b : SReg) (e : Bool) (s : State) : Out := s.binS d a b e (wop fun a b => if a.ult b then a else b)

/-- The larger, unsigned (R109). -/
def execMaxuW (d a b : SReg) (e : Bool) (s : State) : Out := s.binS d a b e (wop fun a b => if a.ult b then b else a)

/-- Leading zeros of A[31:0]; 32 if it is 0 (R109). -/
def execClzW (d a : SReg) (e : Bool) (s : State) : Out := s.unS d a e (fun a => BitVec.ofNat 64 (clzNat 32 (lo32 a).toNat))

/-- Trailing zeros of A[31:0]; 32 if it is 0 (R109). -/
def execCtzW (d a : SReg) (e : Bool) (s : State) : Out := s.unS d a e (fun a => BitVec.ofNat 64 (ctzNat 32 (lo32 a).toNat))

/-- The number of 1 bits in A[31:0] (R109). -/
def execPopcW (d a : SReg) (e : Bool) (s : State) : Out := s.unS d a e (fun a => BitVec.ofNat 64 (popNat 32 (lo32 a).toNat))

/-! ### Major 0x03 (R110) -/

/-- Trunc64(As · Bs) (R110). -/
def execMul (d a b : SReg) (e : Bool) (s : State) : Out := s.binS d a b e (· * ·)

/-- Floor(As · Bs / 2^64) (R110). -/
def execMulh (d a b : SReg) (e : Bool) (s : State) : Out := s.binS d a b e (mulhOf 64)

/-- Floor(Au · Bu / 2^64) (R110). -/
def execMulhu (d a b : SReg) (e : Bool) (s : State) : Out := s.binS d a b e (mulhuOf 64)

/-- As / Bs (R110). -/
def execDiv (d a b : SReg) (e : Bool) (s : State) : Out := s.binS d a b e (divOf 64)

/-- Au / Bu (R110). -/
def execDivu (d a b : SReg) (e : Bool) (s : State) : Out := s.binS d a b e (divuOf 64)

/-- The remainder of As / Bs (R110). -/
def execRem (d a b : SReg) (e : Bool) (s : State) : Out := s.binS d a b e (remOf 64)

/-- The remainder of Au / Bu (R110). -/
def execRemu (d a b : SReg) (e : Bool) (s : State) : Out := s.binS d a b e (remuOf 64)

/-- MUL of A[31:0] and B[31:0] (R110). -/
def execMulW (d a b : SReg) (e : Bool) (s : State) : Out := s.binS d a b e (wop (· * ·))

/-- Bits [63:32] of the signed product (R110). -/
def execMulhW (d a b : SReg) (e : Bool) (s : State) : Out := s.binS d a b e (wop (mulhOf 32))

/-- Bits [63:32] of the unsigned product (R110). -/
def execMulhuW (d a b : SReg) (e : Bool) (s : State) : Out := s.binS d a b e (wop (mulhuOf 32))

/-- DIV of A[31:0] and B[31:0] (R110). -/
def execDivW (d a b : SReg) (e : Bool) (s : State) : Out := s.binS d a b e (wop (divOf 32))

/-- DIVU of A[31:0] and B[31:0] (R110). -/
def execDivuW (d a b : SReg) (e : Bool) (s : State) : Out := s.binS d a b e (wop (divuOf 32))

/-- REM of A[31:0] and B[31:0] (R110). -/
def execRemW (d a b : SReg) (e : Bool) (s : State) : Out := s.binS d a b e (wop (remOf 32))

/-- REMU of A[31:0] and B[31:0] (R110). -/
def execRemuW (d a b : SReg) (e : Bool) (s : State) : Out := s.binS d a b e (wop (remuOf 32))

/-! ### Majors 0x04 to 0x0C (R111 to R113) -/

/-- Trunc64(A + I) (R111). -/
def execAddi (d a : SReg) (imm : BitVec 15) (e : Bool) (s : State) : Out :=
  s.unS d a e fun a => a + imm.signExtend 64

/-- A AND I (R111). -/
def execAndi (d a : SReg) (imm : BitVec 15) (e : Bool) (s : State) : Out :=
  s.unS d a e fun a => a &&& imm.signExtend 64

/-- A OR I (R111). -/
def execOri (d a : SReg) (imm : BitVec 15) (e : Bool) (s : State) : Out :=
  s.unS d a e fun a => a ||| imm.signExtend 64

/-- A XOR I (R111). -/
def execXori (d a : SReg) (imm : BitVec 15) (e : Bool) (s : State) : Out :=
  s.unS d a e fun a => a ^^^ imm.signExtend 64

/-- 1 if As < I (R111). -/
def execSlti (d a : SReg) (imm : BitVec 15) (e : Bool) (s : State) : Out :=
  s.unS d a e fun a => ofBool (a.slt (imm.signExtend 64))

/-- 1 if Au < I read unsigned (R111). -/
def execSltiu (d a : SReg) (imm : BitVec 15) (e : Bool) (s : State) : Out :=
  s.unS d a e fun a => ofBool (a.ult (imm.signExtend 64))

/-- The shift of R107 or R109 by the immediate amount (R112). -/
def execSlli (d a : SReg) (sh : BitVec 6) (e : Bool) (s : State) : Out :=
  s.unS d a e fun a => sllLong a (sh.setWidth 64)

/-- The shift of R107 or R109 by the immediate amount (R112). -/
def execSrli (d a : SReg) (sh : BitVec 6) (e : Bool) (s : State) : Out :=
  s.unS d a e fun a => srlLong a (sh.setWidth 64)

/-- The shift of R107 or R109 by the immediate amount (R112). -/
def execSrai (d a : SReg) (sh : BitVec 6) (e : Bool) (s : State) : Out :=
  s.unS d a e fun a => sraLong a (sh.setWidth 64)

/-- The shift of R107 or R109 by the immediate amount (R112). -/
def execSlliW (d a : SReg) (sh : BitVec 5) (e : Bool) (s : State) : Out :=
  s.unS d a e fun a => sllWord a (sh.setWidth 64)

/-- The shift of R107 or R109 by the immediate amount (R112). -/
def execSrliW (d a : SReg) (sh : BitVec 5) (e : Bool) (s : State) : Out :=
  s.unS d a e fun a => srlWord a (sh.setWidth 64)

/-- The shift of R107 or R109 by the immediate amount (R112). -/
def execSraiW (d a : SReg) (sh : BitVec 5) (e : Bool) (s : State) : Out :=
  s.unS d a e fun a => sraWord a (sh.setWidth 64)

/-- x[d] ← Trunc64(Sext(imm20) · 2^15) (R113). -/
def execLui (d : SReg) (imm : BitVec 20) (e : Bool) (s : State) : Out :=
  s.issue 0 e [] [.s d] fun _ => (s.putS s.cur d (imm.signExtend 64 <<< 15)).advance

/-- x[d] ← Trunc64(PC + Sext(imm20) · 2^15), with the PC of the AUIPC (R113). -/
def execAuipc (d : SReg) (imm : BitVec 20) (e : Bool) (s : State) : Out :=
  s.issue 0 e [] [.s d] fun t => (s.putS s.cur d (t.pc + imm.signExtend 64 <<< 15)).advance

end Sys2Proof.Machine
end

