-- ==== Sys2Proof/Machine/Mem.lean ====
section
/-! DEFINITION. Reads and writes of a station: the write set, the clean copies, the requests that misses make,
writes at a home, and the plate by SLA (R40, R121, R190 to R196, R202, R212, R215). -/

namespace Sys2Proof.Machine

/-! ### What a station reads (R193, R194) -/

/-- A store's byte at an address. -/
def Store.byteAt (x : Store) (a : Nat) : Option Byte :=
  if x.line = a / 64 ∧ x.mask.getLsbD (a % 64) then some (x.data.extractLsb' (8 * (a % 64)) 8) else none

/-- Step 1: the latest write of the write set to a byte. -/
def Station.dirtyByte (st : Station) (a : Nat) : Option Byte :=
  st.stores.reverse.findSome? fun x => x.byteAt a

/-- The store that holds the latest write to a byte. -/
def Station.lastStore (st : Station) (a : Nat) : Option Store := st.stores.reverse.find? fun x => (x.byteAt a).isSome

/-- Whether a store may merge: its page is a plate or LP6 page (R212). -/
def Store.mergeable (x : Store) : Bool := x.kind == some 1 || x.kind == some 2

/-- Steps 1 and 2: the byte the station holds, if any, poisoned where an error lost it (R405). A byte written to a host-window
page is not read back from the store buffer (R193, R212), and one to a page of unknown kind only once the kind is known. -/
def Station.heldByte (st : Station) (a : Nat) : Option CleanByte :=
  match st.lastStore a with
  | some x =>
    if x.mergeable then (x.byteAt a).map fun b => { val := b, poison := if x.bad then some 0 else none } else none
  | none => tblGet st.clean a

/-- A byte of a page of unknown kind that the write set holds: it is what a load reads unless the page turns out to be a
host-window page. -/
def Station.guessByte (st : Station) (a : Nat) : Option Byte :=
  match st.lastStore a with
  | some x => if x.kind.isNone then x.byteAt a else none
  | none => none

/-- The bytes of a line that are guessed so, as a mask and data. -/
def Station.guesses (st : Station) (line : Nat) : BitVec 64 × BitVec 512 :=
  if st.stores.any fun x => x.line == line && x.kind.isNone then
    (numsFrom 0 64).foldl (fun acc i =>
      match st.guessByte (line * 64 + i) with
      | some b => (acc.1 ||| (1 <<< i), acc.2 ||| (b.setWidth 512 <<< (8 * i)))
      | none => acc) (0, 0)
  else (0, 0)

/-- What gathering the bytes of a load finds: the value of the bytes the station holds, those that miss as
(byte of the value, GVA), and the poison of a held byte. -/
structure Gather where
  value : Nat := 0
  pend : List (Nat × Nat) := []
  poison : Option Nat := none
  deriving DecidableEq, Repr

/-- Gathering the bytes of a load, each at its place in the value. `miss` are the lines to fetch: of such a line only the bytes
of the write set are taken from the station, so that no clean byte is read beside newer ones of its line (R192; log entry
13). -/
def Station.gatherOver (st : Station) (miss : List Nat) : List (Nat × Nat) → Gather
  | [] => {}
  | (i, a) :: rest =>
    let g := st.gatherOver miss rest
    match if miss.contains (a / 64) && (st.lastStore a).isNone then none else st.heldByte a with
    | some c =>
      { g with value := g.value + c.val.toNat * 2 ^ (8 * i), poison := if c.poison.isSome then c.poison else g.poison }
    | none => { g with pend := (i, a) :: g.pend }

/-- The bytes of an access of n bytes at an address, as (byte of the value, GVA). -/
def byteList (i : Nat) (a : Nat) : Nat → List (Nat × Nat)
  | 0 => []
  | n + 1 => (i, a) :: byteList (i + 1) (a + 1) n

/-- The lines of a list of bytes, each once, in order. -/
def linesOf (l : List (Nat × Nat)) : List Nat :=
  l.foldl (fun acc p => addOnce acc (p.2 / 64)) []

/-- Gathering the bytes of a load: the lines of those that the station does not hold are fetched. -/
def Station.gather (st : Station) (l : List (Nat × Nat)) : Gather :=
  st.gatherOver (linesOf (l.filter fun p => (st.heldByte p.2).isNone)) l

/-- A request of the executing strand. -/
def State.reqOf (s : State) (t : Strand) (k : ReqKind) (g : Word) (src : Nat) : Req :=
  { kind := k, tag := t.tag, slot := s.cur, station := s.curStation, grid := t.grid, ctx := t.ctx,
    world := t.world, gva := g, pc := t.pc, src := src }

/-- One fill request for each line that a load misses (R193, step 3), with the bytes of the line that the write set holds for a
page of unknown kind (R212). -/
def State.addFills (s : State) (t : Strand) (src res : Nat) : List Nat → State
  | [] => s
  | l :: rest =>
    let h := (s.station s.curStation).guesses l
    (s.addReq { s.reqOf t (.fill false) (BitVec.ofNat 64 (l * 64)) src with
        res := some res, age := s.nextAge, held := h.1, data := h.2 }).addFills t src res rest

/-- The n bytes of a scalar load, extended (R120). -/
def extend (n : Nat) (signed : Bool) (v : Nat) : Word :=
  if signed then sext (8 * n) v else BitVec.ofNat 64 (v % 2 ^ (8 * n))

/-- A scalar load from a GVA (R120, R123): a hit is written at once; a miss marks x[d] empty. -/
def State.loadS (s : State) (t : Strand) (d : SReg) (a : Word) (n : Nat) (signed : Bool) : State :=
  let g := (s.station s.curStation).gather (byteList 0 a.toNat n)
  let code := g.poison.map (poisonCode 0)
  match g.pend with
  | [] =>
    match code with
    | some c => s.setScell s.cur d { val := 0, poison := some ⟨t.pc, a, c, t.tag⟩ }
    | none => s.putS s.cur d (extend n signed g.value)
  | _ =>
    let id := s.nextId
    let s := s.pendS t d { emptyRes t (dstS d) with
      addr := a, value := BitVec.ofNat 2048 g.value, pend := g.pend, nbytes := n, signed := signed, poison := code }
    s.addFills t 0 id (linesOf g.pend)

/-- A vector load of bytes, each at its place in the value, over an old value whose other bytes stay. A poisoned result's report
names the lowest active element's address: R123 names the load's address and a vector load has several (log entry 71). -/
def State.loadV (s : State) (t : Strand) (d : VReg) (bytes : List (Nat × Nat)) (old : Nat) (always : Bool) : State :=
  let g := (s.station s.curStation).gather bytes
  let code := g.poison.map (poisonCode 1)
  let addr := BitVec.ofNat 64 ((bytes.head?.map (·.2)).getD 0)
  let v := BitVec.ofNat 2048 (old + g.value)
  match g.pend, always with
  | [], false =>
    match code with
    | some c => s.setVcell s.cur d { val := 0, xr := t.xr, poison := some ⟨t.pc, addr, c, t.tag⟩ }
    | none => s.putV s.cur d v t.xr
  | [], true =>
    s.pendV t d { emptyRes t (.v d) with addr := addr, value := v, xr := t.xr, poison := code, ready := true }
  | _, _ =>
    let id := s.nextId
    let s := s.pendV t d { emptyRes t (.v d) with addr := addr, value := v, xr := t.xr, pend := g.pend, poison := code }
    s.addFills t 1 id (linesOf g.pend)

/-! ### Stores (R121, R194, R212) -/

/-- The entry of a page kind a station holds. -/
def Station.kindOf (st : Station) (a : Nat) : Option (Fin 4) := tblGet st.kinds (a / 65536)

/-- Whether the station has sent a kind query for a page that has not been answered. -/
def State.kindAsked (s : State) (st : Nat) (page : Nat) : Bool :=
  s.reqs.any fun e => e.2.kind == .kindQuery && e.2.station == st && gvaPage e.2.gva == page

/-- One store within one line enters the station's store buffer; a page kind that the station does not hold is
asked for. -/
def State.storeLine (s : State) (t : Strand) (line : Nat) (mask : BitVec 64) (data : BitVec 512) : State :=
  let st := s.curStation
  let kind := (s.station st).kindOf (line * 64)
  let x : Store := { age := s.nextAge, line := line, mask := mask, data := data, slot := s.cur,
                     grid := t.grid, ctx := t.ctx, world := t.world, kind := kind }
  let s := { s.modStation st fun y => { y with stores := y.stores ++ [x] } with nextAge := s.nextAge + 1 }
  if kind.isNone && !s.kindAsked st (line / 1024) then
    s.addReq (s.reqOf t .kindQuery (BitVec.ofNat 64 (line * 64 + ((List.range 64).find? mask.getLsbD).getD 0)) 0)
  else s

/-- The mask and data of the bytes of a list that lie in a line; of two bytes at one place the later stands. -/
def lineBytes (line : Nat) : List (Nat × Byte) → BitVec 64 × BitVec 512
  | [] => (0, 0)
  | (a, b) :: rest =>
    let (m, d) := lineBytes line rest
    let i := a % 64
    if a / 64 = line ∧ !m.getLsbD i then (m ||| (1 <<< i), d ||| (b.setWidth 512 <<< (8 * i))) else (m, d)

/-- Storing bytes at addresses: one store for each line, in the order of first mention. -/
def State.storeLines (s : State) (t : Strand) (bytes : List (Nat × Byte)) : List Nat → State
  | [] => s
  | l :: rest =>
    let (m, d) := lineBytes l bytes
    (s.storeLine t l m d).storeLines t bytes rest

def State.storeBytes (s : State) (t : Strand) (bytes : List (Nat × Byte)) : State :=
  s.storeLines t bytes (bytes.foldl (fun acc p => addOnce acc (p.1 / 64)) [])

/-- The bytes of a number at ascending addresses. -/
def addrBytes (a n v : Nat) : List (Nat × Byte) :=
  (bytesOf n v).zipIdx.map fun p => (a + p.2, p.1)

/-! ### The plate by SLA (R40, R124, R196) -/

/-- The plate byte of a station. -/
def plateLoc (st sla : Nat) : Loc := .plate st sla

/-- The n bytes of a station's plate at an SLA as a number; bytes out of range read zero. -/
def State.plateNat (s : State) (st sla n : Nat) : Nat := s.homeNat (plateLoc st sla) n

/-- Writing plate bytes; bytes out of range are dropped. -/
def State.plateWrite (s : State) (st sla : Nat) (bs : List Byte) : State :=
  (s.writeBlocks (plateLoc st sla) bs (bs.length + 1)).1

/-- The outcome of a protection check by SLA: the slot freezes with PROTUNIT of the source (R40, R370). The refused access is
dropped and not made again after a THAW (R381), so the strand stands past the instruction. -/
def State.freezeProt (s : State) (src : Nat) (sla : Nat) : State :=
  (s.freezeSlot s.cur (causeOf 5 src 6) (BitVec.ofNat 64 sla)).advance

/-! ### Home order (R202, R193) -/

/-- Whether two located requests go to one home slice. -/
def sameHome (a b : Loc) (da db : Nat) : Bool :=
  (match a.key, b.key with
    | some x, some y => x / 64 == y / 64
    | _, _ => false) || a.home da == b.home db

/-- Whether a request is a fill or a far atomic of a strand (R202). -/
def ReqKind.ordered : ReqKind → Bool
  | .fill _ => true
  | .amo _ _ => true
  | _ => false

/-- Whether a request carries data or an atomic operation to a home. -/
def ReqKind.carries : ReqKind → Bool
  | .merge => true
  | .amo _ _ => true
  | .streamWrite _ => true
  | .inWrite _ => true
  | .copyWrite => true
  | _ => false

/-- Whether an earlier request must reach the home before this one: a strand's fills and far atomics to one home
arrive in issue order, and one whose home is not known yet may have the same (R202); a station's fills and merges of one
line arrive in the order sent (R193), and so do the writes and far atomics of one station of another package (R214). -/
def Req.before (a b : Req) : Bool :=
  decide (a.order < b.order) &&
  ((a.kind.ordered && b.kind.ordered && a.tag == b.tag && gvaDie a.gva == gvaDie b.gva && gvaPkg a.gva == gvaPkg b.gva &&
      (match a.stage, b.stage with
        | .translated l, .translated m => sameHome l m (gvaDie a.gva) (gvaDie b.gva)
        | _, _ => true)) ||
    (a.from_.isSome && a.from_.map (·.1) == b.from_.map (·.1) && a.kind.carries && b.kind.carries) ||
    (a.station == b.station && a.gva.toNat / 64 == b.gva.toNat / 64 &&
      (a.kind == .merge || (match a.kind with | .fill _ => true | _ => false)) &&
      (b.kind == .merge || (match b.kind with | .fill _ => true | _ => false))))

/-- Whether a request has still to be served at a home. -/
def Stage.toServe : Stage → Bool
  | .hostOut _ => false
  | .waiting => false
  | .inbound _ => false
  | .replied _ _ => false
  | _ => true

/-- Whether an earlier request must be served before this one. -/
def State.servesLater (s : State) (r : Req) : Bool := s.reqs.any fun e => Req.before e.2 r && e.2.stage.toServe

/-- Whether the slot access of another operation on the queue at a key is in progress: later operations wait behind
it. -/
def State.slotBusy (s : State) (key n : Nat) : Bool :=
  s.reqs.any fun e => match e.2.kind with
    | .slotOp p _ =>
      p != n && (match s.req p with
        | some x => (match x.stage with
          | .translated l => l.key == some key
          | _ => false)
        | none => false)
    | _ => false

/-- Whether an operation's own slot access is in progress. -/
def State.slotOwn (s : State) (n : Nat) : Bool :=
  s.reqs.any fun e => match e.2.kind with
    | .slotOp p _ => p == n
    | _ => false

/-- Whether a home serves a request in the order in which the DTU sent it (R390). -/
def ReqKind.inTurn : ReqKind → Bool
  | .fill _ => true
  | .amo _ _ => true
  | .merge => true
  | .lrw => true
  | .sch => true
  | .rrel => true
  | .enq _ => true
  | .deq _ => true
  | _ => false

/-- Whether an ENQ or DEQ has been taken up at its queue, where it waits: for the slot access of one before it or of its own, or for
room or a packet (R229, R266). -/
def State.atQueue (s : State) (n : Nat) (r : Req) : Bool :=
  s.slotOwn n || s.queueWaits.any (fun e => e.2.contains n) ||
  (match r.kind, r.stage with
    | .enq _, .translated l => s.slotBusy (l.key.getD 0) n
    | .deq _, .translated l => s.slotBusy (l.key.getD 0) n
    | _, _ => false)

/-- Whether the DTU sent the request a to a home before it sent b to the same home. -/
def Req.sentBefore (a b : Req) : Bool :=
  a.kind.inTurn && b.kind.inTurn && decide (a.sent < b.sent) &&
  (match a.stage, b.stage with
    | .translated l, .translated m => sameHome l m (gvaDie a.gva) (gvaDie b.gva)
    | _, _ => false)

/-- Whether a request may be served at its home now: nothing that must come first is outstanding, and the requests that the
DTU sent there earlier have arrived (R202, R390). -/
def State.mayServe (s : State) (r : Req) : Bool :=
  !s.servesLater r && !s.reqs.any fun e => e.2.sentBefore r && !s.atQueue e.1 e.2

/-- Whether an earlier request that reaches its home before this one has not been sent there (R193, R202, R214). -/
def State.sentLater (s : State) (r : Req) : Bool :=
  s.reqs.any fun e => Req.before e.2 r && (match e.2.stage with
    | .toDtu => true
    | .walking => true
    | .buffered _ => true
    | .refused => true
    | _ => false)

/-- Whether a host-window store of the station is on its way to another package, which sends it on the link (R212, R214). -/
def State.hostAway (s : State) (st : Nat) : Bool := s.reqs.any fun e => e.2.hostw && e.2.station == st

/-- Whether a host-window store of the station, or one that may be one, stands before a read in store order
(R212). -/
def State.hostStoreBefore (s : State) (st age : Nat) : Bool :=
  ((s.station st).stores.any fun x => decide (x.age < age) && (x.kind == some 3 || x.kind == none)) ||
  s.reqs.any fun e => e.2.hostw && e.2.station == st && decide (e.2.age < age)

/-- Whether a write that the String delivered earlier from the station of a read has not taken place: a host-window read goes
behind it (R212). -/
def State.deliveredBefore (s : State) (r : Req) : Bool :=
  r.from_.isSome && s.reqs.any fun e =>
    e.2.from_.map (·.1) == r.from_.map (·.1) && e.2.kind == .merge && decide (e.2.order < r.order)

/-- Whether a request carries words of a strand's port. -/
def Req.streamOf (r : Req) (tag : Nat) (q : Fin 8) : Bool :=
  r.tag == tag && (match r.kind with
    | .streamRead p _ => p == q
    | .streamWrite p => p == q
    | _ => false)

/-- The home has supplied a line to a station, or accepted a merge of it (R203). -/
def State.noteSeen (s : State) (st line : Nat) : State :=
  s.modStation st fun x => { x with seen := tblPut x.seen line s.clock }

end Sys2Proof.Machine
end

