-- ==== Sys2Proof/Machine/Merge.lean ====
section
/-! DEFINITION. What moves a station's writes and copies: the merge of a line, releases and acquires, and the
conditions that QFENCE and MWAIT wait for (R177, R195, R198, R199, R206). -/

namespace Sys2Proof.Machine

/-! ### Merging a line (R195) -/

/-- The 512-bit mask of a 64-bit byte mask. -/
def byteMask (m : BitVec 64) : BitVec 512 :=
  BitVec.ofNat 512 (natOf 1 ((numsFrom 0 64).map fun i => if m.getLsbD i then 255 else 0))

/-- A later write laid over an earlier one. -/
def overlay (a b : BitVec 64 × BitVec 512) : BitVec 64 × BitVec 512 :=
  (a.1 ||| b.1, (a.2 &&& ~~~byteMask b.1) ||| (b.2 &&& byteMask b.1))

/-- The byte at a place of a line's data. -/
def lineByte (d : BitVec 512) (i : Nat) : Byte := d.extractLsb' (8 * i) 8

/-- The store that wrote a byte of a line last. -/
def lastWriter (xs : List Store) (i : Nat) : Option Store := xs.reverse.find? fun x => x.mask.getLsbD i

/-- The slots and grids that wrote the dirty bytes last (R359). -/
def writersOf (xs : List Store) : List (Nat × Nat) :=
  (numsFrom 0 64).foldl (fun acc i =>
    match lastWriter xs i with
    | some x => if acc.contains (x.slot, x.grid) then acc else acc ++ [(x.slot, x.grid)]
    | none => acc) []

/-- The bytes of some stores to a line as clean copies, poisoned where an error lost them. -/
def cleanBytes (c : List (Nat × CleanByte)) (line : Nat) (xs : List Store) : List (Nat × CleanByte) :=
  (numsFrom 0 64).foldl (fun acc i =>
    match lastWriter xs i with
    | some x => tblPut acc (line * 64 + i) { val := lineByte x.data i, poison := if x.bad then some 0 else none }
    | none => acc) c

/-- The authority of a store. -/
def Store.who (x : Store) : Who := { ctx := x.ctx, world := x.world }

/-- The dirty bytes of a line that one authority wrote leave the write set in one merge, and stay as clean copies (R195). Of a
line that no fill has installed, the bytes merged are all that stays (log entry 13). -/
def State.mergeAs (s : State) (st line : Nat) (w : Who) : State :=
  let S := s.station st
  let mine (x : Store) : Bool := x.line == line && x.mergeable && x.who == w
  let xs := S.stores.filter mine
  match xs with
  | [] => s
  | x :: _ =>
    let md := xs.foldl (fun a y => overlay a (y.mask, y.data)) (0, 0)
    let s := s.setStation st { S with
      stores := S.stores.filter fun x => !mine x
      clean := cleanBytes S.clean line xs }
    s.addReq { kind := .merge, station := st, slot := x.slot, grid := x.grid, ctx := x.ctx, world := x.world,
               gva := BitVec.ofNat 64 (line * 64), mask := md.1, data := md.2, writers := writersOf xs, age := x.age,
               bad := (numsFrom 0 64).any fun i => ((lastWriter xs i).map (·.bad)).getD false }

/-- The authorities that have dirty bytes in a line: one, unless the station has passed to another context. -/
def Station.lineWhos (S : Station) (line : Nat) : List Who :=
  ((S.stores.filter fun x => x.line == line && x.mergeable).map Store.who).eraseDups

/-- A line's dirty bytes leave the write set. -/
def State.mergeLine (s : State) (st line : Nat) : State :=
  ((s.station st).lineWhos line).foldl (fun s w => s.mergeAs st line w) s

/-- Merging every line that holds a mergeable store older than a mark: a release does so (R198). -/
def State.mergeCovered (s : State) (st mark : Nat) : State :=
  let lines := (s.station st).stores.foldl (fun acc x =>
    if x.mergeable && decide (x.age < mark) then addOnce acc x.line else acc) []
  lines.foldl (fun s l => s.mergeLine st l) s

/-! ### Releases and acquires (R198, R199) -/

/-- The authority of a request. -/
def Req.who (r : Req) : Who := { ctx := r.ctx, world := r.world }

/-- Whether the writes of a station older than the marks are at their homes in a scope, and for system scope its
host-window stores are sent, among which is a store that may yet prove to be one (R198, R212). -/
def State.writesHeld (s : State) (st : Nat) (sc : Scope) (age host : Nat) : Bool :=
  !((s.station st).stores.any fun x =>
      if x.kind == some 3 then sc == .system && decide (x.age < host)
      else if x.kind.isNone && sc == .system && decide (x.age < host) then true
      else decide (x.age < age) && s.homedIn st sc x.who (BitVec.ofNat 64 (x.line * 64))) &&
  !(s.reqs.any fun e => e.2.kind == .merge && e.2.station == st &&
      if e.2.hostw then sc == .system && decide (e.2.age < host)
      else decide (e.2.age < age) && s.homedIn st sc e.2.who e.2.gva)

/-- Whether a request is a far atomic. -/
def ReqKind.isAmo : ReqKind → Bool
  | .amo _ _ => true
  | _ => false

/-- Whether a strand's release is complete: its station's covered writes are held, and its far atomics homed in
the scope are performed (R198). -/
def State.releaseDone (s : State) (t : Strand) (st : Nat) (sc : Scope) (age host : Nat) : Bool :=
  s.writesHeld st sc age host &&
  !(s.reqs.any fun e => e.2.kind.isAmo && e.2.tag == t.tag && s.homedIn st sc e.2.who e.2.gva)

/-- PHASE.A (R199, R212): the clean copies of lines homed in the scope are discarded, outstanding fills of such
lines install nothing, and the kinds of covered pages are forgotten. -/
def State.acquire (s : State) (w : Who) (st : Nat) (sc : Scope) : State :=
  let inScope (a : Nat) : Bool := s.homedIn st sc w (BitVec.ofNat 64 a)
  let s' := s.modStation st fun S => { S with
    clean := S.clean.filter fun c => !inScope (c.1 / 64 * 64)
    kinds := S.kinds.filter fun c => !inScope (c.1 * 65536) }
  { s' with reqs := s'.reqs.map fun e =>
      match e.2.kind with
      | .fill _ =>
        if e.2.station = st ∧ inScope (e.2.gva.toNat / 64 * 64) = true then (e.1, { e.2 with install := false }) else e
      | _ => e }

/-- The discard of every clean copy of a station: the acquire of system scope that a dispatch, a restore or an
arrival performs (R201). -/
def State.acquireAll (s : State) (st : Nat) : State := s.acquire { ctx := 64, world := true } st .system

/-- The release of a station's whole write set that a chord's end or a departure begins (R201). -/
def State.releaseAll (s : State) (st : Nat) : State := s.mergeCovered st s.nextAge

/-! ### What QFENCE and MWAIT wait for (R177, R206) -/

/-- Whether a publication made for an engine's entry, numbered from `from_` and below a mark, is not yet performed; `only`
limits it to the entries of one strand. -/
def State.actionPending (s : State) (st src from_ mark : Nat) (only : Option Nat) : Bool :=
  s.reqs.any fun e => e.2.kind == .proofPub && e.2.src == src && e.2.station == st && decide (from_ ≤ e.2.age) && decide (e.2.age < mark) &&
    (only.isNone || only == some e.2.tag)

/-- The entries of a station's copy engine, those that a spilled chord's save image holds among them (R244, R293). -/
def State.copyItems (s : State) (st : Nat) : List CItem :=
  let S := s.station st
  S.cpy.queue ++ S.cpy.handlerQ ++ s.saved.flatMap fun v =>
    match v with
    | .chord x _ _ e _ _ => if x = st then e.cpy.queue ++ e.cpy.handlerQ else []
    | .slot _ _ _ _ => []

/-- The copy entries numbered below a mark are all performed with their completion actions. -/
def State.copyDone (s : State) (st mark : Nat) : Bool :=
  !((s.copyItems st).any fun i => decide (i.n < mark)) && !s.actionPending st 3 0 mark none

/-- Whether an event of the engine with a source number waits for the strand's boundary. -/
def Event.ofUnit (src : Nat) (v : Event) : Bool := v.code.toNat / 8 % 8 == src && v.code.toNat / 64 == 3

/-- Whether a strand's entries go ahead of the held ones: the trapped strand, in its handler, with no further event
of the unit pending (R174). -/
def Strand.ahead (t : Strand) (src : Nat) (halted : Option Nat) : Bool :=
  t.intrap && halted == some t.tag && !t.events.any (Event.ofUnit src)

/-- The matrix entries numbered below a mark are performed, written and their actions performed; for the trapped
strand's handler during a halt, only the handler's own (R177). A message that is an action is performed when it is sent, which
is what R313 says of it (DEDUCED; log entry 72). -/
def State.engDone (s : State) (st : Nat) (t : Strand) (mark : Nat) : Bool :=
  let S := s.station st
  let mine := t.ahead 2 S.eng.halted
  let q := if mine then S.eng.handlerQ else S.eng.queue ++ S.eng.handlerQ
  !(q.any fun i => decide (i.n < mark)) &&
  (match S.eng.drain with
    | some d => decide (mark ≤ d.item.n) || (mine && d.item.tag != t.tag)
    | none => true) &&
  !s.actionPending st 2 (if mine then S.eng.haltMark else 0) mark (if mine then some t.tag else none)

/-- Whether an ENQ under way goes to a guest queue, by the descriptor its address names now (R265); of one at another package, by
what its home has said, and until it has, perhaps. -/
def State.enqToGuest (s : State) (r : Req) : Bool :=
  match r.stage with
  | .translated l => bit (BitVec.ofNat 64 (s.homeNat (l.plus 8) 8)) 62
  | .remote => r.gq.getD true
  | _ =>
    match s.whereIs r.who r.gva with
    | some (l, _) => bit (BitVec.ofNat 64 (s.homeNat (l.plus 8) 8)) 62
    | none => true

/-- Whether a request is an operation of a bank's queues or reservations. -/
def ReqKind.isQueueOp : ReqKind → Bool
  | .enq _ => true
  | .deq _ => true
  | .lrw => true
  | .sch => true
  | .rrel => true
  | _ => false

/-- Whether a request is an ENQ. -/
def ReqKind.isEnq : ReqKind → Bool
  | .enq _ => true
  | _ => false

/-- The packets that the station's strands enqueued to guest queues before a mark are final (R206). -/
def State.guestDone (s : State) (st mark : Nat) : Bool :=
  !s.cfg.guestPresent ||
  (!(s.guest.sent.any fun p => p.station == st && decide (p.id < mark)) && !s.actionPending st 7 0 mark none &&
   !(s.reqs.any fun e => e.2.kind.isEnq && e.2.station == st && decide (e.2.order < mark) && s.enqToGuest e.2))

/-- Whether a port's write stream holds a word written before a mark. -/
def Port.unsent (p : Port) (mark : Nat) : Bool :=
  match p with
  | .stream x => x.write && x.buf.any fun w => decide (w.2.id < mark)
  | .channel _ => false
  | .unbound => false

/-- Lines of the word at a position reach a read stream, which delivers the word when it has all four (R234). -/
def Strand.putLines (t : Strand) (q : Fin 8) (n : Nat) (v : VWord) (cnt : Nat) (poison : Bool) : Strand :=
  match t.ports[q] with
  | .stream p =>
    if p.write || p.pos + p.buf.length != n then t
    else
      let got := p.got ++ (List.range cnt).map fun i => (v >>> (512 * i)).setWidth 512
      let bad := p.bad || poison
      let p' : Stream :=
        if got.length < 4 then { p with got := got, bad := bad }
        else { p with
          got := [], bad := false
          buf := p.buf ++ [(n, { val := BitVec.ofNat 2048 (natOf 64 ((got.take 4).map (·.toNat))), xr := p.xr, poison := bad })] }
      { t with ports := t.ports.set q (.stream p') }
  | .channel _ => t
  | .unbound => t

/-- The bytes of a line that a result still lacks. -/
def PRes.wants (r : PRes) (line : Nat) : List (Nat × Nat) := r.pend.filter fun p => p.2 / 64 == line

/-- The bytes that a fill's instruction lacks, as places in its line. -/
def State.fillWants (s : State) (r : Req) : List Nat :=
  if r.src = 2 then (numsFrom 0 64).filter fun i => r.mask.getLsbD i
  else
    match r.res.bind fun i => tblGet s.results i with
    | some x => (x.wants (r.gva.toNat / 64)).map fun p => p.2 % 64
    | none => []

/-- The mask of some places in a line. -/
def maskOf (l : List Nat) : BitVec 64 := l.foldl (fun m i => m ||| (1 <<< i)) 0

/-- Whether a request carries a write-stream word. -/
def ReqKind.isStreamWrite : ReqKind → Bool
  | .streamWrite _ => true
  | _ => false

/-- The words that the station wrote to write streams before a mark are held at their homes (R206). -/
def State.streamsDone (s : State) (st mark : Nat) : Bool :=
  !(s.strands.any fun e => stationOf e.1 == st && e.2.ports.toList.any fun p => p.unsent mark) &&
  !(s.reqs.any fun e => e.2.kind.isStreamWrite && e.2.station == st && decide (e.2.age < mark))

/-- The condition of QFENCE for the bits of a mask (R206). -/
def State.qfenceDone (s : State) (t : Strand) (st : Nat) (m : BitVec 4) (cmark mmark rmark : Nat) : Bool :=
  (!m.getLsbD 0 || s.copyDone st cmark) &&
  (!m.getLsbD 1 || s.engDone st t mmark) &&
  (!m.getLsbD 2 || s.guestDone st rmark) &&
  (!m.getLsbD 3 || s.streamsDone st rmark)

end Sys2Proof.Machine
end

