-- ==== Sys2Proof/Machine/Amo.lean ====
section
/-! DEFINITION. Far atomics, reservations and global queues: majors 0x1D and 0x1E, at issue (R222 to R229). -/

namespace Sys2Proof.Machine

/-- MISALIGN to n bytes, then GVARANGE (R217). -/
def bankCheck (c : CfgTable) (a : Word) (n : Nat) : Option Cause :=
  if a.toNat % n ≠ 0 then some 0x080 else if gvaOk c a then none else some 0x082

/-- A request with a scalar result: x[d] is marked empty unless it is x0, and the strand goes on (R31). -/
def State.sendS (s : State) (t : Strand) (d : SReg) (r : Req) : State :=
  if d = .x 0 then (s.addReq r).advance
  else
    let id := s.nextId
    ((s.pendS t d { emptyRes t (dstS d) with addr := r.gva }).addReq { r with res := some id }).advance

/-- A far atomic (R222): operation code `op` of R59 on 4 or 8 bytes. `extra` is the third source of AMOCAS. -/
def State.amo (s : State) (op : Fin 16) (dbl : Bool) (d a b : SReg) (e : Bool) (extra : List Opnd) : Out :=
  s.issue 0 e (.s a :: .s b :: extra) [.s d] fun t =>
    let addr := s.sval t a
    match bankCheck s.cfg addr (if dbl then 8 else 4) with
    | some c => s.faultAt c addr
    | none =>
      s.sendS t d { s.reqOf t (.amo op dbl) addr 0 with a := s.sval t b, b := s.sval t d }

/-- AMOADD (R222). -/
def execAmoadd (dbl : Bool) (d a b : SReg) (e : Bool) (s : State) : Out := s.amo 0 dbl d a b e []
/-- AMOAND (R222). -/
def execAmoand (dbl : Bool) (d a b : SReg) (e : Bool) (s : State) : Out := s.amo 1 dbl d a b e []
/-- AMOOR (R222). -/
def execAmoor (dbl : Bool) (d a b : SReg) (e : Bool) (s : State) : Out := s.amo 2 dbl d a b e []
/-- AMOXOR (R222). -/
def execAmoxor (dbl : Bool) (d a b : SReg) (e : Bool) (s : State) : Out := s.amo 3 dbl d a b e []
/-- AMOMIN (R222). -/
def execAmomin (dbl : Bool) (d a b : SReg) (e : Bool) (s : State) : Out := s.amo 4 dbl d a b e []
/-- AMOMAX (R222). -/
def execAmomax (dbl : Bool) (d a b : SReg) (e : Bool) (s : State) : Out := s.amo 5 dbl d a b e []
/-- AMOMINU (R222). -/
def execAmominu (dbl : Bool) (d a b : SReg) (e : Bool) (s : State) : Out := s.amo 6 dbl d a b e []
/-- AMOMAXU (R222). -/
def execAmomaxu (dbl : Bool) (d a b : SReg) (e : Bool) (s : State) : Out := s.amo 7 dbl d a b e []
/-- AMOSWAP (R222). -/
def execAmoswap (dbl : Bool) (d a b : SReg) (e : Bool) (s : State) : Out := s.amo 8 dbl d a b e []
/-- AMOCAS (R222): x[d] is a third source; d = x0 compares against zero. -/
def execAmocas (dbl : Bool) (d a b : SReg) (e : Bool) (s : State) : Out := s.amo 9 dbl d a b e [.s d]
/-- AMOFADD32 (R223). -/
def execAmofadd32 (d a b : SReg) (e : Bool) (s : State) : Out := s.amo 10 false d a b e []
/-- AMOFXADD.d (R224). -/
def execAmofxadd (d a b : SReg) (e : Bool) (s : State) : Out := s.amo 11 true d a b e []

/-- LRW (R226): x[d] waits for the grant. -/
def execLrw (d a : SReg) (e : Bool) (s : State) : Out :=
  s.issue 0 e [.s a] [.s d] fun t =>
    let addr := s.sval t a
    match bankCheck s.cfg addr 8 with
    | some c => s.faultAt c addr
    | none => s.sendS t d (s.reqOf t .lrw addr 0)

/-- SCH (R226). -/
def execSch (a b : SReg) (e : Bool) (s : State) : Out :=
  s.issue 0 e [.s a, .s b] [] fun t =>
    let addr := s.sval t a
    match bankCheck s.cfg addr 8 with
    | some c => s.faultAt c addr
    | none => (s.addReq { s.reqOf t .sch addr 0 with a := s.sval t b }).advance

/-- RREL (R226). -/
def execRrel (a : SReg) (e : Bool) (s : State) : Out :=
  s.issue 0 e [.s a] [] fun t =>
    let addr := s.sval t a
    match bankCheck s.cfg addr 8 with
    | some c => s.faultAt c addr
    | none => (s.addReq (s.reqOf t .rrel addr 0)).advance

/-- ENQ and ENQ.nw (R229): bytes 0 to 63 of vb are the packet. A q port that is unbound or exhausted is a fault of the scalar source,
that of major 0x1E: R217 names a port fault's source for other majors only (DEDUCED; log entry 94). -/
def State.enq (s : State) (nw : Bool) (d a : SReg) (b : VReg) (e : Bool) : Out :=
  s.issue 0 e [.s a, .v b] [.s d] fun t =>
    let addr := s.sval t a
    match bankCheck s.cfg addr 64 with
    | some c => s.faultAt c addr
    | none =>
      let (w, s) := s.takeV b
      s.sendS t d { s.reqOf t (.enq nw) addr 0 with data := w.val.setWidth 512 }

/-- ENQ (R229). -/
def execEnq (d a : SReg) (b : VReg) (e : Bool) (s : State) : Out := s.enq false d a b e
/-- ENQ.nw (R229). -/
def execEnqNw (d a : SReg) (b : VReg) (e : Bool) (s : State) : Out := s.enq true d a b e

/-- DEQ and DEQ.nw (R229): vd is marked empty and takes the strand's MODE.XR as its tag. -/
def State.deq (s : State) (nw : Bool) (d : VReg) (a : SReg) (e : Bool) : Out :=
  s.issue 0 e [.s a] [.v d] fun t =>
    let addr := s.sval t a
    match bankCheck s.cfg addr 64 with
    | some c => s.faultAt c addr
    | none =>
      let id := s.nextId
      ((s.pendV t d { emptyRes t (.v d) with addr := addr, xr := t.xr }).addReq
        { s.reqOf t (.deq nw) addr 0 with res := some id }).advance

/-- DEQ (R229). -/
def execDeq (d : VReg) (a : SReg) (e : Bool) (s : State) : Out := s.deq false d a e
/-- DEQ.nw (R229). -/
def execDeqNw (d : VReg) (a : SReg) (e : Bool) (s : State) : Out := s.deq true d a e

end Sys2Proof.Machine
end

