-- ==== Sys2Proof/Machine/Sha.lean ====
section
/-! DEFINITION. SHA-384 as FIPS 180-4 defines it (R240, R412): the constants are the fractional bits of the cube and
square roots of primes, the padding, the compression and the digest. -/

namespace Sys2Proof.Machine

/-- The first 80 primes. -/
def primes80 : List Nat :=
  [2, 3, 5, 7, 11, 13, 17, 19, 23, 29, 31, 37, 41, 43, 47, 53, 59, 61, 67, 71] ++
  [73, 79, 83, 89, 97, 101, 103, 107, 109, 113, 127, 131, 137, 139, 149, 151, 157, 163, 167, 173] ++
  [179, 181, 191, 193, 197, 199, 211, 223, 227, 229, 233, 239, 241, 251, 257, 263, 269, 271, 277, 281] ++
  [283, 293, 307, 311, 313, 317, 331, 337, 347, 349, 353, 359, 367, 373, 379, 383, 389, 397, 401, 409]

/-- The largest r with r^k at most v, of n bits at most, found from the highest bit down. -/
def rootBits (k v : Nat) : Nat → Nat → Nat
  | 0, r => r
  | n + 1, r => rootBits k v n (if (r + 2 ^ n) ^ k ≤ v then r + 2 ^ n else r)

/-- The first 64 fractional bits of a number's k-th root. -/
def rootFrac (k p : Nat) : Word := BitVec.ofNat 64 (rootBits k (p * 2 ^ (64 * k)) 72 0)

/-- The round constants, and the initial value of SHA-384. -/
def shaK : List Word := primes80.map (rootFrac 3)
def shaInit : List Word := ((primes80.drop 8).take 8).map (rootFrac 2)

def rotr (x : Word) (n : Nat) : Word := x.rotateRight n

/-- The message schedule, newest word first: n words more. -/
def shaSchedule : Nat → List Word → List Word
  | 0, w => w
  | n + 1, w =>
    let g (i : Nat) : Word := w.getD i 0
    let s1 := rotr (g 1) 19 ^^^ rotr (g 1) 61 ^^^ (g 1 >>> 6)
    let s0 := rotr (g 14) 1 ^^^ rotr (g 14) 8 ^^^ (g 14 >>> 7)
    shaSchedule n ((s1 + g 6 + s0 + g 15) :: w)

/-- One round on the eight working words. -/
def shaRound (v : List Word) (kw : Word × Word) : List Word :=
  match v with
  | [a, b, c, d, e, f, g, h] =>
    let t1 := h + (rotr e 14 ^^^ rotr e 18 ^^^ rotr e 41) + ((e &&& f) ^^^ (~~~e &&& g)) + kw.1 + kw.2
    let t2 := (rotr a 28 ^^^ rotr a 34 ^^^ rotr a 39) + ((a &&& b) ^^^ (a &&& c) ^^^ (b &&& c))
    [t1 + t2, a, b, c, d + t1, e, f, g]
  | _ => v

/-- The compression of one block of 128 bytes. -/
def shaBlock (h : List Word) (block : List Nat) : List Word :=
  let ws := (numsFrom 0 16).map fun i =>
    ((block.drop (8 * i)).take 8).foldl (fun (acc : Word) b => acc * 256 + BitVec.ofNat 64 b) 0
  let sched := (shaSchedule 64 ws.reverse).reverse
  let v := (shaK.zip sched).foldl shaRound h
  h.zipWith (· + ·) v

/-- n blocks of a padded message. -/
def shaBlocks : Nat → List Nat → List Word → List Word
  | 0, _, h => h
  | n + 1, m, h => shaBlocks n (m.drop 128) (shaBlock h (m.take 128))

/-- The 48 bytes of the digest of a message, the first byte first. -/
def sha384 (msg : List Byte) : List Byte :=
  let n := msg.length
  let z := (128 - (n + 17) % 128) % 128
  let m := msg.map BitVec.toNat ++ [128] ++ List.replicate z 0 ++ (digits 1 16 (8 * n)).reverse
  let h := shaBlocks (m.length / 128) m shaInit
  (h.take 6).flatMap fun w => (bytesOf 8 w.toNat).reverse

end Sys2Proof.Machine
end

