-- ==== Sys2Proof/Machine/Dtu.lean ====
section
/-! DEFINITION. The DTU of a die: what a translation's end does to a request, the fault buffer, and the events
DTU_TRANSLATE, WALK_COMPLETE and STATION_REISSUE (R357 to R364, R368). -/

namespace Sys2Proof.Machine

/-- The access a request makes at the DTU (R359); proofs and launch-unit requests make none. -/
def ReqKind.access (r : Req) : Option Access :=
  match r.kind with
  | .fill _ => some .read
  | .merge => some .write
  | .streamRead _ _ => some .read
  | .streamWrite _ => some .write
  | .kindQuery => some (if r.b = 1 then .read else .write)
  | .amo _ _ => some .bankOp
  | .lrw => some .bankOp
  | .sch => some .bankOp
  | .rrel => some .bankOp
  | .enq _ => some .queueOp
  | .deq _ => some .queueOp
  | .inRead _ _ => some .read
  | .inWrite _ => some .write
  | .trq => some (if r.b = 0 then .read else .write)
  | .fetch => some .fetch
  | .migrate => some .locate
  | .copyRead _ => some .read
  | .copyWrite => some .write
  | .slotOp _ w => some (if w then .write else .read)
  | .unitRead => some .read
  | .unitWrite => some (if r.b = 1 then .bankOp else .write)
  | .proofPub => none
  | .proofWait => none
  | .proofTake => none
  | .proofTest => none
  | .proofRead => none
  | .proofAdvance => none
  | .prarm => none
  | .withdraw _ => none
  | .armWait _ => none
  | .armTake _ => none
  | .spawn => none
  | .spawnl => none
  | .dtu => none
  | .spls => none
  | .splr => none

/-- Whether a request is the guest's. -/
def ReqKind.isTrq : ReqKind → Bool
  | .trq => true
  | _ => false

/-- A request's authority. -/
def Req.authority (r : Req) : Who := { ctx := r.ctx, world := r.world, guest := r.kind.isTrq, front := r.front }

/-- ACC's bit of a request (R362): read, write, fetch, bank, guest from bit 4 down. -/
def Req.acc (r : Req) : BitVec 5 :=
  match ReqKind.access r with
  | some .read => if r.kind.isTrq then 1 else 16
  | some .write => if r.kind.isTrq then 1 else 8
  | some .fetch => 4
  | some .queueOp => 2
  | some .bankOp => 2
  | some .locate => 16
  | none => 16

/-- Adding 1 to a saturating 16-bit counter. -/
def satInc (c : BitVec 16) : BitVec 16 := if c = BitVec.allOnes 16 then c else c + 1

/-- The index of a context's and page's fault-buffer entry, and of a free entry. -/
def Die.fbFind (d : Die) (c page : Nat) : Option (Fin 8) :=
  (List.finRange 8).find? fun i => match d.fbuf[i] with
    | some e => e.ctx == c && e.page == page
    | none => false
def Die.fbFree (d : Die) : Option (Fin 8) := (List.finRange 8).find? fun i => (d.fbuf[i]).isNone

/-- The requests in the buffer's store. -/
def Die.fbCount (d : Die) : Nat := (d.fbuf.toList.map fun o => (o.map (·.reqs.length)).getD 0).sum

/-- Entry word 1 with an AGE (R362). -/
def FbEntry.word1 (e : FbEntry) (age : BitVec 32) : Word := BitVec.ofNat 64 (e.first.toNat * 2 ^ 32 + age.toNat)

/-- Entry word 0 (R362). -/
def FbEntry.word0 (e : FbEntry) : Word :=
  BitVec.ofNat 64 (2 ^ 63 + e.acc.toNat * 2 ^ 58 + e.page * 2 ^ 16 + e.ctx % 64 * 2 ^ 10 + min e.reqs.length 512)

/-- FIRST's 10 bits: DIE, ROW, COL. -/
def first10 (st : Nat) : BitVec 10 := BitVec.ofNat 10 (dieOf st * 256 + rowOf st * 16 + colOf st)

/-- Refusing a request to its station (R361). -/
def State.fbRefuse (s : State) (d n : Nat) (r : Req) : State :=
  let first := !(s.die d).dropped
  let s := s.modDie d fun x => { x with
    refusedCnt := satInc x.refusedCnt, dropped := true, refusedBy := addOnce x.refusedBy r.station }
  let s := s.modReq n fun r => { r with stage := .refused, joined := false }
  let s := s.modStation r.station fun (S : Station) => { S with refused := S.refused ++ [n] }
  if first then s.noteDropped d r.ctx else s

/-- Whether a grid has ended or is ending. -/
def State.gridStopped (s : State) (g : Nat) : Bool :=
  match s.gridOf g with
  | some gr => gr.st == .ending || gr.st == .faulted
  | none => false

/-- A kind query that gets no answer: the stores it served are dropped, and the kinds that other stores wait for are
asked for again. -/
def State.queryGone (s : State) (n : Nat) (r : Req) (served : Store → Bool) : State :=
  let page := gvaPage r.gva
  let s := (s.dropReqs [n]).modStation r.station fun S => { S with
    stores := S.stores.filter fun x => !(x.asks page && served x) }
  s.reask [(r.station, page)]

/-- A kind query that a load made gets no answer: the loads of its page that wait for the kind are sent as they are, and meet
themselves what the query met; stores that wait for the kind ask for it again (R212). -/
def State.loadsGo (s : State) (n : Nat) (r : Req) : State :=
  let page := gvaPage r.gva
  let s := s.dropReqs [n]
  let waits (q : Req) : Bool := q.kind == .fill false && q.stage == .toDtu && q.station == r.station && gvaPage q.gva == page
  let s : State := { s with reqs := s.reqs.map fun e => if waits e.2 then (e.1, { e.2 with b := 1 }) else e }
  s.reask [(r.station, page)]

/-- A request of an ended grid is removed without effect (R361). -/
def State.endedReq (s : State) (n : Nat) (r : Req) : State :=
  match r.kind with
  | .kindQuery => if r.b = 1 then s.loadsGo n r else s.queryGone n r fun x => x.grid == r.grid
  | _ => s.dropReqs [n]

/-- A NOTPRESENT result places the request in the fault buffer (R361). One of a context and page that have an entry
joins it; only one that needs an entry can be refused (log entry 65). COALESCED counts one that joins unless it counted it for
the walk (R388). -/
def State.fbEnter (s : State) (d n : Nat) : State :=
  match s.req n with
  | none => s
  | some r =>
    if s.gridStopped r.grid then s.endedReq n r else
    let page := gvaPage r.gva
    let D := s.die d
    match D.fbFind r.ctx page with
    | some i =>
      let s := s.modReq n fun r => { r with stage := .buffered i, joined := false }
      s.modDie d fun x => { x with
        coalesced := if r.joined then x.coalesced else x.coalesced + 1
        fbuf := x.fbuf.set i (x.fbuf[i].map fun e => { e with acc := e.acc ||| r.acc, reqs := e.reqs ++ [n] }) }
    | none =>
      match D.fbFree with
      | none => s.fbRefuse d n r
      | some i =>
        if 512 ≤ D.fbCount then s.fbRefuse d n r
        else
          let e : FbEntry := { acc := r.acc, page := page, ctx := r.ctx, reqs := [n], first := first10 r.station,
                               order := D.fbOrder }
          match s.devEnqueue s.cfg.pagerGva[(Fin.ofNat 4 d)]
              (notice 1 i.val r.ctx r.acc (page * 65536) (e.word1 0).toNat) with
          | none => s.fbRefuse d n r
          | some x =>
            (x.1.modReq n fun r => { r with stage := .buffered i, joined := false }).modDie d fun x => { x with
              faultsCnt := x.faultsCnt + 1, fbOrder := x.fbOrder + 1, fbuf := x.fbuf.set i (some e) }

/-- Whether a master that was frozen with a code goes into a freeze record of its own for a refusal: one that a
refusal froze has its record; one that FREEZE froze has none that names a refusal (log entry 66). -/
def refreezes (o : Option Cause) : Bool :=
  match o with
  | none => true
  | some c => c == 0x2F1

/-- Freezing the strand with a tag, in whatever slot it holds, with a freeze record (R368). -/
def State.freezeTag (s : State) (tag k g : Nat) (code : Cause) (addr : Word) : State :=
  match s.strands.find? fun e => e.2.tag == tag with
  | some e => if refreezes e.2.frozen then s.freezeSlot e.1 code addr else s
  | none =>
    let s := s.addRecord (dieOf (stationOf k)) (s.slotRecord k code 2 0 g 0 addr 0)
    { s with saved := s.saved.map fun v =>
        match v with
        | .slot a b t c => .slot a b (if t.tag = tag then { t with frozen := some code } else t) c
        | .chord a c ts b d e =>
          .chord a c (ts.map fun x => (x.1, if x.2.tag = tag then { x.2 with frozen := some code } else x.2)) b d e }

/-- The tag of the strand in a slot. -/
def State.tagAt (s : State) (k : Nat) : Nat := ((s.slot k).map (·.tag)).getD 0

/-- Freezing the strand of a grid in the slot that wrote a refused byte (R359). A strand that has left the slot is
named by its grid alone. -/
def State.freezeWriter (s : State) (k g : Nat) (code : Cause) (addr : Word) : State :=
  match s.slot k with
  | some t =>
    if t.grid = g then s.freezeTag t.tag k g code addr
    else s.addRecord (dieOf (stationOf k)) (s.slotRecord k code 2 0 g 0 addr 0)
  | none => s.addRecord (dieOf (stationOf k)) (s.slotRecord k code 2 0 g 0 addr 0)

/-- Freezing each writer of a list of slots and grids. -/
def State.freezeWriters (s : State) (code : Cause) (addr : Word) : List (Nat × Nat) → State
  | [] => s
  | (k, g) :: l => (s.freezeWriter k g code addr).freezeWriters code addr l

/-- A completion of an inbound read with Unsupported Request. -/
def State.completeUR (s : State) (func n : Nat) : State :=
  { s with pcie := s.pcie ++ [.completion func n 0 .unsupported] }

/-- Whether a request is an access of the front end or a launch unit. -/
def ReqKind.isUnit : ReqKind → Bool
  | .unitRead => true
  | .unitWrite => true
  | _ => false

/-- Changing the entry of a station's copy queue with a number. -/
def State.modCopy (s : State) (st n : Nat) (f : CItem → CItem) : State :=
  let g (i : CItem) : CItem := if i.n = n then f i else i
  s.modStation st fun S => { S with cpy := { S.cpy with queue := S.cpy.queue.map g, handlerQ := S.cpy.handlerQ.map g } }

/-- Whether a copy engine's request is for a host command's transfer. -/
def State.hostCopy (s : State) (r : Req) : Bool :=
  let S := (s.station r.station).cpy
  (S.queue ++ S.handlerQ).any fun i => decide (i.n = r.age) && i.host.isSome

/-- A refusal of a copy engine's access: the engine freezes, and the entry is not performed again (R381); a host command's
transfer ends by the refusal, which its entry finds when it is performed again (R244). -/
def State.refuseCopy (s : State) (r : Req) (code : Cause) : State :=
  if s.hostCopy r then s.modCopy r.station r.age fun i => { i with failed := some (code, r.gva) }
  else
    let s := s.modCopy r.station r.age fun i => { i with refused := true }
    if refreezes (s.station r.station).cpy.frozen then s.freezeCopy r.station code r.grid r.gva else s

/-- A deferred fault of a copy engine's access ends its grid, or a host command's transfer. -/
def State.faultCopy (s : State) (r : Req) (code : Cause) : State :=
  if s.hostCopy r then s.modCopy r.station r.age fun i => { i with failed := some (code, r.gva) }
  else s.faultDeferred r.grid code 2 r.slot r.gva

/-- A refusal on a function's inbound path freezes it. -/
def State.refuseFunc (s : State) (d func : Nat) (code : Cause) (addr : Word) : State :=
  if refreezes ((tblGet s.windows func).bind (·.frozen)) then s.freezeFunc d func code addr else s

/-- The stores a kind query serves: those of its authority that wait for the page's kind. -/
def State.queryServes (s : State) (r : Req) : List Store :=
  (s.station r.station).stores.filter fun x => x.asks (gvaPage r.gva) && x.who == { ctx := r.ctx, world := r.world }

/-- A refused line of an MLDW's image: the MLDW is dropped with its other reads, and not made again (R168, R381). -/
def State.latchRefused (s : State) (r : Req) : State :=
  let s := s.dropReqs ((s.reqs.filter fun e => e.2.tag == r.tag && e.2.src == 2 && e.2.kind == .fill false).map (·.1))
  let s := s.modStation r.station fun S => { S with eng := { S.eng with
    loading := S.eng.loading.filter fun t => t != r.tag } }
  s.modTag r.tag fun t => match t.hold with
    | .mldw _ => t.advance
    | _ => t

/-- A strand that is held for a request that is refused goes on past its instruction, or fetches again, once it is thawed
(R381). -/
def State.unhold (s : State) (n : Nat) (r : Req) : State :=
  s.modTag r.tag fun t =>
    if t.hold = .proof n then t.advance else if t.hold = .fetch n then { t with hold := .none } else t

/-- The front end's wait on a proof of another package, which no refusal or fault drops: the WAIT ends with it (R279). -/
def Req.frontWait (r : Req) : Bool := r.kind == .proofWait && r.src == 6

/-- The source of the poison code that a bank operation's register takes (R225). -/
def ReqKind.poisonSrc : ReqKind → Nat
  | .enq _ => 1
  | .deq _ => 1
  | .sch => 4
  | .rrel => 4
  | _ => 0

/-- The code with which the register that a refused load marks faults (R123, R368). -/
def Req.markCode (r : Req) : Cause :=
  poisonCode (match r.kind with
    | .fill _ => r.src
    | k => k.poisonSrc) 0

/-- A refusal of a request freezes its master (R359, R368): every slot that wrote a byte of a merge; the issuing
slot, whose destination is written full and poisoned, or whose read-stream word is delivered poisoned; a function's inbound path; the guest, whose TRQ is answered REFUSED
(R372). A kind query refused has the effect of the refusal of the stores it serves (R212). A prefetch is discarded (R221).
The request of another package is answered with the code, and its master is frozen there (R258). -/
def State.refuseReq (s : State) (n : Nat) (r : Req) (code : Cause) : State :=
  match r.from_ with
  | some f => (s.delReq n).reply f 0 code
  | none =>
  if r.frontWait then s.modReq n fun (r : Req) => { r with stage := .replied false code } else
  let held := r.kind.isUnit || r.kind == .kindQuery
  let s := if held then s else s.delReq n
  let poisonRes (s : State) : State := match r.res with
    | some i => s.deliverPoison i r.markCode
    | none => s
  match r.kind with
  | .unitRead => s.modReq n fun (r : Req) => { r with stage := .replied false code }
  | .unitWrite => s.modReq n fun (r : Req) => { r with stage := .replied false code }
  | .fill true => s
  | .merge => s.freezeWriters code r.gva r.writers
  | .kindQuery =>
    if r.b = 1 then s.loadsGo n r else
    let l := s.queryServes r
    (s.queryGone n r fun x => l.contains x).freezeWriters code r.gva (l.map fun x => (x.slot, x.grid)).eraseDups
  | .inRead f n => (s.refuseFunc (gvaDie r.gva) f code r.gva).completeUR f n
  | .inWrite f => s.refuseFunc (gvaDie r.gva) f code r.gva
  | .trq =>
    let s : State := { s with guest := { s.guest with out := s.guest.out ++ [.trsStatus (gvaPage r.gva) true] } }
    if code = 0 then s else s.freezeGuest code r.gva 0
  | .copyRead _ => s.refuseCopy r code
  | .copyWrite => s.refuseCopy r code
  | .streamRead q n => (s.modTag r.tag fun t => t.putLines q n 0 4 true).freezeTag r.tag r.slot r.grid code r.gva
  | .fill false =>
    (if r.src = 2 then s.latchRefused r else poisonRes s).freezeTag r.tag r.slot r.grid code r.gva
  | .slotOp p _ =>
    let parent := s.req p
    match parent.bind (·.from_) with
    | some f => (s.dropReqs [p]).reply f 0 code
    | none =>
      let s := match parent.bind (·.res) with
        | some i => s.deliverPoison i (poisonCode 1 0)
        | none => s
      (s.dropReqs [p]).freezeTag r.tag r.slot r.grid code r.gva
  | _ => ((poisonRes s).unhold n r).freezeTag r.tag r.slot r.grid code r.gva

/-- One slot for each grid that wrote bytes of a merge; a request with no such list is its own grid's. -/
def Req.writerGrids (r : Req) : List (Nat × Nat) :=
  if r.writers.isEmpty then [(r.slot, r.grid)]
  else r.writers.foldl (fun l p => if l.any (fun q => q.2 == p.2) then l else l ++ [p]) []

/-- A deferred fault of a write is the fault of each grid that wrote its bytes. -/
def State.faultWriters (s : State) (r : Req) (code : Cause) (master : Fin 8) (addr : Word) : State :=
  r.writerGrids.foldl (fun s p => s.faultDeferred p.2 code master p.1 addr) s

/-- A deferred fault of translation discards the request; what it would fill stays empty (R357). A request
of no grid is recorded; an inbound read completes as Unsupported Request; a TRQ is answered NOTPRESENT when the pager fails
its page, and REFUSED otherwise (R372). A merge is the fault of each grid that wrote its bytes. The request of another package
is answered with the code (R258). -/
def State.faultReq (s : State) (n : Nat) (r : Req) (code : Cause) : State :=
  match r.from_ with
  | some f => (s.delReq n).reply f 0 code
  | none =>
  if r.frontWait then s.modReq n fun (r : Req) => { r with stage := .replied false code } else
  let held := r.kind.isUnit || r.kind == .kindQuery
  let s := if held then s else s.delReq n
  match r.kind with
  | .unitRead => s.modReq n fun (r : Req) => { r with stage := .replied false code }
  | .unitWrite => s.modReq n fun (r : Req) => { r with stage := .replied false code }
  | .fill true => s
  | .kindQuery =>
    if r.b = 1 then s.loadsGo n r else
    let l := s.queryServes r
    ((l.map fun x => (x.slot, x.grid)).eraseDups).foldl
      (fun s p => s.faultDeferred p.2 code (masterOf r.src) p.1 r.gva) (s.queryGone n r fun x => l.contains x)
  | .inRead f n => (s.faultDeferred r.grid code 3 r.slot r.gva).completeUR f n
  | .inWrite _ => s.faultDeferred r.grid code 3 r.slot r.gva
  | .trq => { s with guest := { s.guest with out := s.guest.out ++ [.trsStatus (gvaPage r.gva) (code != causeOf 6 7 0)] } }
  | .slotOp p _ =>
    (match (s.req p).bind (·.from_) with
      | some f => (s.dropReqs [p]).reply f 0 code
      | none => (s.dropReqs [p]).faultDeferred r.grid code 5 r.slot r.gva)
  | .copyRead _ => s.faultCopy r code
  | .copyWrite => s.faultCopy r code
  | .merge => s.faultWriters r code (masterOf r.src) r.gva
  | _ => s.faultDeferred r.grid code (masterOf r.src) r.slot r.gva

/-! ### The guest's translations (R372 to R374) -/

/-- One INV with the directory entries it takes away. -/
def State.sendInv (s : State) (ctx : Nat) (page : Option Nat) (old : List DirEntry) : State :=
  let g := s.guest
  { s with guest := { g with
      dir := g.dir.filter fun e => !old.contains e
      invs := g.invs ++ [{ id := g.nextInv, ctx := ctx, page := page, old := old }]
      nextInv := g.nextInv + 1
      out := g.out ++ [.inv g.nextInv ctx page] } }

/-- The guest-port address of a location's 64 KiB frame (R372, R360). -/
def guestFrame : Loc → Word
  | .lp6 die pa => BitVec.ofNat 64 (die * 2 ^ 50 + 2 * 2 ^ 48 + pa / 2 ^ 16 * 2 ^ 16)
  | .plate st off => BitVec.ofNat 64 (dieOf st * 2 ^ 50 + 2 ^ 48 + rowOf st * 2 ^ 40 + colOf st * 2 ^ 36 + off / 2 ^ 16 * 2 ^ 16)
  | .shared st off =>
    BitVec.ofNat 64 (dieOf st * 2 ^ 50 + 2 ^ 48 + rowOf st * 2 ^ 40 + colOf st * 2 ^ 36 + 2 ^ 22 + off / 2 ^ 16 * 2 ^ 16)
  | .pcie _ => 0

/-- Whether a translation succeeds now. -/
def State.allows (s : State) (w : Who) (g : Word) (a : Access) : Bool :=
  match s.translate w g a with
  | .ok _ _ => true
  | .notPresent => false
  | .fault _ => false
  | .refused _ => false

/-- TRS: the translation enters the directory, whose oldest entry makes room with an INV. -/
def State.sendTrs (s : State) (r : Req) (l : Loc) : State :=
  let page := gvaPage r.gva
  let e : DirEntry := { ctx := r.ctx, page := page, frame := guestFrame l, r := s.allows r.authority r.gva .read,
                        w := s.allows r.authority r.gva .write }
  let s : State := { s with guest := { s.guest with dir := s.guest.dir.filter fun x => !(x.ctx == r.ctx && x.page == page) } }
  let s := match s.guest.dir with
    | x :: _ => if 4096 ≤ s.guest.dir.length then s.sendInv x.ctx (some x.page) [x] else s
    | [] => s
  { s with guest := { s.guest with dir := s.guest.dir ++ [e], out := s.guest.out ++ [.trs page e.frame e.r e.w] } }

/-! ### Requests to other packages (R42, R214, R258, R406) -/

/-- What a request asks of a home in another package; none for a request that no other package serves. -/
def Req.flitOp (r : Req) : Option FlitOp :=
  match r.kind with
  | .fill pf => some (.fill pf)
  | .merge => some (.write true)
  | .streamRead _ _ => some (.read (64 * r.b.toNat))
  | .streamWrite _ => some (.write false)
  | .kindQuery => some .kindQuery
  | .amo op dbl => some (.atomic op dbl)
  | .lrw => some .lrw
  | .sch => some .sch
  | .rrel => some .rrel
  | .enq nw => some (.enq nw)
  | .deq nw => some (.deq nw)
  | .proofPub => some .publish
  | .proofWait => some .wait
  | .proofTake => some .take
  | .proofTest => some .test
  | .proofRead => some .readGen
  | .proofAdvance => some .advance
  | .withdraw _ => some .withdraw
  | .prarm => some .check
  | .armWait _ => some .armWait
  | .armTake _ => some .armTake
  | .inRead _ n => some (.read n)
  | .inWrite _ => some (.write false)
  | .fetch => some .fetch
  | .copyRead n => some (.read n)
  | .copyWrite => some (.write false)
  | .slotOp _ w => some (if w then .write false else .read 64)
  | .unitRead => some (.read r.b.toNat)
  | .unitWrite => some (if r.b = 1 then .atomic 0 true else .write false)
  | .dtu => some .dtu
  | .trq => none
  | .spawn => none
  | .spawnl => none
  | .migrate => none
  | .spls => none
  | .splr => none

/-- The ring position that a request is for: a proof's is in its handle, a DTU operation's in its word. -/
def Req.ringDest (r : Req) : Nat :=
  match r.kind with
  | .proofPub => bits r.gva 55 50
  | .proofWait => bits r.gva 55 50
  | .proofTake => bits r.gva 55 50
  | .proofTest => bits r.gva 55 50
  | .proofRead => bits r.gva 55 50
  | .proofAdvance => bits r.gva 55 50
  | .withdraw _ => bits r.gva 55 50
  | .prarm => bits r.gva 55 50
  | .armWait _ => bits r.gva 55 50
  | .armTake _ => bits r.gva 55 50
  | _ => gvaPkg r.gva

/-- Whether the String port by which flits for a ring position leave has failed (R406). -/
def State.broken (s : State) (dest : Nat) : Bool :=
  if Config.routeEast s.cfg.ringN s.cfg.pkg dest then s.eastDown else s.westDown

/-- Whether a request is a fill. -/
def ReqKind.isFill : ReqKind → Bool
  | .fill _ => true
  | _ => false

/-- The request as it crosses the String. A fill names the bytes that its instruction lacks. -/
def State.flitOf (s : State) (n : Nat) (r : Req) (op : FlitOp) : FlitReq :=
  { pkg := s.cfg.pkg, station := r.station, id := n, tag := r.tag, ctx := r.ctx, world := r.world, grid := r.grid, op := op, gva := r.gva,
    a := r.a, b := r.b, mask := if r.kind.isFill then maskOf (s.fillWants r) else r.mask, data := r.data, poisoned := r.bad }

/-- A request leaves on the String; across a break of the ring it takes LINKFAIL at the requester (R214, R406). -/
def State.sendAway (s : State) (n : Nat) : State :=
  match s.req n with
  | none => s
  | some r =>
    if s.broken r.ringDest then s.faultReq n r (causeOf 14 r.src 1)
    else
      let s := s.modReq n fun (r : Req) => { r with stage := .remote }
      match r.flitOp with
      | some op => { s with string := s.string ++ [.request r.ringDest (s.flitOf n r op)] }
      | none => s

/-- A new request that leaves at once. -/
def State.addAway (s : State) (r : Req) : State := (s.addReq r).sendAway s.nextId

/-- Whether a request is for a page of a context. -/
def Req.onPage (r : Req) (ctx page : Nat) : Bool := r.ctx == ctx && gvaPage r.gva == page

/-- Whether the DTU holds an earlier request for the page of this one, which it keeps behind it (R361, R390): one held there has its
place in `sent`. -/
def State.pageHeld (s : State) (n : Nat) (r : Req) : Bool :=
  s.reqs.any fun e => e.1 != n && e.2.stage == .toDtu && e.2.sent != 0 && e.2.onPage r.ctx (gvaPage r.gva) &&
    (r.sent == 0 || decide (e.2.sent < r.sent))

/-- The DTU sends a request on to its home (R390), or holds it behind one that is sent before it. -/
def State.sendOn (s : State) (n : Nat) (l : Loc) : State :=
  let later : Bool := match s.req n with
    | some r => s.sentLater r || s.pageHeld n r
    | none => false
  let put (r : Req) : Req :=
    if later then { r with stage := .toDtu, joined := false, sent := if r.sent = 0 then s.nextId else r.sent }
    else { r with stage := .translated l, joined := false, sent := s.nextId }
  { s.modReq n put with nextId := s.nextId + 1 }

/-- A prefetch is discarded; another package's is answered as one of a host-window page, which installs nothing (R221). -/
def State.dropPref (s : State) (n : Nat) (r : Req) : State :=
  match r.from_ with
  | some f => (s.delReq n).reply f 0 0 3
  | none => s.delReq n

/-- A translation's end for a request. The accesses that are made at once when their pages translate (a fetch, a
read-stream word, a copy engine's, a unit's) are then made afresh. -/
def State.applyXlat (s : State) (d n : Nat) (x : Xlat) : State :=
  match s.req n with
  | none => s
  | some r =>
    match x with
    | .ok l k =>
      if r.from_.isSome then s.sendOn n l else
      match r.kind with
      | .fill true => if k = 3 then s.delReq n else s.sendOn n l
      | .trq => if k = 3 then s.refuseReq n r 0 else (s.delReq n).sendTrs r l
      | .streamRead _ _ => s.delReq n
      | .copyRead _ => s.delReq n
      | .copyWrite => s.delReq n
      | .slotOp _ _ => s.delReq n
      | .unitRead => s.delReq n
      | .unitWrite => s.delReq n
      | .fetch => (s.delReq n).modTag r.tag fun t => { t with hold := .none }
      | _ => s.sendOn n l
    | .notPresent =>
      match r.kind with
      | .fill true => s.dropPref n r
      | _ => s.fbEnter d n
    | .fault c => s.faultReq n r (c r.src)
    | .refused c => s.refuseReq n r (c r.src)

/-- The lines that the guest's cache must give up before a walk can end: the table entries it reads, and, when it finds the page not
present, what the notification of the pager touches (R213, R361). -/
def State.walkLines (s : State) (d : Nat) (e : CtxEntry) (w : Who) (g : Word) : List Nat :=
  s.walkHeld d e g ++
  match s.walkBy d e w g with
  | .notPresent => s.devLines s.cfg.pagerGva[(Fin.ofNat 4 d)]
  | _ => []

/-- Whether a translation at once would have to wait for the guest. -/
def State.walkWaits (s : State) (d : Nat) (w : Who) (g : Word) : Bool :=
  ((s.die d).tlbHit w.ctx g).isNone && !(s.walkLines d ((s.die d).ctxEntry w.ctx) w g).isEmpty

/-- A request starts the walk for its page (R358). -/
def State.startWalk (s : State) (n : Nat) (r : Req) : State :=
  let d := gvaDie r.gva
  let s := s.modReq n fun (r : Req) => { r with stage := .walking }
  s.modDie d fun (x : Die) => { x with
    walks := x.walks ++ [({ ctx := r.ctx, page := gvaPage r.gva, entry := x.ctxEntry r.ctx, reqs := [n] } : Walk)] }

/-- Translating a request afresh (R364). -/
def State.retranslate (s : State) (d n : Nat) : State :=
  match s.req n with
  | none => s
  | some r =>
    match ReqKind.access r with
    | none => s
    | some a =>
      if s.walkWaits d r.authority r.gva then s.startWalk n r else s.applyXlat d n (s.translate r.authority r.gva a)

/-! ### Requests that wait for one another (R207, R211, R358, R361) -/

/-- Whether a station keeps a refused request to a page. -/
def State.keepsRefused (s : State) (st ctx page : Nat) : Bool :=
  (s.station st).refused.any fun m => ((s.req m).map fun q => q.onPage ctx page).getD false

/-- Whether a walk for a page is under way. -/
def Die.walking (d : Die) (ctx page : Nat) : Bool := d.walks.any fun w => w.ctx == ctx && w.page == page

/-- Whether an access of a station must wait behind earlier ones of its page: the station keeps one, the fault buffer holds
one, or a walk is under way. -/
def State.pageBusy (s : State) (st ctx : Nat) (g : Word) : Bool :=
  let D := s.die (gvaDie g)
  s.keepsRefused st ctx (gvaPage g) || (D.fbFind ctx (gvaPage g)).isSome || D.walking ctx (gvaPage g)

/-- A request goes behind those of its page; none when it is the first. A prefetch that would wait for a page is discarded, and
one that joins a walk is counted nowhere (R221). -/
def State.joinPage (s : State) (n : Nat) (r : Req) : Option State :=
  let d := gvaDie r.gva
  let page := gvaPage r.gva
  if r.kind = .fill true then
    if s.keepsRefused r.station r.ctx page || ((s.die d).fbFind r.ctx page).isSome then some (s.dropPref n r)
    else if (s.die d).walking r.ctx page then
      some ((s.modReq n fun (r : Req) => { r with stage := .walking }).modDie d fun (x : Die) => { x with
        walks := x.walks.map fun w => if w.ctx = r.ctx ∧ w.page = page then { w with reqs := w.reqs ++ [n] } else w })
    else none
  else if s.keepsRefused r.station r.ctx page then
    some ((s.modReq n fun (r : Req) => { r with stage := .refused }).modStation r.station fun (S : Station) =>
      { S with refused := S.refused ++ [n] })
  else if ((s.die d).fbFind r.ctx page).isSome then some (s.fbEnter d n)
  else if (s.die d).walking r.ctx page then
    some ((s.modReq n fun (r : Req) => { r with stage := .walking, joined := true }).modDie d fun (x : Die) => { x with
      coalesced := x.coalesced + 1
      walks := x.walks.map fun w => if w.ctx = r.ctx ∧ w.page = page then { w with reqs := w.reqs ++ [n] } else w })
  else none

/-- An access that is made at once translates unless it must wait, which the answer NOTPRESENT stands for. -/
def State.translateBehind (s : State) (st : Nat) (w : Who) (g : Word) (a : Access) : Xlat :=
  if s.pageBusy st w.ctx g || s.walkWaits (gvaDie g) w g then .notPresent else s.translate w g a

/-- Such an access becomes a request, behind those of its page, in a walk of its own, or in the fault buffer. -/
def State.enterPage (s : State) (r : Req) : State :=
  let n := s.nextId
  let s := s.addReq r
  (s.joinPage n r).getD
    (if s.walkWaits (gvaDie r.gva) r.authority r.gva then s.startWalk n r else s.fbEnter (gvaDie r.gva) n)

/-- Whether an earlier line write of the same write stream is outstanding (R207). -/
def State.streamBehind (s : State) (r : Req) : Bool :=
  match r.kind with
  | .streamWrite q => s.reqs.any fun e => e.2.streamOf r.tag q && e.2.kind.isStreamWrite && decide (e.2.order < r.order)
  | _ => false

/-- Whether an earlier posted write of the same requester is not yet held; a write with Relaxed Ordering (`b` = 1) waits for
none (R211). -/
def State.inboundBehind (s : State) (r : Req) : Bool :=
  let f? : Option Nat := match r.kind with
    | .inWrite f => some f
    | .inRead f _ => some f
    | _ => none
  f?.isSome && r.b != 1 && s.reqs.any fun e => (match e.2.kind with
    | .inWrite g => f? == some g
    | _ => false) && decide (e.2.order < r.order)

/-- Whether a load's fill of a line in another package must wait: the page's kind is to be learnt first, unless the query for it
was refused, and a host-window read follows the station's host-window stores (R212). -/
def State.fillWaits (s : State) (r : Req) : Bool :=
  match r.kind with
  | .fill false =>
    match tblGet (s.station r.station).kinds (gvaPage r.gva) with
    | none => r.b != 1
    | some k => k == 3 && s.hostStoreBefore r.station r.age
  | _ => false

/-- Whether a request is a fill or a merge, which read or write one line of L1. -/
def ReqKind.ofLine : ReqKind → Bool
  | .fill _ => true
  | .merge => true
  | _ => false

/-- Whether an earlier request to another package leaves before this one to the same: of one station the writes and far atomics in
the order sent (R214) and the fills and merges of one line (R193), of one strand the fills and far atomics (R202). -/
def Req.leavesBefore (a b : Req) : Bool :=
  decide (a.order < b.order) && a.stage == .toDtu && gvaPkg a.gva == gvaPkg b.gva &&
  ((a.station == b.station && a.kind.carries && b.kind.carries) ||
    (a.station == b.station && a.kind.ofLine && b.kind.ofLine && a.gva.toNat / 64 == b.gva.toNat / 64) ||
    (a.tag == b.tag && a.kind.ordered && b.kind.ordered))

/-- Whether a request to another package must wait before it leaves: for earlier ones of its stream, requester, station or strand
(R193, R202, R207, R211, R214). -/
def State.leavesLater (s : State) (r : Req) : Bool :=
  s.streamBehind r || s.inboundBehind r || s.fillWaits r || s.reqs.any fun e => e.2.leavesBefore r

/-- The kind of a load's page in another package is asked for, once (R212): a read of the page, with `b` = 1. -/
def State.askKind (s : State) (r : Req) : State :=
  match r.kind with
  | .fill false =>
    if (tblGet (s.station r.station).kinds (gvaPage r.gva)).isNone && r.b != 1 && !s.kindAsked r.station (gvaPage r.gva) then
      s.addReq { kind := .kindQuery, b := 1, tag := r.tag, slot := r.slot, station := r.station, grid := r.grid, ctx := r.ctx,
                 world := r.world, gva := r.gva, pc := r.pc, src := r.src }
    else s
  | _ => s

/-- Whether a reissue of the request's station has sent an earlier one to its page that has not arrived (R361). -/
def State.reissuedBefore (s : State) (r : Req) : Bool :=
  s.reqs.any fun e => e.2.stage == .toDtu && e.2.station == r.station && e.2.onPage r.ctx (gvaPage r.gva) && e.2.turn != 0 &&
    (r.turn == 0 || decide (e.2.turn < r.turn))

/-- DTU_TRANSLATE (R357, R358, R361): a request reaches the owning DTU. One for a page with waiting requests
waits behind them; a station that keeps a refused request to the page keeps this one behind it; a TLB hit is used;
otherwise the request joins the walk for its page or starts one. Another package's address leaves on the String. -/
def execDtuTranslate (req : Nat) (s : State) : Out :=
  .next (match s.req req with
    | none => s
    | some r =>
      match r.stage, ReqKind.access r with
      | .toDtu, some a =>
        let d := gvaDie r.gva
        if gvaPkg r.gva ≠ s.cfg.pkg then if s.leavesLater r then s.askKind r else s.sendAway req
        else if s.reissuedBefore r then s
        else
          let s := s.modReq req fun (r : Req) => { r with turn := 0 }
          match s.joinPage req r with
          | some s' => s'
          | none =>
            match (s.die d).tlbHit r.ctx r.gva with
            | some (p, big) => s.applyXlat d req (s.useLeaf d r.authority r.gva a p big)
            | none => s.startWalk req r
      | _, _ => s)

/-- Serving the requests of a walk in arrival order. -/
def State.endWalk (s : State) (d : Nat) (e : WalkEnd) : List Nat → State
  | [] => s
  | n :: rest =>
    let s' := match s.req n with
      | none => s
      | some r =>
        match ReqKind.access r with
        | none => s
        | some a => s.applyXlat d n (s.useWalk d r.authority r.gva a e)
    s'.endWalk d e rest

/-- WALK_COMPLETE (R353, R357, R358): the walk goes by the context-table entry it started from; a leaf is kept in the TLB, whose
oldest entry makes room (log entry 12). It waits for lines that the guest's cache holds (R213). -/
def execWalkComplete (die ctx page : Nat) (s : State) : Out :=
  .next (match (s.die die).walks.find? fun w => w.ctx == ctx && w.page == page with
    | none => s
    | some w =>
      let g : Word := BitVec.ofNat 64 (page * 65536)
      let world := ((w.reqs.findSome? fun n => s.req n).map (·.world)).getD false
      match s.recallLines true (s.walkLines die w.entry { ctx := ctx, world := world } g).eraseDups with
      | some s' => s'
      | none =>
      let e := s.walkBy die w.entry { ctx := ctx, world := world } g
      let s := s.modDie die fun x => { x with walks := x.walks.filter fun w => !(w.ctx == ctx && w.page == page) }
      let s := match e with
        | .leaf p big =>
          s.modDie die fun x =>
            let l := if x.tlb.length < 16384 then x.tlb else x.tlb.drop 1
            { x with tlb := l ++ [({ ctx := ctx, page := page, leaf := p, big := big } : TlbEntry)] }
        | .notPresent => s
        | .noCtx => s
        | .badPte => s
        | .poison => s
      s.endWalk die e w.reqs)

/-- STATION_REISSUE (R361, R378): a station sends its kept requests again, in their order. -/
def execStationReissue (station : Nat) (s : State) : Out :=
  .next (if (s.station station).reissue then
      let gone := (s.station station).refused
      let s := s.modStation station fun S => { S with refused := [], reissue := false }
      gone.foldl (fun s n => { s.modReq n fun r => { r with stage := .toDtu, turn := s.nextId + 1 } with nextId := s.nextId + 1 }) s
    else s)

end Sys2Proof.Machine
end

