-- ==== Sys2Proof/Machine/ProofOps.lean ====
section
/-! DEFINITION. Proofs at their homes: handles, records, publication, waits, takes and the advance (R247 to R255,
R259, R263). -/

namespace Sys2Proof.Machine

/-! ### Handles (R247, R248) -/

/-- An explicit handle by R247: FORM 1, reserved bits zero, PKG below N. -/
def handleOk (c : CfgTable) (h : Word) : Bool :=
  bits h 63 62 == 1 && bits h 61 56 == 0 && decide (bits h 55 50 < c.ringN) && bits h 47 36 == 0

/-- The package, die, ID and generation of a handle. -/
def hPkg (h : Word) : Nat := bits h 55 50
def hDie (h : Word) : Nat := bits h 49 48
def hId (h : Word) : Nat := bits h 35 16
def hGen (h : Word) : BitVec 16 := BitVec.ofNat 16 (bits h 15 0)

/-- The key of a handle's proof, and the key of an ID on a die. -/
def proofKey (die id : Nat) : Nat := die * 2 ^ 20 + id
def hKey (h : Word) : Nat := proofKey (hDie h) (hId h)

/-- The detail with which a handle that must be explicit fails: a list form is BADARG, a malformed one BADHANDLE (R247, R259). -/
def explicitBad (c : CfgTable) (h : Word) : Option Nat :=
  if bits h 63 62 = 0 then some 4 else if handleOk c h then none else some 2

/-- The explicit handle of an ID (R247). -/
def handleOf (pkg die id : Nat) (gen : BitVec 16) : Word :=
  BitVec.ofNat 64 (2 ^ 62 + pkg * 2 ^ 50 + die * 2 ^ 48 + id * 2 ^ 16 + gen.toNat)

/-- The home slice of a proof (R249). -/
def hHome (h : Word) : Nat := stationAt (hDie h) (hId h / 16) (hId h)

/-- Resolution of a handle as a strand issues it: a list form through its grid's proof list; none is BADHANDLE
(R247, R248). -/
def State.resolve (s : State) (g : Nat) (h : Word) : Option Word :=
  if bits h 63 62 = 0 then
    if bits h 61 6 ≠ 0 then none
    else (s.gridOf g).bind fun gr => (gr.proofs[bits h 5 0]?).map (·.handle)
  else if handleOk s.cfg h then some h else none

/-! ### Records (R249, R253) -/

/-- Word 0 of a record (R249). -/
def Proof.word0 (p : Proof) : Word :=
  BitVec.ofNat 64 (p.valid.toNat * 2 ^ 63 + p.pub.toNat * 2 ^ 62 + p.world.toNat * 2 ^ 61 + p.res.toNat * 2 ^ 60 +
    p.ctx % 64 * 2 ^ 54 + p.takes.toNat * 2 ^ 32 + p.count.toNat * 2 ^ 16 + p.gen.toNat)

/-- δ of R253. -/
def genDelta (g gen : BitVec 16) : Int := (g - gen).toInt

/-- Where the backing array of a proof's die holds its record (R251). -/
def State.backLoc (s : State) (key : Nat) : Loc :=
  .lp6 (key / 2 ^ 20) (s.cfg.backing[(Fin.ofNat 4 (key / 2 ^ 20))] + 16 * (key % 2 ^ 20))

/-- A record with the fields of its two words as a home reads them. Its residence never changes (R250). -/
def Proof.ofWords (p : Proof) (w0 w1 : Word) : Proof :=
  { p with
    valid := bit w0 63
    pub := bit w0 62
    world := bit w0 61
    ctx := if bits w0 59 54 = p.ctx % 64 then p.ctx else bits w0 59 54
    takes := BitVec.ofNat 16 (bits w0 47 32)
    count := BitVec.ofNat 16 (bits w0 31 16)
    gen := BitVec.ofNat 16 (bits w0 15 0)
    pubs := w1 }

/-- A proof's record as its home reads it: a resident one in the proof table, any other in the backing array (R251). -/
def State.proofGet (s : State) (key : Nat) : Option Proof :=
  let w (o : Nat) : Word := BitVec.ofNat 64 (s.homeNat ((s.backLoc key).plus o) 8)
  match tblGet s.proofs key with
  | some p => some (if p.res then p else p.ofWords (w 0) (w 8))
  | none => if bit (w 0) 63 then some (({ world := false, res := false, ctx := 0 } : Proof).ofWords (w 0) (w 8)) else none

/-- A proof's record takes a new value, which its home writes back (R251). -/
def State.putProof (s : State) (key : Nat) (p : Proof) : State :=
  let s : State := { s with proofs := tblPut s.proofs key p }
  if p.res then s
  else (s.writeBlock (s.backLoc key) ((bytesOf 8 p.word0.toNat ++ bytesOf 8 p.pubs.toNat).map fun b => (true, b))).1

/-- Whether a backing-store record's block is poisoned (R251, R405). -/
def State.backPoison (s : State) (key : Nat) (p : Proof) : Bool :=
  !p.res && ((s.backLoc key).key.bind s.poisonAt).isSome

/-- The detail a requester meets at a record before any comparison of generations: 3 NOPROOF, 5 BACKPOISON (R259). -/
def State.proofRefuse (s : State) (w : Who) (key : Nat) : Option Nat :=
  match s.proofGet key with
  | none => some 3
  | some p =>
    if s.backPoison key p then some 5
    else if !p.valid then some 3
    else if w.fw then none
    else if p.ctx = w.ctx ∧ p.world = w.world then none
    else some 3

/-- Changing a record. -/
def State.modProof (s : State) (key : Nat) (f : Proof → Proof) : State :=
  match s.proofGet key with
  | some p => s.putProof key (f p)
  | none => s

/-! ### Replies -/

/-- The class 8 code of a source and detail (R259). -/
def proofCode (src det : Nat) : Cause := causeOf 8 src det

/-- An operation's answer leaves the home (R254, R257, R260, R271): a strand's, a guest packet's or the front
end's request is answered, with the scope of the publication it observed; an engine's or a completion's publication is done, or
is a deferred fault that names the handle; an arming leaves the chord's registrations, or faults the grid. The request of
another package is answered over the String (R258). -/
def State.proofAnswer (s : State) (n : Nat) (ok : Bool) (det : Nat) (value : Word) : State :=
  match s.req n with
  | none => s
  | some r =>
    let code := proofCode r.src det
    match r.from_ with
    | some f => (s.delReq n).reply f (value.setWidth 2048) (if ok then 0 else code)
    | none =>
    match r.kind with
    | .proofPub =>
      if r.src = 0 then s.modReq n fun r => { r with stage := .replied ok code, a := value }
      else
        let s := s.delReq n
        match r.back with
        | some f => s.reply f 0 (if ok then 0 else code)
        | none => if ok then s else s.faultDeferred r.grid code (masterOf r.src) r.slot r.gva
    | .armWait st =>
      let s := s.delReq n
      if ok then s.modStation st fun S => { S with chord := S.chord.map fun c =>
          { c with regs := c.regs.filter fun e => e.1 != n } }
      else s.faultDeferred r.grid code 6 r.slot r.gva
    | .armTake st =>
      let s := s.delReq n
      if ok then s.modStation st fun S => { S with chord := S.chord.map fun c =>
          { c with regs := c.regs.filter fun e => e.1 != n } }
      else s.faultDeferred r.grid code 6 r.slot r.gva
    | _ =>
      let ring := ((s.proofGet (hKey r.gva)).map (·.ring)).getD false
      s.modReq n fun r => { r with stage := .replied ok code, a := value, ring := ring }

/-- Removing a waiter record. -/
def State.dropWaiter (s : State) (key n : Nat) : State :=
  s.modProof key fun p => { p with waiters := p.waiters.filter fun w => w.req != n }

/-- Whether a waiter waits for a publication, and whether it waits for a take. -/
def ReqKind.isWait : ReqKind → Bool
  | .proofWait => true
  | .armWait _ => true
  | _ => false

def ReqKind.isTake : ReqKind → Bool
  | .proofTake => true
  | .armTake _ => true
  | _ => false

/-- TAKES after a grant as PRTAKE returns it: all ones for an unlimited publication (R262). -/
def takeValue (p : Proof) : Word :=
  if p.count = 0 then BitVec.allOnes 64 else p.takes.setWidth 64

/-- Granting one take of a published record (R254, R255). -/
def Proof.granted (p : Proof) : Proof := if p.count = 0 then p else { p with takes := p.takes - 1 }

/-- Answering the recorded waits of a generation. -/
def State.answerWaits (s : State) (key : Nat) : List PWaiter → State
  | [] => s
  | w :: ws => ((s.dropWaiter key w.req).proofAnswer w.req true 0 0).answerWaits key ws

/-- Granting recorded takes in arrival order while takes are left (R255). -/
def State.answerTakes (s : State) (key : Nat) : List PWaiter → State
  | [] => s
  | w :: ws =>
    match s.proofGet key with
    | none => s
    | some p =>
      if p.pub && (p.count == 0 || p.takes != 0) then
        let q := p.granted
        (((s.modProof key fun _ => q).dropWaiter key w.req).proofAnswer w.req true 0 (takeValue q)).answerTakes key ws
      else s

/-- Failing the records of a generation with a detail. -/
def State.failWaiters (s : State) (key det : Nat) : List PWaiter → State
  | [] => s
  | w :: ws => ((s.dropWaiter key w.req).proofAnswer w.req false det 0).failWaiters key det ws

/-- A publication is performed on a record: it becomes current (R254). -/
def Proof.publish (p : Proof) (count : BitVec 16) (ring : Bool) : Proof :=
  { p with pub := true, count := count, takes := count, pubs := p.pubs + 1, ring := ring }

/-- The record after the advance of R255. -/
def Proof.advanced (p : Proof) : Proof := { p with gen := p.gen + 1, pub := false, count := 0, takes := 0, ring := false }

/-- The advance of R255, and a publication's service of waiters; `fuel` bounds the chain of held publications. The publications
held for the new generation are those that still stand once the old generation's records have failed. -/
def State.proofServe (s : State) (key : Nat) : Nat → Bool → State
  | 0, _ => s
  | fuel + 1, adv =>
    match s.proofGet key with
    | none => s
    | some p =>
      if adv then
        let s := (s.modProof key Proof.advanced).failWaiters key 0
          (p.waiters.filter fun w => w.gen == p.gen && (w.kind.isWait || w.kind.isTake))
        let held := (((s.proofGet key).map (·.waiters)).getD []).filter fun w => w.kind == .proofPub && w.gen == p.gen + 1
        match held with
        | [] => s
        | w :: ws =>
          match s.req w.req with
          | none => s
          | some r =>
            let s := (s.dropWaiter key w.req).modProof key fun p => p.publish (r.b.setWidth 16) r.from_.isSome
            ((s.proofAnswer w.req true 0 0).failWaiters key 1 ws).proofServe key fuel false
      else
        let s := s.answerWaits key (p.waiters.filter fun w => w.gen == p.gen && w.kind.isWait)
        let s := s.answerTakes key (p.waiters.filter fun w => w.gen == p.gen && w.kind.isTake)
        match s.proofGet key with
        | none => s
        | some q => if q.pub && q.count != 0 && q.takes == 0 then s.proofServe key fuel true else s

/-- The steps a chain of held publications can take. -/
def State.proofFuel (s : State) (key : Nat) : Nat :=
  2 * ((s.proofGet key).map (·.waiters.length)).getD 0 + 4

/-- The PRGEN advance (R255). -/
def State.proofAdvance (s : State) (key : Nat) : State := s.proofServe key (s.proofFuel key) true

/-- A publication that the record takes as current (R254). -/
def State.proofPublishNow (s : State) (key : Nat) (count : BitVec 16) (ring : Bool) : State :=
  let s := s.modProof key fun p => p.publish count ring
  s.proofServe key (s.proofFuel key) false

/-- The slice that holds a proof's waiter records has one free of its 128 (R252). -/
def State.waiterFree (s : State) (home : Nat) : Bool :=
  let n := (s.proofs.map fun e =>
    if stationAt (e.1 / 2 ^ 20) (e.1 % 2 ^ 20 / 16) (e.1 % 2 ^ 20) = home then e.2.waiters.length else 0).sum
  decide (n < 128)

/-- Whether a waiting request has a record. -/
def State.hasRecord (s : State) (n : Nat) : Bool := s.proofs.any fun e => e.2.waiters.any fun w => w.req == n

/-- The requests in a slice's inbound queue, as (place in arrival order, number) (R252). -/
def State.inboundProofs (s : State) (home : Nat) : List (Nat × Nat) :=
  (s.reqs.filter fun e => e.2.stage == .waiting && hHome e.2.gva == home && !s.hasRecord e.1).map fun e => (e.2.order, e.1)

/-- Recording a request at a proof; with every waiter record in use, or others in the inbound queue, it waits there in
order of arrival (R252). `again` for the oldest of that queue, performed afresh. -/
def State.recordWaiter (s : State) (n : Nat) (r : Req) (again : Bool) : State :=
  if s.waiterFree (hHome r.gva) && (again || (s.inboundProofs (hHome r.gva)).isEmpty) then
    (s.modReq n fun r => { r with stage := .waiting }).modProof (hKey r.gva) fun p =>
      { p with waiters := p.waiters ++ [{ req := n, kind := r.kind, gen := hGen r.gva }] }
  else if again then s
  else { s.modReq n fun r => { r with stage := .waiting, order := s.nextId } with nextId := s.nextId + 1 }

/-- The scope of a publication of a proof that this package makes (R209). -/
def State.pubScope (s : State) (h : Word) : Scope := if hPkg h = s.cfg.pkg then .package else .ring

/-- The scope of the publication that a request of this package observed (R209, R210). -/
def State.seenScope (s : State) (r : Req) : Scope := if r.ring then .ring else s.pubScope r.gva

end Sys2Proof.Machine
end

