-- ==== Sys2Proof/Machine/Action.lean ====
section
/-! DEFINITION. Messages (R313) and the completion actions of engine entries (R173, R209, R242, R261). -/

namespace Sys2Proof.Machine

/-! ### Destination words (R313) -/

/-- Whether a destination word has a reserved bit set. -/
def msgReserved (w : Word) : Bool := bits w 63 54 != 0 || bits w 47 43 != 0 || bits w 31 16 != 0 || bits w 7 0 != 0

/-- Whether a destination is a compute station of the sender's section, which lies in one package. -/
def State.msgReach (s : State) (ctx : Nat) (w : Word) : Bool :=
  bits w 53 48 == s.cfg.pkg && s.inSection ctx (stationOfWord w)

/-- The message a destination word and payload make. -/
def State.msgOf (s : State) (st grid sender : Nat) (xr : Bool) (w payload : Word) : Msg :=
  { payload := payload, mtag := BitVec.ofNat 8 (bits w 15 8), ps := bit w 42, xr := xr,
    src := BitVec.ofNat 22 (s.cfg.pkg * 2 ^ 16 + stationWord st / 2 ^ 32),
    serial := ((s.gridOf grid).map (·.serial)).getD 0, sender := sender }

/-- A message travels to its station, where it is held until the mailbox accepts it. The number is the holder tag
of a sender that waits, 0 for an engine. -/
def State.sendMsg (s : State) (w : Word) (waiter : Nat) (m : Msg) : State :=
  s.modStation (stationOfWord w) fun S => { S with mheld := S.mheld ++ [(waiter, m)] }

/-! ### Completion actions -/

/-- What an engine instruction captures of its completion action: a list form is resolved at issue; a handle that
cannot be resolved stays as it is, and fails when the action is performed (R261). -/
def State.captureAction (s : State) (t : Strand) (k : Compl) (b c : Word) : Action :=
  match k with
  | .none => .none
  | .pub => .pub ((s.resolve t.grid b).getD b) c s.nextAge
  | .msg => .msg b c t.xr

/-- Freezing the engine of a source: 2 the matrix engine, 3 the copy engine. -/
def State.freezeUnit (s : State) (src st : Nat) (code : Cause) (g : Nat) (addr : Word) : State :=
  if src = 2 then s.freezeEngine st code g addr else s.freezeCopy st code g addr

/-- Performing an action. `r` names the entry's station, strand, grid and context, and its number in `age`; a
publication goes to its home, or leaves for another package, when the writes older than its mark are held (R209). A malformed handle or count
word, or a destination outside the section, is a deferred fault (R259, R302). -/
def State.doAction (s : State) (r : Req) : Action → State
  | .none => s
  | .pub h count mark =>
    if !handleOk s.cfg h then s.faultDeferred r.grid (proofCode r.src 2) (masterOf r.src) r.slot h
    else if bits count 63 16 ≠ 0 then s.faultDeferred r.grid (proofCode r.src 4) (masterOf r.src) r.slot h
    else
      let s := s.mergeCovered r.station mark
      let q : Req := { r with kind := .proofPub, gva := h, b := count, a := BitVec.ofNat 64 mark }
      if hPkg h = s.cfg.pkg ∧ !s.fwPass r.who 2 (hDie h) (fun _ => hHome h) then s.freezeUnit r.src r.station 0x2F0 r.grid h
      else s.addReq q
  | .msg w payload xr =>
    if msgReserved w || !s.msgReach r.ctx w then
      s.faultDeferred r.grid (causeOf 10 r.src 5) (masterOf r.src) r.slot w
    else s.sendMsg w 0 (s.msgOf r.station r.grid r.tag xr w payload)

end Sys2Proof.Machine
end

