-- ==== Sys2Proof/Machine/Float.lean ====
section
/-! DEFINITION. Floating point: FP32 and BF16 patterns, exact dyadic values, rounding with its flags, stochastic
rounding, and the arithmetic of R80 to R84 and R134. A format is given by its number of fraction bits f: 23 for
FP32, 7 for BF16. -/

namespace Sys2Proof.Machine

/-- The fraction bits of a floating type. -/
def fracBits : FTy → Nat
  | .bf16 => 7
  | .f32 => 23

/-- A pattern's value (R80): a NaN, an infinity, or the exact dyadic (−1)^neg · mag · 2^exp. -/
inductive FVal where
  | nan
  | inf (neg : Bool)
  | fin (neg : Bool) (mag : Nat) (exp : Int)
  deriving DecidableEq, Repr

/-- Reading a pattern. -/
def fval (f p : Nat) : FVal :=
  let neg := p / 2 ^ (f + 8) % 2 == 1
  let ex := p / 2 ^ f % 256
  let fr := p % 2 ^ f
  if ex = 255 then (if fr = 0 then .inf neg else .nan)
  else if ex = 0 then .fin neg fr (-126 - f)
  else .fin neg (2 ^ f + fr) (ex - 127 - f)

/-- The sign bit of a pattern as a number. -/
def fsign (f : Nat) (neg : Bool) : Nat := if neg then 2 ^ (f + 8) else 0

def finfPat (f : Nat) (neg : Bool) : Nat := fsign f neg + 255 * 2 ^ f
def fzeroPat (f : Nat) (neg : Bool) : Nat := fsign f neg
def fmaxPat (f : Nat) (neg : Bool) : Nat := fsign f neg + 255 * 2 ^ f - 1

/-- The default NaN (R80), and a NaN made quiet (R81). -/
def defNaN (f : Nat) : Nat := 255 * 2 ^ f + 2 ^ (f - 1)
def quiet (f p : Nat) : Nat := p ||| 2 ^ (f - 1)

def isNaN (f p : Nat) : Bool := fval f p == .nan
/-- A signalling NaN (R80). -/
def isSNaN (f p : Nat) : Bool := isNaN f p && p / 2 ^ (f - 1) % 2 == 0

/-- How a result rounds: by a mode, or stochastically with the top 16 hash bits (R82, R84). -/
inductive Rnd where
  | m (r : RM)
  | sr (h : Nat)
  deriving DecidableEq, Repr

/-- The rounded integer of a magnitude mag · 2^exp in units of 2^g, and whether the unit lost something. -/
def roundAt (r : Rnd) (neg : Bool) (mag : Nat) (exp g : Int) : Nat × Bool :=
  if g ≤ exp then (mag * 2 ^ (exp - g).toNat, false)
  else
    let sh := (g - exp).toNat
    let k := mag / 2 ^ sh
    let rem := mag % 2 ^ sh
    let up := match r with
      | .m .rne => decide (2 ^ sh < 2 * rem) || (2 * rem == 2 ^ sh && k % 2 == 1)
      | .m .rtz => false
      | .m .rdn => neg && rem != 0
      | .m .rup => !neg && rem != 0
      | .sr h => decide (65536 ≤ rem * 65536 / 2 ^ sh + h)
    (if up then k + 1 else k, rem != 0)

/-- Rounding a nonzero exact value to a format, with NX, UF and OF (R82 to R84). -/
def roundMag (f : Nat) (r : Rnd) (neg : Bool) (mag : Nat) (exp : Int) : Nat × FlagSet :=
  if mag = 0 then (fzeroPat f neg, 0)
  else
    let e : Int := Nat.log2 mag + exp
    let g : Int := max e (-126) - f
    let (k, lost) := roundAt r neg mag exp g
    let (k', _) := roundAt r neg mag exp (e - f)
    let tooBig := decide ((128 : Int) ≤ Nat.log2 (max k 1) + g)
    let tiny := decide (e < -126) && !(e == -127 && k' == 2 ^ (f + 1))
    if tooBig then
      let toInf := match r with
        | .m .rne => true
        | .m .rtz => false
        | .m .rdn => neg
        | .m .rup => !neg
        | .sr _ => true
      (if toInf then finfPat f neg else fmaxPat f neg, flOF ||| flNX)
    else
      (fsign f neg + ((g + f + 127).toNat * 2 ^ f + k - 2 ^ f),
        flagIf lost flNX ||| flagIf (lost && tiny) flUF)

/-- Rounding an exact integer multiple of 2^exp; an exact zero takes the given sign. -/
def roundInt2 (f : Nat) (r : Rnd) (zneg : Bool) (v : Int) (exp : Int) : Nat × FlagSet :=
  if v = 0 then (fzeroPat f zneg, 0) else roundMag f r (decide (v < 0)) v.natAbs exp

/-- RoundInt (R93): an exact value rounded to an integer, and whether it was changed. -/
def roundInt (r : RM) (neg : Bool) (mag : Nat) (exp : Int) : Int × Bool :=
  let (k, lost) := roundAt (.m r) neg mag exp 0
  (if neg then -(k : Int) else k, lost)

/-! ### Stochastic rounding (R84) -/

/-- Hash64(s, i). -/
def hash64 (s : Word) (i : Nat) : Word :=
  let z := s + BitVec.ofNat 64 (i + 1) * 0x9E3779B97F4A7C15#64
  let z := (z ^^^ (z >>> 30)) * 0xBF58476D1CE4E5B9#64
  let z := (z ^^^ (z >>> 27)) * 0x94D049BB133111EB#64
  z ^^^ (z >>> 31)

/-- The rounding of element idx under stochastic rounding. -/
def srRnd (seed : Word) (idx : Nat) : Rnd := .sr ((hash64 seed idx).toNat / 2 ^ 48)

/-! ### Arithmetic -/

/-- The sign of an exact zero sum of operands of opposite sign (R82). -/
def zeroSign : Rnd → Bool
  | .m .rdn => true
  | .m .rne => false
  | .m .rtz => false
  | .m .rup => false
  | .sr _ => false

/-- The signed integer of a finite value in units of 2^g, g no greater than its exponent. -/
def scaled (neg : Bool) (mag : Nat) (exp g : Int) : Int :=
  let m : Int := mag * 2 ^ (exp - g).toNat
  if neg then -m else m

/-- The sum of two non-NaN values, rounded once (R81, R82). -/
def faddVal (f : Nat) (r : Rnd) (x y : FVal) : Nat × FlagSet :=
  match x, y with
  | .inf a, .inf b => if a = b then (finfPat f a, 0) else (defNaN f, flNV)
  | .inf a, _ => (finfPat f a, 0)
  | _, .inf b => (finfPat f b, 0)
  | .fin n1 m1 e1, .fin n2 m2 e2 =>
    let g := min e1 e2
    let z := if n1 = n2 then n1 else zeroSign r
    roundInt2 f r z (scaled n1 m1 e1 g + scaled n2 m2 e2 g) g
  | .nan, _ => (defNaN f, 0)
  | _, .nan => (defNaN f, 0)

/-- The exact product of two non-NaN values; none is an invalid product. -/
def fmulVal (x y : FVal) : Option FVal :=
  match x, y with
  | .inf a, .inf b => some (.inf (a != b))
  | .inf a, .fin n m _ => if m = 0 then none else some (.inf (a != n))
  | .fin n m _, .inf a => if m = 0 then none else some (.inf (a != n))
  | .fin n1 m1 e1, .fin n2 m2 e2 => some (.fin (n1 != n2) (m1 * m2) (e1 + e2))
  | .nan, _ => none
  | _, .nan => none

/-- Rounding a value that needs no addition. -/
def froundVal (f : Nat) (r : Rnd) : FVal → Nat × FlagSet
  | .nan => (defNaN f, 0)
  | .inf n => (finfPat f n, 0)
  | .fin n m e => if m = 0 then (fzeroPat f n, 0) else roundMag f r n m e

/-- The first NaN of the sources, quietened (R81). -/
def firstNaN (f : Nat) : List Nat → Option Nat
  | [] => none
  | p :: t => if isNaN f p then some (quiet f p) else firstNaN f t

/-- Sign inverted. -/
def fnegPat (f p : Nat) : Nat := p ^^^ 2 ^ (f + 8)

/-- FADD, FSUB, FMUL, FMA on patterns (R134). -/
def faddP (f : Nat) (r : Rnd) (a b : Nat) : Nat × FlagSet :=
  match firstNaN f [a, b] with
  | some p => (p, 0)
  | none => faddVal f r (fval f a) (fval f b)

def fsubP (f : Nat) (r : Rnd) (a b : Nat) : Nat × FlagSet :=
  match firstNaN f [a, b] with
  | some p => (p, 0)
  | none => faddVal f r (fval f a) (fval f (fnegPat f b))

def fmulP (f : Nat) (r : Rnd) (a b : Nat) : Nat × FlagSet :=
  match firstNaN f [a, b] with
  | some p => (p, 0)
  | none =>
    match fmulVal (fval f a) (fval f b) with
    | none => (defNaN f, flNV)
    | some v => froundVal f r v

def fmaP (f : Nat) (r : Rnd) (a b d : Nat) : Nat × FlagSet :=
  match firstNaN f [a, b, d] with
  | some p => (p, 0)
  | none =>
    match fmulVal (fval f a) (fval f b) with
    | none => (defNaN f, flNV)
    | some v => faddVal f r v (fval f d)

/-- A non-NaN pattern's place in the order of FMIN and FMAX, with −0 below +0. -/
def fkey (f p : Nat) : Int :=
  let m : Int := p % 2 ^ (f + 8)
  if p / 2 ^ (f + 8) % 2 = 1 then -m - 1 else m

/-- A non-NaN pattern's place in the numeric order: −0 equals +0 (R135). -/
def fnum (f p : Nat) : Int :=
  let m : Int := p % 2 ^ (f + 8)
  if p / 2 ^ (f + 8) % 2 = 1 then -m else m

def fminP (f a b : Nat) : Nat :=
  match firstNaN f [a, b] with
  | some p => p
  | none => if fkey f b < fkey f a then b else a

def fmaxP (f a b : Nat) : Nat :=
  match firstNaN f [a, b] with
  | some p => p
  | none => if fkey f a < fkey f b then b else a

/-- FABS and FNEG: a NaN is quietened with its sign kept (R81, R134). -/
def fabsP (f a : Nat) : Nat := if isNaN f a then quiet f a else a % 2 ^ (f + 8)
def fnegP (f a : Nat) : Nat := if isNaN f a then quiet f a else fnegPat f a

end Sys2Proof.Machine
end

