-- ==== Sys2Proof/Machine/Sfu.lean ====
section
/-! DEFINITION. The functions of VSFU (R151), correctly rounded: each result is enclosed between two dyadic
numbers, and the rounding both ends agree on is the result. Reciprocals, square roots and exact cases are
exact. Numbers are integers in units of 2^−640. -/

namespace Sys2Proof.Machine

/-- The fixed-point precision, and one. -/
def fxP : Nat := 640
def fxOne : Int := 2 ^ fxP

/-- A product of two fixed-point numbers, floored. -/
def fxMul (a b : Int) : Int := a * b / fxOne

/-- Σ t_k from a first term: the k-th term is the one before times `num` over `den k`. -/
def fxSeries (num : Int) (den : Nat → Int) : Nat → Nat → Int → Int
  | 0, _, _ => 0
  | n + 1, k, t => t + fxSeries num den n (k + 1) (fxMul t num / den k)

/-- e^x for |x| ≤ 1. -/
def fxExpSmall (x : Int) : Int := fxSeries x (fun k => k + 1) 150 0 fxOne

/-- Squaring n times. -/
def fxSquare : Nat → Int → Int
  | 0, a => a
  | n + 1, a => fxSquare n (fxMul a a)

/-- e^−x for 0 ≤ x < 64. -/
def fxExpNeg (x : Int) : Int := fxSquare 6 (fxExpSmall (-x / 64))

/-- Σ z^(2k+1)/(2k+1) for 0 ≤ z ≤ 1/3, or with alternating signs: atanh z and atan z. -/
def fxOdd (s : Int) (zz : Int) : Nat → Nat → Int → Int
  | 0, _, _ => 0
  | n + 1, k, t => t / (2 * k + 1) + fxOdd s zz n (k + 1) (s * fxMul t zz)

def fxAtanh (z : Int) : Int := fxOdd 1 (fxMul z z) 220 0 z

/-- ln 2 = 2 atanh(1/3). -/
def fxLn2 : Int := 2 * fxAtanh (fxOne / 3)

/-- π in units of 2^−800 by Machin's formula. -/
def piBits : Nat := 800
def atanInv (m : Int) : Nat → Nat → Int → Int
  | 0, _, _ => 0
  | n + 1, k, t => t / (2 * k + 1) - atanInv m n (k + 1) (t / (m * m))
def piFix : Int := 4 * (4 * atanInv 5 180 0 (2 ^ piBits / 5) - atanInv 239 60 0 (2 ^ piBits / 239))

/-- The integer square root, by bisection on bits from the top. -/
def isqrtFrom (n : Nat) : Nat → Nat → Nat
  | 0, r => r
  | b + 1, r =>
    let c := r + 2 ^ b
    isqrtFrom n b (if c * c ≤ n then c else r)
def isqrt (n : Nat) : Nat := isqrtFrom n (Nat.log2 n / 2 + 1) 0

/-- cos r and sin r for |r| ≤ 1. -/
def fxCos (r : Int) : Int := fxSeries (-(fxMul r r)) (fun k => (2 * k + 1) * (2 * k + 2)) 80 0 fxOne
def fxSin (r : Int) : Int := fxSeries (-(fxMul r r)) (fun k => (2 * k + 2) * (2 * k + 3)) 80 0 r

/-- The remainder of a finite value by π/2, and the quadrant: the argument's exact value is m · 2^e. -/
def trigReduce (neg : Bool) (mag : Nat) (e : Int) : Int × Nat :=
  let x : Int := if neg then -(mag * 2 ^ (e + piBits).toNat : Nat) else (mag * 2 ^ (e + piBits).toNat : Nat)
  let h := piFix / 2
  let k := (2 * x + h) / (2 * h)
  ((x - k * h) / 2 ^ (piBits - fxP), (k % 4).toNat)

/-- What a function's exact value is known to be: a special result, an exact dyadic, or an enclosure in units of
2^exp that the exact value lies strictly inside. -/
inductive SfuVal where
  | special (p : Nat) (fl : FlagSet)
  | exact (neg : Bool) (mag : Nat) (exp : Int)
  | about (v : Int) (err : Nat) (exp : Int)
  deriving DecidableEq, Repr

/-- The error allowed to a fixed-point computation: 2^40 units. -/
def fxErr : Nat := 2 ^ 40

def fxAbout (v : Int) : SfuVal := .about v fxErr (-(fxP : Int))

/-- A value strictly between 1 − 2^−39 and 1, which every rounding treats alike. -/
def nearOne (neg : Bool) : SfuVal :=
  let m : Int := 2 ^ 40 * 2 - 1
  .about (if neg then -(m) else m) 0 (-41)

/-- exp2. -/
def sfuExp2 (neg : Bool) (mag : Nat) (e : Int) : SfuVal :=
  if mag = 0 then .exact false 1 0
  else if (11 : Int) ≤ Nat.log2 mag + e then (if neg then .exact false 1 (-2048) else .exact false 1 2048)
  else
    let x : Int := if neg then -(mag * 2 ^ (e + fxP).toNat : Nat) else (mag * 2 ^ (e + fxP).toNat : Nat)
    let n := x / fxOne
    let fr := x - n * fxOne
    if fr = 0 then .exact false 1 n
    else .about (fxExpSmall (fxMul fr fxLn2)) fxErr (n - fxP)

/-- log2 of a positive value. -/
def sfuLog2 (mag : Nat) (e : Int) : SfuVal :=
  let l := Nat.log2 mag
  if mag = 2 ^ l then
    let v : Int := l + e
    .exact (decide (v < 0)) v.natAbs 0
  else
    let m : Int := mag * 2 ^ (fxP - l)
    let z := (m - fxOne) * fxOne / (m + fxOne)
    fxAbout ((l + e) * fxOne + 2 * fxAtanh z * fxOne / fxLn2)

/-- 1 / (mag · 2^e), and 1 / sqrt: a floor with a bit below it that says whether the floor lost anything. -/
def sfuRcp (neg : Bool) (mag : Nat) (e : Int) : SfuVal :=
  let q := 2 ^ 200 / mag
  .exact neg (2 * q + (if q * mag = 2 ^ 200 then 0 else 1)) (-201 - e)

def sfuRsqrt (mag : Nat) (e : Int) : SfuVal :=
  let odd := e % 2 != 0
  let m := if odd then 2 * mag else mag
  let h : Int := (if odd then e - 1 else e) / 2
  let q := isqrt (2 ^ 400 / m)
  .exact false (2 * q + (if q * q * m = 2 ^ 400 then 0 else 1)) (-201 - h)

def sfuTrig (isCos : Bool) (neg : Bool) (mag : Nat) (e : Int) : SfuVal :=
  let (r, q) := trigReduce neg mag e
  let c := fxCos r
  let s := fxSin r
  fxAbout (match (if isCos then q + 1 else q) % 4 with
    | 0 => s
    | 1 => c
    | 2 => -s
    | _ => -c)

def sfuTanh (neg : Bool) (mag : Nat) (e : Int) : SfuVal :=
  if (4 : Int) ≤ Nat.log2 mag + e then nearOne neg
  else
    let x : Int := (mag * 2 ^ (e + fxP).toNat : Nat)
    let t := fxExpNeg (2 * x)
    let v := (fxOne - t) * fxOne / (fxOne + t)
    fxAbout (if neg then -v else v)

def sfuErf (neg : Bool) (mag : Nat) (e : Int) : SfuVal :=
  let x : Int := if (4 : Int) ≤ Nat.log2 mag + e then 16 * fxOne else (mag * 2 ^ (e + fxP).toNat : Nat)
  if 5 * fxOne + fxOne / 2 ≤ x then nearOne neg
  else
    let xx := fxMul x x
    let sum := fxSeries (2 * xx) (fun k => 2 * k + 3) 400 0 x
    let sqrtPi : Int := isqrt (piFix * 2 ^ (2 * fxP - piBits)).toNat
    let v := 2 * fxMul sum (fxExpNeg xx) * fxOne / sqrtPi
    fxAbout (if neg then -v else v)

/-- The exact function value of a finite operand, or its special result (R151). -/
def sfuFin (fn : SfuFn) (f : Nat) (neg : Bool) (mag : Nat) (e : Int) : SfuVal :=
  match fn with
  | .exp2 => sfuExp2 neg mag e
  | .log2 =>
    if mag = 0 then .special (finfPat f true) flDZ
    else if neg then .special (defNaN f) flNV
    else sfuLog2 mag e
  | .rcp => if mag = 0 then .special (finfPat f neg) flDZ else sfuRcp neg mag e
  | .rsqrt =>
    if mag = 0 then .special (finfPat f neg) flDZ
    else if neg then .special (defNaN f) flNV
    else sfuRsqrt mag e
  | .sin => if mag = 0 then .special (fzeroPat f neg) 0 else sfuTrig false neg mag e
  | .cos => if mag = 0 then .exact false 1 0 else sfuTrig true neg mag e
  | .tanh => if mag = 0 then .special (fzeroPat f neg) 0 else sfuTanh neg mag e
  | .erf => if mag = 0 then .special (fzeroPat f neg) 0 else sfuErf neg mag e

/-- The result for an infinite operand (R151). -/
def sfuInf (fn : SfuFn) (f : Nat) (neg : Bool) : Nat × FlagSet :=
  match fn with
  | .exp2 => (if neg then 0 else finfPat f false, 0)
  | .log2 => if neg then (defNaN f, flNV) else (finfPat f false, 0)
  | .rcp => (fzeroPat f neg, 0)
  | .rsqrt => if neg then (defNaN f, flNV) else (0, 0)
  | .sin => (defNaN f, flNV)
  | .cos => (defNaN f, flNV)
  | .tanh => (fsign f neg + 127 * 2 ^ f, 0)
  | .erf => (fsign f neg + 127 * 2 ^ f, 0)

/-- The number of a function and of a mode, for the free value. -/
def sfuNum : SfuFn → Nat
  | .exp2 => 0 | .log2 => 1 | .rcp => 2 | .rsqrt => 3 | .sin => 4 | .cos => 5 | .tanh => 6 | .erf => 7
def rmNum : RM → Nat
  | .rne => 0 | .rtz => 1 | .rdn => 2 | .rup => 3

/-- Rounding what is known of a value; where the enclosure does not decide, the result is free (log entry 8). -/
def sfuRound (fn : SfuFn) (f : Nat) (r : RM) (p : Nat) : SfuVal → Nat × FlagSet
  | .special q fl => (q, fl)
  | .exact neg mag e => if mag = 0 then (fzeroPat f neg, 0) else roundMag f (.m r) neg mag e
  | .about v err e =>
    let lo := v - err
    let hi := v + err
    let a := roundInt2 f (.m r) false (4 * lo + 1) (e - 2)
    let b := roundInt2 f (.m r) false (4 * hi - 1) (e - 2)
    if a = b ∨ err = 0 then a else (Config.sfuValue (sfuNum fn) f (rmNum r) p % 2 ^ (f + 9), flNX)

/-- One element of VSFU (R151). -/
def sfuElem (fn : SfuFn) (f : Nat) (r : RM) (p : Nat) : Nat × FlagSet :=
  match fval f p with
  | .nan => (quiet f p, 0)
  | .inf neg => sfuInf fn f neg
  | .fin neg mag e => sfuRound fn f r p (sfuFin fn f neg mag e)

end Sys2Proof.Machine
end

