-- ==== Sys2Proof/Machine/VBase.lean ====
section
/-! DEFINITION. The shapes of the vector instructions (R127 to R131, R98): reading the operands, one result for
each element, merging under the predicate, conversion events, flags, SEED and the tag. -/

namespace Sys2Proof.Machine

/-- What one element gives: its pattern, the flags it sets, and the detail of a conversion event (R95, R99). -/
structure ERes where
  val : Nat
  fl : FlagSet := 0
  ev : Option Nat := none
  deriving DecidableEq, Repr

/-- A result with its flags. -/
def ERes.ofPair (p : Nat × FlagSet) : ERes := { val := p.1, fl := p.2 }

/-- A second operand: a vector register, a scalar used in its low bytes, or an immediate's pattern. -/
inductive VSrc where
  | v (r : VReg)
  | s (r : SReg)
  | n (v : Nat)
  deriving DecidableEq, Repr

def VSrc.opnds : VSrc → List Opnd
  | .v r => [.v r]
  | .s r => [.s r]
  | .n _ => []

def VSrc.isQ : VSrc → Bool
  | .v r => r.isQ
  | .s _ => false
  | .n _ => false

/-- The elements of a second operand, taking a port's word. -/
def State.takeSrc (s : State) (t : Strand) (sz : Nat) : VSrc → List Nat × State
  | .v r =>
    let (c, s') := s.takeV r
    (elems sz c.val, s')
  | .s r => (List.replicate (vbytes / sz) ((s.sval t r).toNat % 2 ^ (8 * sz)), s)
  | .n v => (List.replicate (vbytes / sz) v, s)

/-- G, the global strand number (R27); 0 for a loose strand (R84). -/
def Strand.global (t : Strand) : Nat :=
  if t.loose then 0
  else
    let c := t.chordCsr.toNat
    let w := c / 256 % 16 + 1
    let h := c / 4096 % 16 + 1
    (t.courseCsr.toNat % 2 ^ 20 * h * w + c / 16 % 16 * w + c % 16) * 8 + t.index.val

/-- The rounding of element i: stochastic with idx = G · 1024 + i, or by a mode (R84, R134). -/
def Strand.elemRnd (t : Strand) (sr : Bool) (rm : RM) (i : Nat) : Rnd :=
  if sr then srRnd t.seed (t.global * 1024 + i) else .m rm

/-- The active elements' results over the old elements (R128). -/
def mergeElems : List Nat → List Bool → List ERes → List Nat
  | o :: os, a :: as, r :: rs => (if a then r.val else o) :: mergeElems os as rs
  | _, _, _ => []

/-- The flags of the active elements. -/
def mergeFlags : List Bool → List ERes → FlagSet
  | a :: as, r :: rs => (if a then r.fl else 0) ||| mergeFlags as rs
  | _, _ => 0

/-- The event of the lowest-numbered active element that meets one (R98, R128). -/
def lowestEvent : List Bool → List ERes → Option Nat
  | a :: as, r :: rs => if a && r.ev.isSome then r.ev else lowestEvent as rs
  | _, _ => none

/-- Completing a vector instruction: the result, the flags, SEED after stochastic rounding (R84), the PC. -/
def State.vDone (s : State) (t : Strand) (viaPort sr : Bool) (vd : VReg) (v : VWord) (fl : FlagSet) : State :=
  let s := (s.finishV t viaPort vd v t.xr).modCur fun t =>
    { t.raise fl with seed := if sr then t.seed + 1 else t.seed }
  s.advance

/-- Completing an element-wise instruction from its results. `orig` is the state before any word was taken from a
port: an event under CVM = TRAP is precise (R98). -/
def State.vMerge (s orig : State) (t : Strand) (viaPort sr : Bool) (sz : Nat) (vd : VReg) (pg : PReg)
    (rs : List ERes) : State :=
  let act := actives sz (t.pred pg) (vbytes / sz) 0
  match t.cvmTrap, lowestEvent act rs with
  | true, some det => orig.trap (causeOf 3 1 det)
  | _, _ => s.vDone t viaPort sr vd (vecOf sz (mergeElems (elems sz (s.oldV t vd)) act rs)) (mergeFlags act rs)

/-- The results of n elements of three operands: f receives the element's number and its operands. -/
def zip3 (f : Nat → Nat → Nat → Nat → ERes) : Nat → List Nat → List Nat → List Nat → List ERes
  | i, a :: as, b :: bs, d :: ds => f i a b d :: zip3 f (i + 1) as bs ds
  | _, _, _, _ => []

/-- A predicated instruction on va and a second operand: f receives the strand and the elements of va, of the
second operand and of the old vd, and gives the result of every element. `third` makes the old vd a source after the
others (R129); a port named by vd as well then gives up its word. -/
def State.vwise (s : State) (sz : Nat) (vd va : VReg) (b : VSrc) (third : Bool) (pg : PReg) (e sr : Bool)
    (f : Strand → List Nat → List Nat → List Nat → List ERes) : Out :=
  s.issue 1 e ([.v va] ++ b.opnds ++ if third then [.v vd] else []) [.v vd] fun t =>
    let (ca, s1) := s.takeV va
    let (bs, s2) := s1.takeSrc t sz b
    let (cd, s3) : VCell × State := if third then s2.takeV vd else ({ val := s2.oldV t vd }, s2)
    s3.vMerge s t (va.isQ || b.isQ || (third && vd.isQ)) sr sz vd pg (f t (elems sz ca.val) bs (elems sz cd.val))

/-- An element-wise instruction: f also receives the element's number. -/
def State.elemwise (s : State) (sz : Nat) (vd va : VReg) (b : VSrc) (third : Bool) (pg : PReg) (e sr : Bool)
    (f : Strand → Nat → Nat → Nat → Nat → ERes) : Out :=
  s.vwise sz vd va b third pg e sr fun t a b d => zip3 (f t) 0 a b d

/-- An element-wise instruction on va alone. -/
def State.elemwise1 (s : State) (sz : Nat) (vd va : VReg) (pg : PReg) (e : Bool) (f : Strand → Nat → Nat → ERes) : Out :=
  s.elemwise sz vd va (.n 0) false pg e false fun t i a _ _ => f t i a

/-- A comparison: every bit of an active element of pd is set to the result, every other bit is 0 (R135). -/
def State.compare (s : State) (sz : Nat) (pd : PReg) (va vb : VReg) (pg : PReg) (e : Bool)
    (f : Nat → Nat → Bool × FlagSet) : Out :=
  s.issue 1 e [.v va, .v vb] [] fun t =>
    let (ca, s) := s.takeV va
    let (cb, s) := s.takeV vb
    let act := actives sz (t.pred pg) (vbytes / sz) 0
    let rs := (elems sz ca.val).zipWith f (elems sz cb.val)
    let fl := flagsOf (act.zipWith (fun a r => if a then r.2 else 0) rs)
    (s.modCur fun t => (t.setPred pd (predOf sz (act.zipWith (fun a r => a && r.1) rs))).raise fl).advance

end Sys2Proof.Machine
end

