-- ==== Sys2Proof/Machine/VInt.lean ====
section
/-! DEFINITION. Vector integer arithmetic and comparison: majors 0x20, 0x28, 0x2A and VCMP (R133, R135). -/

namespace Sys2Proof.Machine

/-- SatT (R93, R133): symmetric for INT8 (R79). -/
def satT (s : Nat) (x : Int) : ERes :=
  let hi : Int := 2 ^ (8 * s - 1) - 1
  let lo : Int := if s = 1 then -hi else -hi - 1
  let y := clampInt lo hi x
  { val := ofSigned (8 * s) y, fl := flagIf (y != x) flSAT }

/-- An element read signed. -/
def sgn (s v : Nat) : Int := toSigned (8 * s) v

/-- The shift amount: b modulo the element's width (R133). -/
def vamt (s b : Nat) : Nat := b % (8 * s)

/-- R133's element results, for an element size, on a, b and the old d. -/
def viAdd (s a b _d : Nat) : ERes := satT s (sgn s a + sgn s b)
def viSub (s a b _d : Nat) : ERes := satT s (sgn s a - sgn s b)
def viMul (s a b _d : Nat) : ERes := satT s (sgn s a * sgn s b)
def viMulh (s a b _d : Nat) : ERes := { val := ofSigned (8 * s) (sgn s a * sgn s b / 2 ^ (8 * s)) }
def viMad (s a b d : Nat) : ERes := satT s (sgn s d + sgn s a * sgn s b)
def viMin (s a b _d : Nat) : ERes := { val := if sgn s b < sgn s a then b else a }
def viMax (s a b _d : Nat) : ERes := { val := if sgn s a < sgn s b then b else a }
def viAnd (_s a b _d : Nat) : ERes := { val := a &&& b }
def viOr (_s a b _d : Nat) : ERes := { val := a ||| b }
def viXor (_s a b _d : Nat) : ERes := { val := a ^^^ b }
def viSll (s a b _d : Nat) : ERes := { val := a * 2 ^ vamt s b % 2 ^ (8 * s) }
def viSrl (s a b _d : Nat) : ERes := { val := a / 2 ^ vamt s b }
def viSra (s a b _d : Nat) : ERes := { val := ofSigned (8 * s) (sgn s a / 2 ^ vamt s b) }
def viAbs (s a _b _d : Nat) : ERes := satT s (sgn s a).natAbs
def viNeg (s a _b _d : Nat) : ERes := satT s (-sgn s a)

/-- An integer instruction on a vector and a second operand. -/
def State.vint (s : State) (ty : ITy) (vd va : VReg) (b : VSrc) (third : Bool) (pg : PReg) (e : Bool)
    (f : Nat → Nat → Nat → Nat → ERes) : Out :=
  s.elemwise ty.size vd va b third pg e false fun _ _ x y d => f ty.size x y d

/-- A 5-bit immediate as an element's pattern (R100). -/
def immElem (ty : ITy) (imm : BitVec 5) : VSrc := .n (ofSigned (8 * ty.size) imm.toInt)

/-- VADD with a vector operand (R133). -/
def execVadd (ty : ITy) (vd va vb : VReg) (pg : PReg) (e : Bool) (s : State) : Out :=
  s.vint ty vd va (.v vb) false pg e viAdd

/-- VSUB with a vector operand (R133). -/
def execVsub (ty : ITy) (vd va vb : VReg) (pg : PReg) (e : Bool) (s : State) : Out :=
  s.vint ty vd va (.v vb) false pg e viSub

/-- VMUL with a vector operand (R133). -/
def execVmul (ty : ITy) (vd va vb : VReg) (pg : PReg) (e : Bool) (s : State) : Out :=
  s.vint ty vd va (.v vb) false pg e viMul

/-- VMULH with a vector operand (R133). -/
def execVmulh (ty : ITy) (vd va vb : VReg) (pg : PReg) (e : Bool) (s : State) : Out :=
  s.vint ty vd va (.v vb) false pg e viMulh

/-- VMAD with a vector operand (R133). -/
def execVmad (ty : ITy) (vd va vb : VReg) (pg : PReg) (e : Bool) (s : State) : Out :=
  s.vint ty vd va (.v vb) true pg e viMad

/-- VMIN with a vector operand (R133). -/
def execVmin (ty : ITy) (vd va vb : VReg) (pg : PReg) (e : Bool) (s : State) : Out :=
  s.vint ty vd va (.v vb) false pg e viMin

/-- VMAX with a vector operand (R133). -/
def execVmax (ty : ITy) (vd va vb : VReg) (pg : PReg) (e : Bool) (s : State) : Out :=
  s.vint ty vd va (.v vb) false pg e viMax

/-- VAND with a vector operand (R133). -/
def execVand (ty : ITy) (vd va vb : VReg) (pg : PReg) (e : Bool) (s : State) : Out :=
  s.vint ty vd va (.v vb) false pg e viAnd

/-- VOR with a vector operand (R133). -/
def execVor (ty : ITy) (vd va vb : VReg) (pg : PReg) (e : Bool) (s : State) : Out :=
  s.vint ty vd va (.v vb) false pg e viOr

/-- VXOR with a vector operand (R133). -/
def execVxor (ty : ITy) (vd va vb : VReg) (pg : PReg) (e : Bool) (s : State) : Out :=
  s.vint ty vd va (.v vb) false pg e viXor

/-- VSLL with a vector operand (R133). -/
def execVsll (ty : ITy) (vd va vb : VReg) (pg : PReg) (e : Bool) (s : State) : Out :=
  s.vint ty vd va (.v vb) false pg e viSll

/-- VSRL with a vector operand (R133). -/
def execVsrl (ty : ITy) (vd va vb : VReg) (pg : PReg) (e : Bool) (s : State) : Out :=
  s.vint ty vd va (.v vb) false pg e viSrl

/-- VSRA with a vector operand (R133). -/
def execVsra (ty : ITy) (vd va vb : VReg) (pg : PReg) (e : Bool) (s : State) : Out :=
  s.vint ty vd va (.v vb) false pg e viSra

/-- VABS (R133). -/
def execVabs (ty : ITy) (vd va : VReg) (pg : PReg) (e : Bool) (s : State) : Out :=
  s.vint ty vd va (.n 0) false pg e viAbs

/-- VNEG (R133). -/
def execVneg (ty : ITy) (vd va : VReg) (pg : PReg) (e : Bool) (s : State) : Out :=
  s.vint ty vd va (.n 0) false pg e viNeg

/-- VADD with a scalar operand (R133). -/
def execVaddVs (ty : ITy) (vd va : VReg) (b : SReg) (pg : PReg) (e : Bool) (s : State) : Out :=
  s.vint ty vd va (.s b) false pg e viAdd

/-- VSUB with a scalar operand (R133). -/
def execVsubVs (ty : ITy) (vd va : VReg) (b : SReg) (pg : PReg) (e : Bool) (s : State) : Out :=
  s.vint ty vd va (.s b) false pg e viSub

/-- VMUL with a scalar operand (R133). -/
def execVmulVs (ty : ITy) (vd va : VReg) (b : SReg) (pg : PReg) (e : Bool) (s : State) : Out :=
  s.vint ty vd va (.s b) false pg e viMul

/-- VMULH with a scalar operand (R133). -/
def execVmulhVs (ty : ITy) (vd va : VReg) (b : SReg) (pg : PReg) (e : Bool) (s : State) : Out :=
  s.vint ty vd va (.s b) false pg e viMulh

/-- VMAD with a scalar operand (R133). -/
def execVmadVs (ty : ITy) (vd va : VReg) (b : SReg) (pg : PReg) (e : Bool) (s : State) : Out :=
  s.vint ty vd va (.s b) true pg e viMad

/-- VMIN with a scalar operand (R133). -/
def execVminVs (ty : ITy) (vd va : VReg) (b : SReg) (pg : PReg) (e : Bool) (s : State) : Out :=
  s.vint ty vd va (.s b) false pg e viMin

/-- VMAX with a scalar operand (R133). -/
def execVmaxVs (ty : ITy) (vd va : VReg) (b : SReg) (pg : PReg) (e : Bool) (s : State) : Out :=
  s.vint ty vd va (.s b) false pg e viMax

/-- VAND with a scalar operand (R133). -/
def execVandVs (ty : ITy) (vd va : VReg) (b : SReg) (pg : PReg) (e : Bool) (s : State) : Out :=
  s.vint ty vd va (.s b) false pg e viAnd

/-- VOR with a scalar operand (R133). -/
def execVorVs (ty : ITy) (vd va : VReg) (b : SReg) (pg : PReg) (e : Bool) (s : State) : Out :=
  s.vint ty vd va (.s b) false pg e viOr

/-- VXOR with a scalar operand (R133). -/
def execVxorVs (ty : ITy) (vd va : VReg) (b : SReg) (pg : PReg) (e : Bool) (s : State) : Out :=
  s.vint ty vd va (.s b) false pg e viXor

/-- VSLL with a scalar operand (R133). -/
def execVsllVs (ty : ITy) (vd va : VReg) (b : SReg) (pg : PReg) (e : Bool) (s : State) : Out :=
  s.vint ty vd va (.s b) false pg e viSll

/-- VSRL with a scalar operand (R133). -/
def execVsrlVs (ty : ITy) (vd va : VReg) (b : SReg) (pg : PReg) (e : Bool) (s : State) : Out :=
  s.vint ty vd va (.s b) false pg e viSrl

/-- VSRA with a scalar operand (R133). -/
def execVsraVs (ty : ITy) (vd va : VReg) (b : SReg) (pg : PReg) (e : Bool) (s : State) : Out :=
  s.vint ty vd va (.s b) false pg e viSra

/-- VADD with an immediate operand (R133). -/
def execVaddVi (ty : ITy) (vd va : VReg) (imm : BitVec 5) (pg : PReg) (e : Bool) (s : State) : Out :=
  s.vint ty vd va (immElem ty imm) false pg e viAdd

/-- VSUB with an immediate operand (R133). -/
def execVsubVi (ty : ITy) (vd va : VReg) (imm : BitVec 5) (pg : PReg) (e : Bool) (s : State) : Out :=
  s.vint ty vd va (immElem ty imm) false pg e viSub

/-- VMUL with an immediate operand (R133). -/
def execVmulVi (ty : ITy) (vd va : VReg) (imm : BitVec 5) (pg : PReg) (e : Bool) (s : State) : Out :=
  s.vint ty vd va (immElem ty imm) false pg e viMul

/-- VMULH with an immediate operand (R133). -/
def execVmulhVi (ty : ITy) (vd va : VReg) (imm : BitVec 5) (pg : PReg) (e : Bool) (s : State) : Out :=
  s.vint ty vd va (immElem ty imm) false pg e viMulh

/-- VMAD with an immediate operand (R133). -/
def execVmadVi (ty : ITy) (vd va : VReg) (imm : BitVec 5) (pg : PReg) (e : Bool) (s : State) : Out :=
  s.vint ty vd va (immElem ty imm) true pg e viMad

/-- VMIN with an immediate operand (R133). -/
def execVminVi (ty : ITy) (vd va : VReg) (imm : BitVec 5) (pg : PReg) (e : Bool) (s : State) : Out :=
  s.vint ty vd va (immElem ty imm) false pg e viMin

/-- VMAX with an immediate operand (R133). -/
def execVmaxVi (ty : ITy) (vd va : VReg) (imm : BitVec 5) (pg : PReg) (e : Bool) (s : State) : Out :=
  s.vint ty vd va (immElem ty imm) false pg e viMax

/-- VAND with an immediate operand (R133). -/
def execVandVi (ty : ITy) (vd va : VReg) (imm : BitVec 5) (pg : PReg) (e : Bool) (s : State) : Out :=
  s.vint ty vd va (immElem ty imm) false pg e viAnd

/-- VOR with an immediate operand (R133). -/
def execVorVi (ty : ITy) (vd va : VReg) (imm : BitVec 5) (pg : PReg) (e : Bool) (s : State) : Out :=
  s.vint ty vd va (immElem ty imm) false pg e viOr

/-- VXOR with an immediate operand (R133). -/
def execVxorVi (ty : ITy) (vd va : VReg) (imm : BitVec 5) (pg : PReg) (e : Bool) (s : State) : Out :=
  s.vint ty vd va (immElem ty imm) false pg e viXor

/-- VSLL with an immediate operand (R133). -/
def execVsllVi (ty : ITy) (vd va : VReg) (imm : BitVec 5) (pg : PReg) (e : Bool) (s : State) : Out :=
  s.vint ty vd va (immElem ty imm) false pg e viSll

/-- VSRL with an immediate operand (R133). -/
def execVsrlVi (ty : ITy) (vd va : VReg) (imm : BitVec 5) (pg : PReg) (e : Bool) (s : State) : Out :=
  s.vint ty vd va (immElem ty imm) false pg e viSrl

/-- VSRA with an immediate operand (R133). -/
def execVsraVi (ty : ITy) (vd va : VReg) (imm : BitVec 5) (pg : PReg) (e : Bool) (s : State) : Out :=
  s.vint ty vd va (immElem ty imm) false pg e viSra

/-! ### VCMP (R135) -/

/-- Equal. (R135) -/
def execVcmpEq (ty : ITy) (pd : PReg) (va vb : VReg) (pg : PReg) (e : Bool) (s : State) : Out :=
  s.compare ty.size pd va vb pg e fun a b => (a == b, 0)

/-- Not equal. (R135) -/
def execVcmpNe (ty : ITy) (pd : PReg) (va vb : VReg) (pg : PReg) (e : Bool) (s : State) : Out :=
  s.compare ty.size pd va vb pg e fun a b => (a != b, 0)

/-- Less, signed. (R135) -/
def execVcmpLt (ty : ITy) (pd : PReg) (va vb : VReg) (pg : PReg) (e : Bool) (s : State) : Out :=
  s.compare ty.size pd va vb pg e fun a b => (decide (sgn ty.size a < sgn ty.size b), 0)

/-- Less or equal, signed. (R135) -/
def execVcmpLe (ty : ITy) (pd : PReg) (va vb : VReg) (pg : PReg) (e : Bool) (s : State) : Out :=
  s.compare ty.size pd va vb pg e fun a b => (decide (sgn ty.size a ≤ sgn ty.size b), 0)

/-- Less, unsigned. (R135) -/
def execVcmpLtu (ty : ITy) (pd : PReg) (va vb : VReg) (pg : PReg) (e : Bool) (s : State) : Out :=
  s.compare ty.size pd va vb pg e fun a b => (decide (a < b), 0)

/-- Less or equal, unsigned. (R135) -/
def execVcmpLeu (ty : ITy) (pd : PReg) (va vb : VReg) (pg : PReg) (e : Bool) (s : State) : Out :=
  s.compare ty.size pd va vb pg e fun a b => (decide (a ≤ b), 0)

end Sys2Proof.Machine
end

