-- ==== Sys2Proof/Machine/VConv.lean ====
section
/-! DEFINITION. Conversion and quantisation: major 0x25 (R85, R86, R94 to R99, R143 to R146). -/

namespace Sys2Proof.Machine

/-! ### Rounding selectors (R61) -/

/-- Whether an instruction rounds stochastically, given that its results are BF16. -/
def Strand.selSr (t : Strand) (rs : RSel) (bf : Bool) : Bool :=
  match rs with
  | .mode => t.sr && bf
  | .sr => true
  | .explicit _ => false

/-- The rounding mode of a selector. -/
def Strand.selRm (t : Strand) (rs : RSel) : RM :=
  match rs with
  | .mode => t.rm
  | .sr => t.rm
  | .explicit m => m

/-! ### Single conversions (R94, R95) -/

/-- Saturation to an integer of n bytes with the range event of R94. -/
def satRange (n : Nat) (x : Int) : ERes :=
  let r := satT n x
  { r with ev := if r.fl = 0 then none else some 2 }

/-- An integer to an integer of n bytes. -/
def cvtInt (n : Nat) (x : Int) : ERes := satRange n x

/-- An integer to floating. -/
def cvtIntF (f : Nat) (r : Rnd) (x : Int) : ERes := ERes.ofPair (roundInt2 f r false x 0)

/-- The integer that an infinity gives (R95). -/
def infInt (n : Nat) (neg : Bool) : Nat :=
  (satT n (if neg then -(2 ^ (8 * n)) else 2 ^ (8 * n))).val

/-- Floating to an integer of n bytes. -/
def cvtFInt (f n : Nat) (rm : RM) (p : Nat) : ERes :=
  match fval f p with
  | .nan => { val := 0, fl := flNV, ev := some 0 }
  | .inf neg => { val := infInt n neg, fl := flSAT, ev := some 1 }
  | .fin neg mag ex =>
    let (i, lost) := roundInt rm neg mag ex
    let r := satRange n i
    if r.ev.isSome then r else { r with fl := flagIf lost flNX }

/-- FP32 to BF16. -/
def cvtNarrow (r : Rnd) (p : Nat) : ERes :=
  if isNaN 23 p then { val := quiet 23 p / 65536 } else ERes.ofPair (froundVal 7 r (fval 23 p))

/-- BF16 to FP32. -/
def cvtWiden (p : Nat) : ERes := { val := (if isNaN 7 p then quiet 7 p else p) * 65536 }

/-- The fraction bits of a floating element type. -/
def ETy.frac : ETy → Option Nat
  | .bf16 => some 7 | .f32 => some 23 | .i8 => none | .i16 => none | .i32 => none | .i64 => none

/-- One element of VCVT (R94). -/
def cvtElem (dty sty : ETy) (r : Rnd) (rm : RM) (p : Nat) : ERes :=
  match ETy.frac dty, ETy.frac sty with
  | none, none => cvtInt dty.size (sgn sty.size p)
  | some f, none => cvtIntF f r (sgn sty.size p)
  | none, some f => cvtFInt f dty.size rm p
  | some fd, some fs =>
    if fd = fs then { val := p } else if fd = 7 then cvtNarrow r p else cvtWiden p

/-- The results of consecutive elements from their numbers. -/
def mapIdx (f : Nat → Nat → ERes) : Nat → List Nat → List ERes
  | _, [] => []
  | i, a :: as => f i a :: mapIdx f (i + 1) as

/-- VCVT (R143): the elements beyond the larger size's count are written zero. -/
def execVcvt (dty sty : ETy) (rs : RSel) (vd va : VReg) (pg : PReg) (e : Bool) (s : State) : Out :=
  s.issue 1 e [.v va] [.v vd] fun t =>
    let big := max dty.size sty.size
    let m := vbytes / big
    let sr := t.selSr rs (dty == .bf16)
    let rm := t.selRm rs
    let (ca, s1) := s.takeV va
    let act := actives big (t.pred pg) m 0
    let res := mapIdx (fun i p => cvtElem dty sty (t.elemRnd sr rm i) rm p) 0 ((elems sty.size ca.val).take m)
    match t.cvmTrap, lowestEvent act res with
    | true, some det => s.trap (causeOf 3 1 det)
    | _, _ =>
      s1.vDone t va.isQ sr vd (vecOf dty.size (mergeElems ((elems dty.size (s1.oldV t vd)).take m) act res))
        (mergeFlags act res)

/-! ### Blocks -/

/-- The floor of the base-2 logarithm of a nonzero finite value. -/
def flog2 (mag : Nat) (ex : Int) : Int := Nat.log2 mag + ex

/-- The largest such floor among the finite nonzero values, if there is one: every value below the largest
power of two has the same block exponent. -/
def maxLog : List FVal → Option Int
  | [] => none
  | v :: vs =>
    let m := maxLog vs
    match v with
    | .fin _ mag ex => if mag = 0 then m else some (match m with | none => flog2 mag ex | some y => max y (flog2 mag ex))
    | .inf _ => m
    | .nan => m

/-- Consecutive groups of n. -/
def chunks {α : Type} (n : Nat) : Nat → List α → List (List α)
  | 0, _ => []
  | k + 1, l => l.take n :: chunks n k (l.drop n)

/-- A block's results: the elements with their events, and the header bytes. -/
structure Block where
  res : List ERes
  head : List Nat
  deriving DecidableEq, Repr

/-- Clamping a rounded integer to ±k, with NX when rounding or clamping changed the value (R96, R97). -/
def clampNX (k : Int) (p : Int × Bool) : Int × FlagSet :=
  if k < p.1 then (k, flNX) else if p.1 < -k then (-k, flNX) else (p.1, flagIf p.2 flNX)

/-- A block of 32 in MXINT8 (R96); the header is X. -/
def mxBlock (rm : RM) (xs : List FVal) : Block :=
  if xs.any (· == .nan) then { res := xs.map fun _ => { val := 0 }, head := [255] }
  else
    let x : Int := match maxLog xs with
      | none => 0
      | some l => max (l + 127) 0
    let q (v : FVal) : ERes :=
      match v with
      | .nan => { val := 0 }
      | .inf neg => { val := ofSigned 8 (if neg then -127 else 127), fl := flSAT, ev := some 1 }
      | .fin neg mag ex =>
        let (y, fl) := clampNX 127 (roundInt rm neg mag (ex + 6 - (x - 127)))
        { val := ofSigned 8 y, fl := fl }
    { res := xs.map q, head := [x.toNat] }

/-- The magnitude bits of a PS format, and the number code of VQPS and VDQ. -/
def PsFmt.bits : PsFmt → Nat
  | .ps3 => 2 | .ps5 => 4 | .ps8 => 7

/-- Whether a value's magnitude is at least 2^n: infinite always, NaN never (R97). -/
def magGe (n : Int) : FVal → Bool
  | .nan => false
  | .inf _ => true
  | .fin _ mag ex => mag != 0 && decide (n ≤ flog2 mag ex)

/-- The pairs of a block that are not lowered. -/
def pairsHigh (n : Int) : List FVal → List Bool
  | a :: b :: rest => (magGe n a || magGe n b) :: pairsHigh n rest
  | _ => []

/-- A block of 16 in a PS format (R97); the header is E and μ. Elements are sign · 2^b + M. -/
def psBlock (b : Nat) (xr : Bool) (rm : RM) (xs : List FVal) : Block :=
  if xs.any (· == .nan) && !xr then { res := xs.map fun _ => { val := 0 }, head := [255, 0] }
  else
    let ex : Int := match maxLog xs with
      | none => -127
      | some l => max l (-127)
    let low := (pairsHigh (ex - 1) xs).map fun h => !h && decide (-127 < ex)
    let mu := (low.zipIdx.map fun p => if p.1 then 2 ^ p.2 else 0).sum
    let q (v : FVal) (i : Nat) : ERes :=
      let d : Int := if low.getD (i / 2) false then 1 else 0
      match v with
      | .nan => { val := 0, fl := flNV, ev := some 0 }
      | .inf neg => { val := (if neg then 2 ^ b else 0) + 2 ^ b - 1, fl := flSAT, ev := some 1 }
      | .fin neg mag x =>
        let (y, fl) := clampNX (2 ^ b - 1) (roundInt rm neg mag (x + (b : Int) - 1 - ex + d))
        { val := (if y < 0 then 2 ^ b else 0) + y.natAbs, fl := fl }
    { res := xs.zipIdx.map fun p => q p.1 p.2, head := [(ex + 127).toNat, mu] }

/-- The values of a register's elements, with inactive ones taken as +0. -/
def blockVals (f : Nat) (act : List Bool) (l : List Nat) : List FVal :=
  act.zipWith (fun a p => if a then fval f p else .fin false 0 0) l

/-- The second register of a pair. -/
def nextReg : VReg → VReg
  | .v i => .v (i + 1)
  | .w i => .w (i + 1)
  | .q i => .q i

/-- VQNT (R144): the elements go to vd, the scales to vd + 1. -/
def execVqnt (sty : FTy) (rs : RSel) (vd va : VReg) (pg : PReg) (e : Bool) (s : State) : Out :=
  s.issue 1 e [.v va] [.v vd, .v (nextReg vd)] fun t =>
    let sz := sty.size
    let n := vbytes / sz
    let (ca, s1) := s.takeV va
    let act := actives sz (t.pred pg) n 0
    let bs := (chunks 32 (n / 32) (blockVals (fracBits sty) act (elems sz ca.val))).map (mxBlock (t.selRm rs))
    let res := bs.flatMap (·.res)
    match t.cvmTrap, lowestEvent act res with
    | true, some det => s.trap (causeOf 3 1 det)
    | _, _ =>
      let zero := (elems 1 0).take n
      let q := vecOf 1 (mergeElems zero act res)
      (s1.finishV t va.isQ (nextReg vd) (vecOf 1 (bs.flatMap (·.head))) t.xr).vDone t va.isQ false vd q (mergeFlags act res)

/-- The bytes of a PS block as a number: E, μ, then the 16 elements of b + 1 bits (R86). -/
def psPack (b : Nat) (k : Block) : Nat :=
  natOf 1 k.head + 2 ^ 16 * (k.res.zipIdx.map fun p => p.1.val * 2 ^ ((b + 1) * p.2)).sum

/-- The size of a PS block in bytes. -/
def psSize (b : Nat) : Nat := 2 + 2 * (b + 1)

/-- VQPS (R145): the blocks are packed from byte 0. -/
def execVqps (fmt : PsFmt) (sty : FTy) (rs : RSel) (vd va : VReg) (pg : PReg) (e : Bool) (s : State) : Out :=
  s.issue 1 e [.v va] [.v vd] fun t =>
    let sz := sty.size
    let n := vbytes / sz
    let b := PsFmt.bits fmt
    let (ca, s1) := s.takeV va
    let act := actives sz (t.pred pg) n 0
    let bs := (chunks 16 (n / 16) (blockVals (fracBits sty) act (elems sz ca.val))).map (psBlock b t.xr (t.selRm rs))
    let res := bs.flatMap (·.res)
    match t.cvmTrap, lowestEvent act res with
    | true, some det => s.trap (causeOf 3 1 det)
    | _, _ =>
      s1.vDone t va.isQ false vd (vecOf (psSize b) (bs.map (psPack b))) (mergeFlags act res)

/-- The value of element i of a PS block read as a number (R87); none in a NaN block. -/
def psRead (b : Nat) (xr : Bool) (blk i : Nat) : FVal :=
  let ee := blk % 256
  if ee = 255 ∧ !xr then .nan
  else
    let mu := blk / 256 % 256
    let w := blk / 2 ^ (16 + (b + 1) * i) % 2 ^ (b + 1)
    let m := w % 2 ^ b
    let low : Int := if mu / 2 ^ (i / 2) % 2 = 1 then 1 else 0
    .fin (decide (2 ^ b ≤ w) && m != 0) m ((ee : Int) - 127 - low - ((b : Int) - 1))

/-- The magnitude bits of VDQ's PS formats; none for MXINT8. -/
def DqFmt.psBits : DqFmt → Option Nat
  | .ps3 => some 2 | .ps5 => some 4 | .ps8 => some 7 | .mx => none

/-- The values that a PS register holds: its whole blocks (R86). -/
def psVals (b : Nat) (xr : Bool) (v : VWord) : List FVal :=
  ((elems (psSize b) v).take (vbytes / psSize b)).flatMap fun blk =>
    (numsFrom 0 16).map fun i => psRead b xr blk i

/-- Element q of an MXINT8 block of scale X (R85). -/
def mxRead (x q : Nat) : FVal :=
  if x = 255 then .nan else .fin (decide (sgn 1 q < 0)) (sgn 1 q).natAbs ((x : Int) - 133)

/-- The values of an MXINT8 pair. -/
def mxVals (v c : VWord) : List FVal :=
  (elems 1 v).zipIdx.map fun p => mxRead (elem 1 c (p.2 / 32)) p.1

/-- The source values rounded to the destination type. MXINT8's element −128 at X = 254 is −2^128, which neither BF16 nor FP32 holds:
R94 calls the conversion exact, and the model takes R82's overflow for it, with OF and NX (DESIGN CHOICE; log entry 81). -/
def dqResults (f : Nat) (r : Nat → Rnd) : Nat → List FVal → List ERes
  | _, [] => []
  | i, v :: vs => ERes.ofPair (froundVal f (r i) v) :: dqResults f r (i + 1) vs

/-- Whether the word that a PS source gives carries another XR than the strand's (R130). -/
def State.xrMismatch (s : State) (t : Strand) (va : VReg) : Bool := (s.takeV va).1.xr != t.xr

/-- VDQ (R146): destination elements beyond the source's are written zero. -/
def execVdq (dty : FTy) (fmt : DqFmt) (rs : RSel) (vd va : VReg) (pg : PReg) (e : Bool) (s : State) : Out :=
  let srcs : List Opnd := if fmt = .mx then [.v va, .v (nextReg va)] else [.v va]
  s.issue 1 e srcs [.v vd] fun t =>
    if fmt ≠ .mx ∧ s.xrMismatch t va = true then s.trap 0x0CB
    else
      let sz := dty.size
      let n := vbytes / sz
      let sr := t.selSr rs (dty == .bf16)
      let rm := t.selRm rs
      let (ca, s1) := s.takeV va
      let vals := match DqFmt.psBits fmt with
        | some b => psVals b t.xr ca.val
        | none => mxVals ca.val (s.oldV t (nextReg va))
      let res := dqResults (fracBits dty) (fun i => t.elemRnd sr rm i) 0 (vals.take n)
      let pad := List.replicate (n - res.length) ({ val := 0 } : ERes)
      s1.vMerge s t va.isQ sr sz vd pg (res ++ pad)

end Sys2Proof.Machine
end

