-- ==== Sys2Proof/Machine/VMove.lean ====
section
/-! DEFINITION. Vector movement: major 0x23 (R130, R138, R62, R100). -/

namespace Sys2Proof.Machine

/-- An element of a list, 0 beyond its end. -/
def nth (l : List Nat) (i : Nat) : Nat := l.getD i 0

/-- n results of elements from their numbers. -/
def genElems (n : Nat) (f : Nat → Nat) : List ERes := (numsFrom 0 n).map fun i => { val := f i }

/-- VSEL (R138): the predicate chooses, and every element is written. -/
def execVsel (ty : ETy) (vd va vb : VReg) (pg : PReg) (e : Bool) (s : State) : Out :=
  s.issue 1 e [.v va, .v vb] [.v vd] fun t =>
    let (ca, s) := s.takeV va
    let (cb, s) := s.takeV vb
    let act := actives ty.size (t.pred pg) (vbytes / ty.size) 0
    let rs := (elems ty.size ca.val).map fun (x : Nat) => ({ val := x } : ERes)
    s.vDone t (va.isQ || vb.isQ) false vd (vecOf ty.size (mergeElems (elems ty.size cb.val) act rs)) 0

/-- VMOV (R138): a word of a q source brings its XR bit (R130). -/
def execVmov (ty : ETy) (vd va : VReg) (pg : PReg) (e : Bool) (s : State) : Out :=
  s.issue 1 e [.v va] [.v vd] fun t =>
    let (ca, s) := s.takeV va
    let act := actives ty.size (t.pred pg) (vbytes / ty.size) 0
    let rs := (elems ty.size ca.val).map fun (x : Nat) => ({ val := x } : ERes)
    let v := vecOf ty.size (mergeElems (elems ty.size (s.oldV t vd)) act rs)
    (s.finishV t va.isQ vd v (if va.isQ && !vd.isQ then ca.xr else t.xr)).advance

/-- VBCAST (R138): the low bytes of x[a]. -/
def execVbcast (ty : ETy) (vd : VReg) (a : SReg) (pg : PReg) (e : Bool) (s : State) : Out :=
  s.issue 1 e [.s a] [.v vd] fun t =>
    s.vMerge s t false false ty.size vd pg
      (genElems (vbytes / ty.size) fun _ => (s.sval t a).toNat % 2 ^ (8 * ty.size))

/-- Whether elements of a type are sign-extended into a scalar (R138). -/
def ETy.isInt : ETy → Bool
  | .i8 => true | .i16 => true | .i32 => true | .i64 => true | .bf16 => false | .f32 => false

/-- VEXT (R138). -/
def execVext (ty : ETy) (d : SReg) (va : VReg) (b : SReg) (e : Bool) (s : State) : Out :=
  s.issue 1 e [.v va, .s b] [.s d] fun t =>
    let (ca, s) := s.takeV va
    let i := (s.sval t b).toNat
    let x := if i < vbytes / ty.size then elem ty.size ca.val i else 0
    (s.finishS t va.isQ d (if ETy.isInt ty then sext (8 * ty.size) x else BitVec.ofNat 64 x)).advance

/-- VPERM (R138). -/
def execVperm (ty : ITy) (vd va vb : VReg) (pg : PReg) (e : Bool) (s : State) : Out :=
  s.vwise ty.size vd va (.v vb) false pg e false fun _ a b _ => b.map fun i => { val := nth a i }

/-- VZIP (R138). -/
def execVzip (ty : ETy) (vd va vb : VReg) (pg : PReg) (e : Bool) (s : State) : Out :=
  s.vwise ty.size vd va (.v vb) false pg e false fun _ a b _ =>
    genElems a.length fun i => if i % 2 = 0 then nth a (i / 2) else nth b (i / 2)

/-- VUZP (R138). -/
def execVuzp (ty : ETy) (vd va vb : VReg) (pg : PReg) (e : Bool) (s : State) : Out :=
  s.vwise ty.size vd va (.v vb) false pg e false fun _ a b _ =>
    genElems a.length fun i => if i < a.length / 2 then nth a (2 * i) else nth b (2 * i - a.length)

/-- A slide: the whole of x[b], read unsigned, is the distance. -/
def State.slide (s : State) (ty : ETy) (vd va : VReg) (b : SReg) (pg : PReg) (e : Bool)
    (f : List Nat → Nat → Nat → Nat) : Out :=
  s.issue 1 e [.v va, .s b] [.v vd] fun t =>
    let (ca, s1) := s.takeV va
    let l := elems ty.size ca.val
    s1.vMerge s t va.isQ false ty.size vd pg (genElems l.length (f l (s.sval t b).toNat))

/-- VSLIDE.up (R138). -/
def execVslideUp (ty : ETy) (vd va : VReg) (b : SReg) (pg : PReg) (e : Bool) (s : State) : Out :=
  s.slide ty vd va b pg e fun l n i => if n ≤ i then nth l (i - n) else 0

/-- VSLIDE.dn (R138). -/
def execVslideDn (ty : ETy) (vd va : VReg) (b : SReg) (pg : PReg) (e : Bool) (s : State) : Out :=
  s.slide ty vd va b pg e fun l n i => if i + n < l.length then nth l (i + n) else 0

/-- VBCASTH's value in elements of f fraction bits (R100): a NaN is made quiet. -/
def hconst (imm : BitVec 16) : Nat := if isNaN 7 imm.toNat then quiet 7 imm.toNat else imm.toNat

/-- VBCASTH (R62, R138): every element of vd. -/
def State.bcasth (s : State) (sz : Nat) (v : Nat) (vd : VReg) (e : Bool) : Out :=
  s.issue 1 e [] [.v vd] fun t => s.vDone t false false vd (vecOf sz (List.replicate (vbytes / sz) v)) 0

/-- VBCASTH.bf16. -/
def execVbcasthBf16 (vd : VReg) (imm : BitVec 16) (e : Bool) (s : State) : Out := s.bcasth 2 (hconst imm) vd e

/-- VBCASTH.f32. -/
def execVbcasthF32 (vd : VReg) (imm : BitVec 16) (e : Bool) (s : State) : Out := s.bcasth 4 (hconst imm * 65536) vd e

end Sys2Proof.Machine
end

