-- ==== Sys2Proof/Machine/VSpecial.lean ====
section
/-! DEFINITION. Special operations: major 0x26 (R88, R147 to R153), and the shared special-function unit. -/

namespace Sys2Proof.Machine

/-! ### VHAD32 (R147) -/

/-- A value halved exactly. -/
def FVal.half : FVal → FVal
  | .nan => .nan
  | .inf n => .inf n
  | .fin n m e => .fin n m (e - 1)

/-- The sum and difference of a floating butterfly, halved when asked. -/
def fButterfly (f : Nat) (rm : RM) (half : Bool) (a b : Nat) : (Nat × FlagSet) × (Nat × FlagSet) :=
  match firstNaN f [a, b] with
  | some p => ((p, 0), (p, 0))
  | none =>
    let h (v : FVal) : FVal := if half then v.half else v
    (faddVal f (.m rm) (h (fval f a)) (h (fval f b)), faddVal f (.m rm) (h (fval f a)) (h (fval f (fnegPat f b))))

/-- The sum and difference of an integer butterfly. -/
def iButterfly (s : Nat) (half : Bool) (a b : Nat) : (Nat × FlagSet) × (Nat × FlagSet) :=
  let d : Int := if half then 2 else 1
  let u := satT s ((sgn s a + sgn s b) / d)
  let w := satT s ((sgn s a - sgn s b) / d)
  ((u.val, u.fl), (w.val, w.fl))

/-- One stage over a group: elements i and i + 2^j, bit j of i clear. -/
def hadStage (bf : Bool → Nat → Nat → (Nat × FlagSet) × (Nat × FlagSet)) (half : Bool) (j : Nat) (g : List Nat) :
    List Nat × FlagSet :=
  let at_ (i : Nat) : Nat × FlagSet :=
    if i / 2 ^ j % 2 = 0 then (bf half (nth g i) (nth g (i + 2 ^ j))).1 else (bf half (nth g (i - 2 ^ j)) (nth g i)).2
  let r := (numsFrom 0 g.length).map at_
  (r.map (·.1), flagsOf (r.map (·.2)))

/-- The five stages over a group of 32 elements: the results, each with the group's flags. -/
def hadGroup (bf : Bool → Nat → Nat → (Nat × FlagSet) × (Nat × FlagSet)) (m : BitVec 5) (g : List Nat) : List ERes :=
  let r := [0, 1, 2, 3, 4].foldl (fun (acc : List Nat × FlagSet) j =>
    let x := hadStage bf (m.getLsbD j) j acc.1
    (x.1, acc.2 ||| x.2)) (g, 0)
  r.1.map fun v => { val := v, fl := r.2 }

/-- VHAD32 (R147). -/
def execVhad32 (ty : ETy) (vd va : VReg) (m : BitVec 5) (pg : PReg) (e : Bool) (s : State) : Out :=
  s.vwise ty.size vd va (.n 0) false pg e false fun t a _ _ =>
    let bf := match ETy.frac ty with
      | some f => fButterfly f t.rm
      | none => iButterfly ty.size
    (chunks 32 (a.length / 32) a).flatMap (hadGroup bf m)

/-! ### VMAXX (R148) -/

/-- VMAXX (R148): the maximum with the element at the index with bit k inverted. -/
def execVmaxx (ty : ETy) (vd va : VReg) (k : BitVec 5) (pg : PReg) (e : Bool) (s : State) : Out :=
  s.vwise ty.size vd va (.n 0) false pg e false fun _ a _ _ =>
    (numsFrom 0 a.length).map fun i =>
      let x := nth a i
      let y := nth a (Nat.xor i (2 ^ k.toNat))
      match ETy.frac ty with
      | some f => { val := fmaxP f x y }
      | none => viMax ty.size x y 0

/-! ### Trit segments (R88, R149, R150) -/

/-- Whether a byte of a segment is a bad pack code (R88). -/
def badPack (i b : Nat) : Bool := decide (243 ≤ b) || (i == 12 && (decide (b < 81) || decide (161 < b)))

/-- Digit k of a trit byte as a trit. -/
def tritDigit (b k : Nat) : Int := (b / 3 ^ k % 3 : Nat) - 1

/-- Trit j of a segment of 13 bytes; none from a bad pack code. -/
def segTrit (seg : List Nat) (j : Nat) : Option Int :=
  let b := nth seg (j / 5)
  if badPack (j / 5) b then none else some (tritDigit b (j % 5))

/-- The bytes of segment c of a register; none when it does not lie wholly within it. -/
def segBytes (v : VWord) (c : Nat) : Option (List Nat) :=
  if 13 * c + 13 ≤ vbytes then some ((numsFrom (13 * c) 13).map fun i => elem 1 v i) else none

/-- The 64 elements of a segment. -/
def unpackSeg (v : VWord) (c : Nat) : List ERes :=
  match segBytes v c with
  | none => List.replicate 64 { val := 0 }
  | some seg => (numsFrom 0 64).map fun j =>
      match segTrit seg j with
      | some x => { val := ofSigned 8 x }
      | none => { val := 0, ev := some 4 }

/-- VUNPK5 (R149). -/
def execVunpk5 (vd va : VReg) (h : BitVec 4) (pg : PReg) (e : Bool) (s : State) : Out :=
  s.issue 1 e [.v va] [.v vd] fun t =>
    let (ca, s1) := s.takeV va
    s1.vMerge s t va.isQ false 1 vd pg ((numsFrom (h.toNat * 4) 4).flatMap (unpackSeg ca.val))

/-- A trit with the range event of VPACK5. -/
def packTrit (p : Nat) : ERes :=
  let x := sgn 1 p
  if 1 < x then { val := 2, fl := flSAT, ev := some 2 }
  else if x < -1 then { val := 0, fl := flSAT, ev := some 2 }
  else { val := (x + 1).toNat }

/-- A byte of five digits, lowest first. -/
def packByte : List Nat → Nat
  | [] => 0
  | d :: ds => d + 3 * packByte ds

/-- The 13 bytes of 64 digits; the padding digit is a zero trit. -/
def packSeg (ds : List Nat) : List Nat := (chunks 5 13 (ds ++ [1])).map packByte

/-- VPACK5 (R150): bytes outside the written segments keep their values; a segment not wholly within vd is not
written and raises nothing. -/
def execVpack5 (vd va : VReg) (h : BitVec 4) (pg : PReg) (e : Bool) (s : State) : Out :=
  s.issue 1 e [.v va] [.v vd] fun t =>
    let (ca, s1) := s.takeV va
    let first := h.toNat * 4
    let act := (actives 1 (t.pred pg) vbytes 0).zipIdx.map fun p =>
      p.1 && decide (13 * (first + p.2 / 64) + 13 ≤ vbytes)
    let res := (elems 1 ca.val).map packTrit
    match t.cvmTrap, lowestEvent act res with
    | true, some det => s.trap (causeOf 3 1 det)
    | _, _ =>
      let digits := mergeElems (List.replicate vbytes 1) act res
      let segs := (chunks 64 4 digits).flatMap packSeg
      let old := elems 1 (s1.oldV t vd)
      let v := (numsFrom 0 vbytes).map fun i =>
        if 13 * first ≤ i ∧ i / 13 < first + 4 ∧ 13 * (i / 13) + 13 ≤ vbytes then nth segs (i - 13 * first)
        else nth old i
      s1.vDone t va.isQ false vd (vecOf 1 v) (mergeFlags act res)

/-! ### VSFU (R151, R152) -/

/-- VSFU at issue: a place in the station's queue of 16. -/
def execVsfu (fn : SfuFn) (ty : FTy) (vd va : VReg) (pg : PReg) (e : Bool) (s : State) : Out :=
  s.issue 1 e [.v va] [.v vd] fun t =>
    if 16 ≤ (s.station s.curStation).sfu.length then s.hold (.issue .plain)
    else
      let old := s.oldV t vd
      let (ca, s) := s.takeV va
      let id := s.nextId
      let s := s.pendV t vd { emptyRes t (.v vd) with value := old, xr := t.xr }
      let q : SfuReq := { tag := t.tag, res := id, fn := fn, f32 := ty == .f32, rm := t.rm, src := ca.val,
                          pred := t.pred pg }
      (s.modStation s.curStation fun S => { S with sfu := S.sfu ++ [q] }).advance

/-- The result of a request over the old value, with its flags. -/
def SfuReq.result (q : SfuReq) (old : VWord) : VWord × FlagSet :=
  let sz := if q.f32 then 4 else 2
  let f := if q.f32 then 23 else 7
  let act := actives sz q.pred (vbytes / sz) 0
  let res := act.zipWith (fun a p => if a then ERes.ofPair (sfuElem q.fn f q.rm p) else { val := p }) (elems sz q.src)
  (vecOf sz (mergeElems (elems sz old) act res), mergeFlags act res)

/-- VSFU_SERVE (R152): the head of a station's queue is served; its result will arrive. The request of a frozen slot is removed
without effect, and its destination is left empty. -/
def execVsfuServe (station : Nat) (s : State) : Out :=
  .next (match (s.station station).sfu with
    | [] => s
    | q :: rest =>
      let s := s.modStation station fun S => { S with sfu := rest }
      if ((s.findTag q.tag).map fun t : Strand => t.frozen.isSome).getD false then
        { s with results := tblDel s.results q.res }
      else
      match tblGet s.results q.res with
      | none => s
      | some r =>
        let (v, fl) := q.result r.value
        s.modResult q.res fun r => { r with value := v, sticky := r.sticky ||| fl, ready := true })

/-! ### VRED (R153) -/

/-- A node of the tree; none is an identity, which returns the other input exactly. -/
def redNode (op : Nat → Nat → Nat × FlagSet) : Option Nat → Option Nat → Option Nat × FlagSet
  | none, y => (y, 0)
  | x, none => (x, 0)
  | some x, some y =>
    let r := op x y
    (some r.1, r.2)

/-- One level of the tree. -/
def redLevel (op : Nat → Nat → Nat × FlagSet) : List (Option Nat) → List (Option Nat) × FlagSet
  | a :: b :: rest =>
    let n := redNode op a b
    let r := redLevel op rest
    (n.1 :: r.1, n.2 ||| r.2)
  | l => (l, 0)

/-- The tree, over at most 2^k values. -/
def redTree (op : Nat → Nat → Nat × FlagSet) : Nat → List (Option Nat) → Option Nat × FlagSet
  | 0, l => ((l.head?).getD none, 0)
  | k + 1, l =>
    let r := redLevel op l
    let t := redTree op k r.1
    (t.1, r.2 ||| t.2)

/-- The identity of an operation on elements of s bytes, or of f fraction bits. -/
def redIdentity (op : RedOp) (s f : Nat) : Nat :=
  match op with
  | .add => 0
  | .or => 0
  | .xor => 0
  | .maxu => 0
  | .min => 2 ^ (8 * s - 1) - 1
  | .max => 2 ^ (8 * s - 1)
  | .minu => 2 ^ (8 * s) - 1
  | .and => 2 ^ (8 * s) - 1
  | .fadd => fzeroPat f true
  | .fmin => finfPat f false
  | .fmax => finfPat f true

/-- The combination of the active values. -/
def redOf (op : RedOp) (s f : Nat) (rm : RM) (l : List (Option Nat)) : Nat × FlagSet :=
  let pure2 (g : Nat → Nat → Nat) (a b : Nat) : Nat × FlagSet := (g a b, 0)
  let tree (g : Nat → Nat → Nat × FlagSet) : Nat × FlagSet :=
    let r := redTree g 8 l
    (r.1.getD (redIdentity op s f), r.2)
  let ftree (g : Nat → Nat → Nat × FlagSet) : Nat × FlagSet :=
    let r := tree g
    (if isNaN f r.1 then quiet f r.1 else r.1, r.2)
  match op with
  | .add =>
    let r := satT s ((l.map fun o => match o with | some x => sgn s x | none => 0).sum)
    (r.val, r.fl)
  | .min => tree fun a b => ((viMin s a b 0).val, 0)
  | .max => tree fun a b => ((viMax s a b 0).val, 0)
  | .minu => tree (pure2 Nat.min)
  | .maxu => tree (pure2 Nat.max)
  | .and => tree (pure2 Nat.land)
  | .or => tree (pure2 Nat.lor)
  | .xor => tree (pure2 Nat.xor)
  | .fadd => ftree (faddP f (.m rm))
  | .fmin => ftree (pure2 (fminP f))
  | .fmax => ftree (pure2 (fmaxP f))

/-- VRED (R153): the predicate chooses the elements and does not govern vd. -/
def execVred (op : RedOp) (ty : ETy) (vd va : VReg) (pg : PReg) (e : Bool) (s : State) : Out :=
  s.issue 1 e [.v va] [.v vd] fun t =>
    let sz := ty.size
    let (ca, s1) := s.takeV va
    let act := actives sz (t.pred pg) (vbytes / sz) 0
    let l := act.zipWith (fun a (p : Nat) => if a then some p else none) (elems sz ca.val)
    let (v, fl) := redOf op sz ((ETy.frac ty).getD 23) t.rm l
    s1.vDone t va.isQ false vd (BitVec.ofNat 2048 v) fl

end Sys2Proof.Machine
end

