-- ==== Sys2Proof/Machine/Matrix.lean ====
section
/-! DEFINITION. The ternary matrix engine at issue: major 0x30 (R156 to R162, R167 to R177). -/

namespace Sys2Proof.Machine

/-- An instruction of major 0x30 whose word names some registers: illegal for a loose strand (R157), after BADOPND (R54). -/
def State.missueOf (s : State) (names : List Opnd) (e : Bool) (srcs dsts : List Opnd) (f : Strand → State) : Out :=
  match s.curStrand with
  | none => .next s
  | some t =>
    if t.loose then .next (if names.any Opnd.shared then s.illegal 2 4 else s.illegal 2 7)
    else s.issue 2 e srcs dsts f

/-- One that reads or writes every register it names. -/
def State.missue (s : State) (e : Bool) (srcs dsts : List Opnd) (f : Strand → State) : Out :=
  s.missueOf (srcs ++ dsts) e srcs dsts f

/-! ### The queue (R158, R174) -/

/-- The configuration word of the engine (R167). -/
def Engine.config (g : Engine) : BitVec 12 :=
  BitVec.ofNat 12 (g.mxint.toNat * 2 ^ 11 + g.mg.val * 2 ^ 8 + g.bp.toNat)

/-- The last configuration of a list of entries. -/
def lastCfg : List MItem → Option (BitVec 12)
  | [] => none
  | i :: rest =>
    match lastCfg rest with
    | some w => some w
    | none => match i.e with
      | .mcfg w => some w
      | .mstep _ _ _ => none
      | .mzero _ => none
      | .mswap _ _ => none
      | .mdrain _ _ _ _ _ _ => none
      | .mstat _ _ _ => none

/-- The configuration that a check at issue uses: that of the last MCFG performed before the entry (R159). An entry that joins the
held ones is performed after those of the handler's queue (R174). -/
def Engine.issueConfig (g : Engine) (ahead : Bool) : BitVec 12 :=
  (lastCfg (if ahead then g.handlerQ else g.handlerQ ++ g.queue)).getD g.config

/-- Entering the queue of 16, or waiting at issue (R158). -/
def State.menter (s : State) (t : Strand) (en : MEntry) : State :=
  let st := s.curStation
  let g := (s.station st).eng
  let ahead := t.ahead 2 g.halted
  if 16 ≤ (if ahead then g.handlerQ else g.queue).length then s.hold (.issue .engine)
  else
    let i : MItem := { n := g.entered, tag := t.tag, grid := t.grid, slot := s.cur, pc := t.pc, e := en }
    (s.modStation st fun S => { S with eng := { S.eng with
      entered := S.eng.entered + 1
      queue := if ahead then S.eng.queue else S.eng.queue ++ [i]
      handlerQ := if ahead then S.eng.handlerQ ++ [i] else S.eng.handlerQ } }).advance

/-- Whether the queue has room for the strand's entry. -/
def State.mroom (s : State) (t : Strand) : Bool :=
  let g := (s.station s.curStation).eng
  decide ((if t.ahead 2 g.halted then g.handlerQ else g.queue).length < 16)

/-- MCFG (R167). -/
def execMcfg (a : SReg) (e : Bool) (s : State) : Out :=
  s.missue e [.s a] [] fun t =>
    let w := s.sval t a
    if bits w 63 12 ≠ 0 ∨ bits w 7 6 ≠ 0 ∨ 40 < bits w 5 0 then s.fault 0x111
    else s.menter t (.mcfg (w.setWidth 12))

/-- MSTEP (R169): the words are taken only when the entry has a place. -/
def execMstep (a b : VReg) (g : Fin 8) (e : Bool) (s : State) : Out :=
  let mx := (s.curStrand.map fun t =>
    let eng := (s.station s.curStation).eng
    (eng.issueConfig (t.ahead 2 eng.halted)).getLsbD 11).getD false
  s.missueOf [.v a, .v b] e (if mx then [.v a, .v b] else [.v a]) [] fun t =>
    let eng := (s.station s.curStation).eng
    let cfg := eng.issueConfig (t.ahead 2 eng.halted)
    if 4 * (cfg.toNat / 256 % 8 + 1) ≤ 4 * g.val + 3 then s.fault 0x112
    else if !s.mroom t then s.hold (.issue .engine)
    else
      let (ca, s) := s.takeV a
      let (cb, s) : VCell × State := if mx then s.takeV b else ({}, s)
      s.menter t (.mstep g ca.val cb.val)

/-- MZERO (R170). -/
def execMzero (back e : Bool) (s : State) : Out := s.missue e [] [] fun t => s.menter t (.mzero back)

/-- MSWAP.l (R170). -/
def execMswapL (e : Bool) (s : State) : Out := s.missue e [] [] fun t => s.menter t (.mswap true false)

/-- MSWAP.a (R170). -/
def execMswapA (e : Bool) (s : State) : Out := s.missue e [] [] fun t => s.menter t (.mswap false true)

/-- MSWAP.la (R170). -/
def execMswapLa (e : Bool) (s : State) : Out := s.missue e [] [] fun t => s.menter t (.mswap true true)

/-- Whether a drain's destination word is malformed or names no compute station of the section (R171). -/
def State.drainDestBad (s : State) (ctx : Nat) (w : Word) : Bool :=
  bits w 63 43 != 0 ||
  (if bit w 42 then !s.inSection ctx (stationOfWord w) else bits w 41 32 != 0)

/-- MDRAIN (R171). -/
def execMdrain (fmt : DrainFmt) (k : Compl) (back : Bool) (a b c : SReg) (e : Bool) (s : State) : Out :=
  s.missue e (if k = .none then [.s a] else [.s a, .s b, .s c]) [] fun t =>
    let w := s.sval t a
    if s.drainDestBad t.ctx w then s.faultAt 0x110 w
    else if bits w 31 0 % 64 ≠ 0 then s.faultAt 0x090 w
    else
      s.menter t (.mdrain fmt back w (s.captureAction t k (s.sval t b) (s.sval t c)) t.rm t.cvmTrap)

/-- MSTAT (R175): x[a] is marked empty at issue. -/
def execMstat (sel : Fin 7) (a b : SReg) (e : Bool) (s : State) : Out :=
  s.missue e [.s b] [.s a] fun t =>
    if !s.mroom t then s.hold (.issue .engine)
    else
      let id := s.nextId
      (s.pendS t a (emptyRes t (dstS a))).menter t (.mstat sel (s.sval t b) id)

/-- MWAIT (R177). -/
def execMwait (e : Bool) (s : State) : Out :=
  s.missue e [] [] fun t =>
    let mark := match t.hold with
      | .mwait m => m
      | _ => (s.station s.curStation).eng.entered
    if s.engDone s.curStation t mark then s.advance else s.hold (.mwait mark)

/-! ### MLDW (R160 to R162, R168) -/

/-- The bytes of an image (R89). -/
def LatchLoad.size (l : LatchLoad) : Nat := if l.c64 then 4160 else 896

/-- Whether an entry is an MSWAP of the latches. -/
def MItem.swapsL (i : MItem) : Bool :=
  match i.e with
  | .mswap l _ => l
  | .mcfg _ => false
  | .mstep _ _ _ => false
  | .mzero _ => false
  | .mdrain _ _ _ _ _ _ => false
  | .mstat _ _ _ => false

/-- Whether a strand holds an MLDW that issued earlier. -/
def Strand.loadsBefore (t : Strand) (n : Nat) : Bool :=
  match t.hold with
  | .mldw l => decide (l.order < n)
  | _ => false

/-- Whether an MLDW may begin: no MSWAP of the latches waits, none is in progress, and no earlier one waits. -/
def State.latchFree (s : State) (st n : Nat) : Bool :=
  let g := (s.station st).eng
  g.loading.isNone && !(g.queue ++ g.handlerQ).any MItem.swapsL &&
  !s.strands.any fun e => stationOf e.1 == st && e.2.loadsBefore n

/-- The requests for the lines of an image that miss, each for its missing bytes. -/
def State.addLatchFills (s : State) (t : Strand) (pend : List (Nat × Nat)) : List Nat → State
  | [] => s
  | l :: rest =>
    let m := pend.foldl (fun (m : BitVec 64) p => if p.2 / 64 = l then m ||| (1 <<< (p.2 % 64)) else m) 0
    let h := (s.station s.curStation).guesses l
    (s.addReq { s.reqOf t (.fill false) (BitVec.ofNat 64 (l * 64)) 2 with
        mask := m, age := s.nextAge, held := h.1, data := h.2 }).addLatchFills t pend rest

/-- Beginning the load: a plate image is read at the slice in issue order, with R40 for each byte and the protection
unit for the whole (R168, R196); a GVA image is read as the strand's loads are (R193). The bytes of an image that run past SLA
2^32 − 1 are out of range and do not wrap, which the rules leave open (DESIGN CHOICE; log entry 93). -/
def State.latchStart (s : State) (t : Strand) (l : LatchLoad) : State :=
  let st := s.curStation
  let begin_ (s : State) (l : LatchLoad) : State :=
    (s.modStation st fun S => { S with eng := { S.eng with loading := some t.tag } }).hold (.mldw { l with started := true })
  if l.sla then
    let a := l.base.toNat
    let n := l.size
    let inr := min n (s.plateSize st - a)
    if 0 < inr ∧ !(s.station st).protOk t.protKind false a inr then s.freezeProt 2 a
    else
      match s.recall (plateLoc st a) inr false with
      | some s' => s'.hold (.mldw l)
      | none =>
        let s := if inr < n then s.recordOor t.ctx (BitVec.ofNat 64 (a + inr)) else s
        begin_ s { l with image := s.plateNat st a n, poison := s.readPoison (plateLoc st a) inr }
  else
    let g := (s.station st).gather (byteList 0 l.base.toNat l.size)
    let s := begin_ s { l with image := g.value, poison := g.poison }
    s.addLatchFills t g.pend (linesOf g.pend)

/-- MLDW: the checks, then the wait for the latch, then the load. -/
def State.mldw (s : State) (sla tr c64 : Bool) (a : SReg) (e : Bool) : Out :=
  let go (s : State) (t : Strand) (l : LatchLoad) : State :=
    if l.started then s
    else if s.latchFree s.curStation l.order then s.latchStart t l
    else s.hold (.mldw l)
  match s.curStrand with
  | none => .next s
  | some t =>
    match t.hold with
    | .mldw l => .next (go s t l)
    | _ =>
      s.missue e [.s a] [] fun t =>
        let base := if sla then BitVec.ofNat 64 ((s.sval t a).toNat % 2 ^ 32) else s.sval t a
        if base.toNat % 128 ≠ 0 then s.faultAt 0x090 base
        else if !sla && !gvaOk s.cfg base then s.faultAt 0x092 base
        else
          let l : LatchLoad := { order := s.nextId, base := base, sla := sla, tr := tr, c64 := c64 }
          go { s with nextId := s.nextId + 1 } t l

/-- MLDW of a T64 image (R168). -/
def execMldwT64 (sla tr : Bool) (a : SReg) (e : Bool) (s : State) : Out := s.mldw sla tr false a e

/-- MLDW of a C64 image (R168). -/
def execMldwC64 (sla tr : Bool) (a : SReg) (e : Bool) (s : State) : Out := s.mldw sla tr true a e

/-! ### The end of a load -/

/-- The first bad pack code of a T64 image, from byte i on: its offset (R88, R162). -/
def firstBad (i : Nat) : List Nat → Option Nat
  | [] => none
  | b :: rest => if badPack (i % 13) b then some i else firstBad (i + 1) rest

/-- The weights of a T64 image in image order (column, then K), a bad byte's digits being zero trits. -/
def t64Weights (bytes : List Nat) : List Nat :=
  (chunks 13 64 bytes).flatMap fun seg =>
    (numsFrom 0 64).map fun j => match segTrit seg j with
      | some x => ofSigned 8 x
      | none => 0

/-- The transposition of 64 rows of 64. -/
def transpose64 (l : List Nat) : List Nat :=
  let rows := (chunks 64 64 l).toArray.map List.toArray
  (numsFrom 0 64).flatMap fun k => (numsFrom 0 64).map fun n => (rows.getD n #[]).getD k 0

/-- The latch that an image makes (R161): weight (k, n) stands at (k, n), or at (n, k) when TR = 1. -/
def latchOf (c64 tr : Bool) (image : Nat) : Latch :=
  let ws := if c64 then digits 1 4096 image else t64Weights (digits 1 832 image)
  let ws := if tr then transpose64 ws else ws
  { w := BitVec.ofNat 32768 (natOf 1 ws)
    scale := BitVec.ofNat 512 (image / 2 ^ (8 * (if c64 then 4096 else 832)))
    csd := c64, tr := tr }

/-- The back latch is written. -/
def Engine.loadBack (g : Engine) (x : Latch) : Engine := { g with latch := g.latch.set (1 - g.frontL) x }

/-- The sticky bits of R176. -/
def stNANIN : BitVec 9 := 0x100
def stBADPACK : BitVec 9 := 0x080
def stOVERFLOW : BitVec 9 := 0x040
def stINEXACT : BitVec 9 := 0x020
def stDSAT : BitVec 9 := 0x010
def stDNV : BitVec 9 := 0x008
def stDNX : BitVec 9 := 0x004

/-- The first bad address word (R176). -/
def badAddrWord (sla : Bool) (a : Nat) : Word :=
  BitVec.ofNat 64 (2 ^ 63 + (if sla then 2 ^ 62 + a % 2 ^ 32 else a % 2 ^ 57))

/-- Whether a strand's fill for its MLDW is outstanding. -/
def State.latchPending (s : State) (tag : Nat) : Bool :=
  s.reqs.any fun e => e.2.tag == tag && e.2.src == 2 && (match e.2.kind with | .fill _ => true | _ => false)

/-- MLDW_LOAD_DONE (R161, R162, R168): poison is the precise fault 0x1D0, a bad pack code under CVM = TRAP the precise
trap 0x0D4; otherwise the back latch takes the image. -/
def execMldwLoadDone (slot : Nat) (s : State) : Out :=
  .next (match s.slot slot with
    | none => s
    | some t =>
      match t.hold with
      | .mldw l =>
        let st := stationOf slot
        if !l.started || s.latchPending t.tag || t.frozen.isSome then s
        else
          let s := s.modStation st fun S => { S with eng := { S.eng with loading := none } }
          let bad := if l.c64 then none else firstBad 0 (digits 1 832 l.image)
          let at_ : State := { s with cur := slot }
          match l.poison, bad, t.cvmTrap with
          | some p, _, _ => at_.faultAt (causeOf 7 2 (if p = 1 then 2 else 0)) l.base
          | none, some _, true => at_.trap 0x0D4
          | none, _, _ =>
            let s := s.modStation st fun S => { S with eng := S.eng.loadBack (latchOf l.c64 l.tr l.image) }
            let s := match bad with
              | some i => s.modStation st fun S => { S with eng := { S.eng with
                  sticky := S.eng.sticky ||| stBADPACK
                  badAddr := if bit S.eng.badAddr 63 then S.eng.badAddr else badAddrWord l.sla (l.base.toNat + i) } }
              | none => s
            s.release slot
      | _ => s)

end Sys2Proof.Machine
end

