-- ==== Sys2Proof/Machine/MatrixEng.lean ====
section
/-! DEFINITION. The matrix engine performing its entries: the events of R91, R92, R159 to R166, R170 to R176. -/

namespace Sys2Proof.Machine

/-! ### The next entry (R159, R174) -/

/-- Whether the entry the engine performs next stands in the handler's queue; none when no entry may start. -/
def State.engTurn (s : State) (st : Nat) : Option Bool :=
  let g := (s.station st).eng
  if g.frozen.isSome then none
  else
    match g.halted with
    | none => some false
    | some tag =>
      match s.findTag tag with
      | some t => if t.ahead 2 g.halted then some true else none
      | none => none

/-- The entry performed next. -/
def State.engHead (s : State) (st : Nat) : Option MItem :=
  match s.engTurn st with
  | some true => (s.station st).eng.handlerQ.head?
  | some false => (s.station st).eng.queue.head?
  | none => none

/-- The entry performed next leaves its queue. -/
def State.engPop (s : State) (st : Nat) : State :=
  match s.engTurn st with
  | some true => s.modStation st fun S => { S with eng := { S.eng with handlerQ := S.eng.handlerQ.drop 1 } }
  | some false => s.modStation st fun S => { S with eng := { S.eng with queue := S.eng.queue.drop 1 } }
  | none => s

/-- Performing the next entry, when it is of the kind an event names. -/
def State.engPerform (s : State) (st : Nat) (f : MItem → Engine → Option Engine) : Out :=
  .next (match s.engHead st with
    | none => s
    | some i =>
      match f i (s.station st).eng with
      | none => s
      | some _ =>
        (s.engPop st).modStation st fun S => { S with eng := (f i S.eng).getD S.eng })

/-- MCFG_PERFORM (R167): nothing else changes. -/
def execMcfgPerform (station : Nat) (s : State) : Out :=
  s.engPerform station fun i g =>
    match i.e with
    | .mcfg w => some { g with mxint := w.getLsbD 11, mg := Fin.ofNat 8 (w.toNat / 256), bp := w.setWidth 6 }
    | _ => none

/-- The set that an entry names: active, or back. -/
def Engine.setOf (g : Engine) (back : Bool) : Fin 2 := if back then 1 - g.frontA else g.frontA

/-- MZERO_PERFORM (R170). -/
def execMzeroPerform (station : Nat) (s : State) : Out :=
  s.engPerform station fun i g =>
    match i.e with
    | .mzero back => some { g with acc := g.acc.set (g.setOf back) {} }
    | _ => none

/-- MSWAP_PERFORM (R170): a swap of the latches waits for an MLDW in progress. -/
def execMswapPerform (station : Nat) (s : State) : Out :=
  s.engPerform station fun i g =>
    match i.e with
    | .mswap l a =>
      if l && g.loading.isSome then none
      else some { g with frontL := if l then 1 - g.frontL else g.frontL, frontA := if a then 1 - g.frontA else g.frontA }
    | _ => none

/-! ### MSTEP (R91, R92, R163, R164, R166) -/

/-- The digits d_0 to d_(n−1) of CSD8 (R92). -/
def csdDigits : Nat → Int → List Int
  | 0, _ => []
  | n + 1, w =>
    let d : Int := if w % 2 = 0 then 0 else 2 - w % 4
    d :: csdDigits n ((w - d) / 2)

/-- A weight's digits by plane: one trit, or eight digits. -/
def Latch.planes (x : Latch) (w : Int) : List Int := if x.csd then csdDigits 8 w else [w]

/-- The columns of a latch, each with K ascending. -/
def Latch.cols (x : Latch) : List (List Int) := (chunks 64 64 (digits 1 4096 x.w.toNat)).map fun c => c.map (sgn 1)

/-- The scale code that the term for (k, n) uses (R161). -/
def Latch.scaleAt (x : Latch) (k n : Nat) : Nat := (x.scale.toNat >>> (8 * (if x.tr then k else n))) % 256

/-- Act(r, k) as an integer and its exponent; none in a NaN block (R163). -/
def actAt (mx : Bool) (a b : VWord) (r k : Nat) : Option (Int × Int) :=
  let q := sgn 1 (elem 1 a (64 * r + k))
  if mx then
    let x := elem 1 b (2 * r + k / 32)
    if x = 255 then none else some (q, (x : Int) - 133)
  else some (q, 0)

/-- v · 2^ex floored, and whether it is no integer (R91). -/
def floorPow (v ex : Int) : Int × Bool :=
  if 0 ≤ ex then (v * 2 ^ ex.toNat, false)
  else
    let d : Int := 2 ^ (-ex).toNat
    (v / d, v % d != 0)

/-- The terms of one weight by its planes from plane j on, summed; `ex` is the exponent of plane 0 in units of
2^−BP. -/
def planeSum (v : Int) (ex : Int) : Nat → List Int → Int × Bool
  | _, [] => (0, false)
  | j, d :: ds =>
    let r := planeSum v ex (j + 1) ds
    if d = 0 then r
    else
      let t := floorPow (v * d) (ex + j)
      (t.1 + r.1, t.2 || r.2)

/-- The sum of the terms for an element, over K from k on (R164): Act · w · 2^j · (8 + m) · 2^(e − 19) · 2^BP. -/
def colSum (x : Latch) (bp : Int) (n : Nat) : Nat → List (Option (Int × Int)) → List Int → Int × Bool
  | k, a :: as, w :: ws =>
    let r := colSum x bp n (k + 1) as ws
    match a with
    | none => r
    | some (q, ex) =>
      if w = 0 ∨ q = 0 then r
      else
        let c := x.scaleAt k n
        let t := planeSum (q * (8 + (c % 8 : Nat))) ((c / 8 : Nat) - 19 + bp + ex) 0 (x.planes w)
        (t.1 + r.1, t.2 || r.2)
  | _, _, _ => (0, false)

/-- An element after an instruction's sum: Sat64 once (R91). -/
def accAdd (raw : Nat) (sum : Int) : Nat × Bool :=
  let t := toSigned 64 raw + sum
  let y := clampInt (-(2 ^ 63)) (2 ^ 63 - 1) t
  (ofSigned 64 y, y != t)

/-- ⌈nz/16⌉ at its largest over the columns, for one plane and one range of K. -/
def segCost (cols : List (List Int)) : Nat :=
  cols.foldl (fun m c => max m (((c.filter (· != 0)).length + 15) / 16)) 0

/-- The cost of an MSTEP (R166). -/
def Latch.cost (x : Latch) (mx : Bool) : Nat :=
  let planes := (numsFrom 0 (if x.csd then 8 else 1)).map fun j =>
    x.cols.map fun c => c.map fun w => (x.planes w).getD j 0
  let segs := if mx then planes.flatMap fun p => [p.map (·.take 32), p.map (·.drop 32)] else planes
  max 1 (segs.map segCost).sum

/-- The rows of a group: the new raw values, and the sticky bits of floors and saturations. -/
def stepRow (x : Latch) (cols : List (List Int)) (bp : Int) (acts : List (Option (Int × Int))) (raws : List Nat) :
    List (Nat × BitVec 9) :=
  (cols.zip raws).zipIdx.map fun p =>
    let t := colSum x bp p.2 0 acts p.1.1
    let r := accAdd p.1.2 t.1
    (r.1, (if t.2 then stINEXACT else 0) ||| (if r.2 then stOVERFLOW else 0))

/-- Replacing the n-bit chunk g of a number. -/
def putChunk (v n g c : Nat) : Nat := (v / 2 ^ (n * (g + 1)) * 2 ^ n + c) * 2 ^ (n * g) + v % 2 ^ (n * g)

/-- MSTEP performed (R164). -/
def Engine.step (e : Engine) (g : Fin 8) (a b : VWord) : Engine :=
  let x := e.latch[e.frontL]
  let s := e.acc[e.frontA]
  let cols := x.cols
  let old := chunks 64 4 (digits 8 256 (s.raw.toNat / 2 ^ (16384 * g.val)))
  let acts := (numsFrom 0 4).map fun r => (numsFrom 0 64).map fun k => actAt e.mxint a b r k
  let rows := acts.zipWith (stepRow x cols e.bp.toNat) old
  let nanRows := acts.map fun l => l.any Option.isNone
  let st := rows.foldl (fun f r => r.foldl (fun f p => f ||| p.2) f) (0 : BitVec 9)
  let nan := natOf 8 (nanRows.map fun b => if b then 2 ^ 64 - 1 else 0)
  let c := x.cost e.mxint
  { e with
    acc := e.acc.set e.frontA {
      raw := BitVec.ofNat 131072 (putChunk s.raw.toNat 16384 g.val (natOf 8 (rows.flatMap fun r => r.map (·.1))))
      nan := s.nan ||| BitVec.ofNat 2048 (nan * 2 ^ (256 * g.val)) }
    sticky := e.sticky ||| st ||| (if nanRows.any id then stNANIN else 0)
    steps := e.steps + 1
    stepcyc := e.stepcyc + BitVec.ofNat 64 c
    lastc := BitVec.ofNat 64 c }

/-- MSTEP_PERFORM (R164). -/
def execMstepPerform (station : Nat) (s : State) : Out :=
  s.engPerform station fun i e =>
    match i.e with
    | .mstep g a b => some (e.step g a b)
    | _ => none

/-! ### MSTAT (R175, R176) -/

/-- The value that a selector reads; `behind` entries wait behind this one. -/
def Engine.stat (e : Engine) (sel : Fin 7) (behind : Nat) : Word :=
  match sel with
  | 0 => e.sticky.setWidth 64
  | 1 => e.badAddr
  | 2 => e.stepcyc
  | 3 => e.steps
  | 4 => e.lastc
  | 5 => BitVec.ofNat 64 (e.frontA.val * 2 ^ 21 + e.frontL.val * 2 ^ 20 + e.latch[(1 : Fin 2)].tr.toNat * 2 ^ 19 +
      e.latch[(1 : Fin 2)].csd.toNat * 2 ^ 18 + e.latch[(0 : Fin 2)].tr.toNat * 2 ^ 17 +
      e.latch[(0 : Fin 2)].csd.toNat * 2 ^ 16 + e.config.toNat)
  | 6 => BitVec.ofNat 64 (e.drain.isSome.toNat * 2 ^ 9 + e.halted.isSome.toNat * 2 ^ 8 + min behind 31)

/-- The clearing action of a nonzero x[b]. -/
def Engine.statClear (e : Engine) (sel : Fin 7) (b : Word) : Engine :=
  if b = 0 then e
  else
    match sel with
    | 0 => { e with sticky := e.sticky &&& ~~~b.setWidth 9 }
    | 1 => { e with badAddr := e.badAddr &&& 0x7FFFFFFFFFFFFFFF#64 }
    | 2 => { e with stepcyc := 0 }
    | 3 => { e with steps := 0 }
    | 4 => e
    | 5 => e
    | 6 => e

/-- MSTAT_PERFORM (R175): the value is read, then the clearing takes place; x[a] will be written full. -/
def execMstatPerform (station : Nat) (s : State) : Out :=
  .next (match s.engHead station with
    | none => s
    | some i =>
      match i.e with
      | .mstat sel b res =>
        let s := s.engPop station
        let e := (s.station station).eng
        let v := e.stat sel (e.queue.length + e.handlerQ.length)
        (s.modStation station fun S => { S with eng := S.eng.statClear sel b }).deliver res (v.setWidth 2048)
      | _ => s)

/-! ### MDRAIN (R172 to R174) -/

/-- One converted element: its pattern, the sticky bits, and the detail of a conversion event. -/
structure DElem where
  val : Nat
  fl : BitVec 9 := 0
  ev : Option Nat := none

/-- The conversion of an element (R172). -/
def drainElem (fmt : DrainFmt) (bp : Nat) (rm : RM) (raw : Nat) (nan : Bool) : DElem :=
  let x := toSigned 64 raw
  let fp (f : Nat) : DElem :=
    if nan then { val := defNaN f }
    else
      let r := roundInt2 f (.m rm) false x (-(bp : Int))
      { val := r.1, fl := if r.2.getLsbD 4 then stDNX else 0 }
  match fmt with
  | .a64 => { val := raw }
  | .i32 =>
    if nan then { val := 0, fl := stDNV, ev := some 0 }
    else
      let (i, lost) := roundInt rm (decide (x < 0)) x.natAbs (-(bp : Int))
      let r := satRange 4 i
      if r.ev.isSome then { val := r.val, fl := stDSAT, ev := r.ev }
      else { val := r.val, fl := if lost then stDNX else 0 }
  | .f32 => fp 23
  | .bf16 => fp 7

/-- The size of an element in bytes. -/
def DrainFmt.size : DrainFmt → Nat
  | .a64 => 8 | .i32 => 4 | .f32 => 4 | .bf16 => 2

/-- The elements of the rows in use of a set. -/
def Engine.drainElems (e : Engine) (s : AccSet) (fmt : DrainFmt) (rm : RM) : List DElem :=
  let n := 256 * (e.mg.val + 1)
  (digits 8 n s.raw.toNat).zipIdx.map fun p => drainElem fmt e.bp.toNat rm p.1 (s.nan.getLsbD p.2)

/-- A drain's bytes as a number, and their count: the elements, then an A64 drain's flag words. -/
def Engine.drainBytes (e : Engine) (s : AccSet) (fmt : DrainFmt) (l : List DElem) : Nat × Nat :=
  let n := l.length * (DrainFmt.size fmt)
  let v := natOf (DrainFmt.size fmt) (l.map (·.val))
  match fmt with
  | .a64 => (v + 2 ^ (8 * n) * (s.nan.toNat % 2 ^ (256 * (e.mg.val + 1))), n + 32 * (e.mg.val + 1))
  | .i32 => (v, n)
  | .f32 => (v, n)
  | .bf16 => (v, n)

/-- An event of an engine reaches its strand's boundary; a strand that has ended makes it a deferred fault (R174). -/
def State.unitEvent (s : State) (src tag grid slot : Nat) (code : Cause) : State :=
  match s.findTag tag with
  | some _ => s.modTag tag fun t => { t with events := t.events ++ [⟨code⟩] }
  | none => s.faultDeferred grid code (masterOf src) slot 0

/-- MDRAIN_CAPTURE (R172, R174): the drain buffer is empty; an event under CVM = TRAP removes the drain and halts the
queue. -/
def execMdrainCapture (station : Nat) (s : State) : Out :=
  .next (match s.engHead station with
    | none => s
    | some i =>
      match i.e with
      | .mdrain fmt back dest act rm trap =>
        let e := (s.station station).eng
        if e.drain.isSome then s
        else
          let a := e.acc[e.setOf back]
          let l := e.drainElems a fmt rm
          match trap, l.findSome? (·.ev) with
          | true, some det =>
            let s := (s.engPop station).modStation station fun S => { S with eng := { S.eng with halted := some i.tag, haltGrid := i.grid, haltMark := S.eng.entered } }
            s.unitEvent 2 i.tag i.grid i.slot (causeOf 3 2 det)
          | _, _ =>
            let fl := l.foldl (fun f d => f ||| d.fl) (0 : BitVec 9)
            let b := e.drainBytes a fmt l
            let d : Drain := { item := i, dest := dest, len := b.2, bytes := b.1, act := act }
            (s.engPop station).modStation station fun S => { S with eng := { S.eng with
              sticky := S.eng.sticky ||| fl, drain := some d } }
      | _ => s)

/-- Writing n bytes of a drain by writes of 64 bytes: none, with the state, when the protection unit refuses one. -/
def State.drainWrite (s : State) (dest ctx : Nat) (k : ProtKind) (bytes : Nat) : Nat → Nat → Nat → State × Option Nat
  | 0, _, _ => (s, none)
  | fuel + 1, sla, n =>
    if n = 0 then (s, none)
    else
      let a := sla % 2 ^ 32
      let m := min 64 n
      let inr := min m (s.plateSize dest - a)
      if 0 < inr ∧ !(s.station dest).protOk k true a inr then (s, some a)
      else
        let s := if inr < m then s.recordOor ctx (BitVec.ofNat 64 (a + inr)) else s
        let s := s.plateWrite dest a (bytesOf m bytes)
        s.drainWrite dest ctx k (bytes / 2 ^ (8 * m)) fuel (sla + 64) (n - m)

/-- MDRAIN_WRITE_DONE (R173): every byte is written, then the completion action is performed; a refusal freezes the
engine, and the drain is not written again (R381). The writes wait while the guest's cache holds a line (R213). -/
def execMdrainWriteDone (station : Nat) (s : State) : Out :=
  .next (match (s.station station).eng.drain, (s.station station).eng.frozen with
    | some d, none =>
      let i := d.item
      let remote := bit d.dest 42
      let dest := if remote then stationOfWord d.dest else station
      let sla := bits d.dest 31 0
      let ctx := ((s.gridOf i.grid).map (·.ctx)).getD 0
      let world := ((s.gridOf i.grid).map (·.world)).getD false
      let put (x : Option Drain) (s : State) : State := s.modStation station fun S => { S with eng := { S.eng with drain := x } }
      match s.recall (plateLoc dest sla) (min d.len (s.plateSize dest - sla)) with
      | some s' => s'
      | none =>
        match s.drainWrite dest ctx (if remote then .remote else .engine) d.bytes (d.len + 1) sla d.len with
        | (s, some a) =>
          (put (some { d with refused := true }) s).freezeEngine station (causeOf 5 2 6) i.grid (BitVec.ofNat 64 a)
        | (s, none) =>
          (put none s).doAction { kind := .proofPub, src := 2, tag := i.tag, slot := i.slot, station := station, grid := i.grid,
                                  ctx := ctx, world := world, pc := i.pc, age := i.n } d.act
    | _, _ => s)

end Sys2Proof.Machine
end

