-- ==== Sys2Proof/Machine/VMem.lean ====
section
/-! DEFINITION. Vector memory: major 0x24 (R139 to R142). -/

namespace Sys2Proof.Machine

/-- The active elements of a list of addresses, as (element, address), lowest first. -/
def activeAddrs (sz : Nat) (p : PWord) (f : Nat → Nat) : List (Nat × Nat) :=
  ((numsFrom 0 (vbytes / sz)).filter fun i => active sz p i).map fun i => (i, f i)

/-- The first fault of the addresses of active elements: MISALIGN before GVARANGE (R132, R139). -/
def vaddrFault (c : CfgTable) (sz : Nat) : List (Nat × Nat) → Option (Cause × Word)
  | [] => none
  | (_, a) :: rest =>
    let w : Word := BitVec.ofNat 64 a
    if a % sz ≠ 0 then some (0x088, w)
    else if !gvaOk c w then some (0x08A, w)
    else vaddrFault c sz rest

/-- The bytes of the elements, as (byte of the register, address). -/
def elemBytes (sz : Nat) (l : List (Nat × Nat)) : List (Nat × Nat) :=
  l.flatMap fun p => byteList (sz * p.1) p.2 sz

/-- The mask of the bytes of the register that the elements occupy. -/
def elemMask (sz : Nat) (l : List (Nat × Nat)) : Nat :=
  (l.map fun p => (2 ^ (8 * sz) - 1) * 2 ^ (8 * sz * p.1)).sum

/-- The old value without the bytes that the elements occupy. -/
def oldOutside (old : VWord) (m : Nat) : Nat := old.toNat - (old.toNat &&& m)

/-- A vector load from global addresses (R139, R141). -/
def State.vload (s : State) (t : Strand) (sz : Nat) (vd : VReg) (l : List (Nat × Nat)) (always : Bool) : State :=
  match vaddrFault s.cfg sz l with
  | some (c, a) => s.faultAt c a
  | none => (s.loadV t vd (elemBytes sz l) (oldOutside (s.oldV t vd) (elemMask sz l)) always).advance

/-- The bytes that elements of a register write, in element order: (address, byte). -/
def storeBytesOf (sz : Nat) (v : VWord) (l : List (Nat × Nat)) : List (Nat × Byte) :=
  l.flatMap fun p => addrBytes p.2 sz (elem sz v p.1)

/-- A vector store to global addresses (R139, R141). -/
def State.vstore (s : State) (t : Strand) (sz : Nat) (vd : VReg) (l : List (Nat × Nat)) : State :=
  match vaddrFault s.cfg sz l with
  | some (c, a) => s.faultAt c a
  | none => (s.storeBytes t (storeBytesOf sz (s.oldV t vd) l)).advance

/-- The contiguous addresses base + s · i, Trunc64 (R139). -/
def seqAddr (base : Word) (sz : Nat) (i : Nat) : Nat := (base + BitVec.ofNat 64 (sz * i)).toNat

/-- The scattered addresses Trunc64(A + Sext(vb_i)) (R141). -/
def offAddr (a : Word) (sz : Nat) (vb : VWord) (i : Nat) : Nat := (a + sext (8 * sz) (elem sz vb i)).toNat

/-- VLD (R139). -/
def execVld (ty : ETy) (vd : VReg) (a b : SReg) (pg : PReg) (e : Bool) (s : State) : Out :=
  s.issue 1 e [.s a, .s b] [.v vd] fun t =>
    let base := s.sval t a + s.sval t b
    s.vload t ty.size vd (activeAddrs ty.size (t.pred pg) (seqAddr base ty.size)) false

/-- VST (R139). -/
def execVst (ty : ETy) (vd : VReg) (a b : SReg) (pg : PReg) (e : Bool) (s : State) : Out :=
  s.issue 1 e [.s a, .s b, .v vd] [] fun t =>
    let base := s.sval t a + s.sval t b
    s.vstore t ty.size vd (activeAddrs ty.size (t.pred pg) (seqAddr base ty.size))

/-- VGATH (R141): vd is always marked empty. -/
def execVgath (ty : ETy) (vd : VReg) (a : SReg) (vb : VReg) (pg : PReg) (e : Bool) (s : State) : Out :=
  s.issue 1 e [.s a, .v vb] [.v vd] fun t =>
    s.vload t ty.size vd (activeAddrs ty.size (t.pred pg) (offAddr (s.sval t a) ty.size (s.oldV t vb))) true

/-- VSCAT (R141). -/
def execVscat (ty : ETy) (vd : VReg) (a : SReg) (vb : VReg) (pg : PReg) (e : Bool) (s : State) : Out :=
  s.issue 1 e [.s a, .v vb, .v vd] [] fun t =>
    s.vstore t ty.size vd (activeAddrs ty.size (t.pred pg) (offAddr (s.sval t a) ty.size (s.oldV t vb)))

/-! ### The plate forms (R140) -/

/-- The SLAs base + s · i; an SLA has 32 bits (R40). -/
def seqSla (base : Nat) (sz i : Nat) : Nat := (base + sz * i) % 2 ^ 32

/-- What a plate access meets before any byte moves: a misaligned element, or a refusal; otherwise the elements in
range, and the lowest SLA out of range, which an access that is refused does not record: R140 does not say (log entry 71). One
descriptor must cover every byte in range (R366). -/
inductive PlateLook where
  | misalign (sla : Nat)
  | refused (sla : Nat)
  | ok (inr : List (Nat × Nat)) (oor : Option Nat)

def State.plateLook (s : State) (t : Strand) (wr : Bool) (sz : Nat) (l : List (Nat × Nat)) : PlateLook :=
  let st := s.curStation
  match l.find? fun p => p.2 % sz != 0 with
  | some p => .misalign p.2
  | none =>
    let inr := l.filter fun p => decide (p.2 + sz ≤ s.plateSize st)
    let out := (l.filter fun p => !decide (p.2 + sz ≤ s.plateSize st)).map (·.2)
    let as := inr.map (·.2)
    match as.min?, as.max? with
    | some lo, some hi =>
      if (s.station st).protOk t.protKind wr lo (hi + sz - lo) then .ok inr out.min? else .refused lo
    | _, _ => .ok inr out.min?

/-- Recording an SLA out of range, if there is one. -/
def State.noteOor (s : State) (c : Nat) : Option Nat → State
  | none => s
  | some a => s.recordOor c (BitVec.ofNat 64 a)

/-- VLDS (R140). A poisoned result's report names the base SLA: R123 names the load's address and R140's load has several
(log entry 71). -/
def execVlds (ty : ETy) (vd : VReg) (a b : SReg) (pg : PReg) (e : Bool) (s : State) : Out :=
  s.issue 1 e [.s a, .s b] [.v vd] fun t =>
    let sz := ty.size
    let st := s.curStation
    let base := (s.sval t a + s.sval t b).toNat % 2 ^ 32
    let l := activeAddrs sz (t.pred pg) (seqSla base sz)
    match s.plateLook t false sz l with
    | .misalign x => s.faultAt 0x088 (BitVec.ofNat 64 x)
    | .refused x => s.freezeProt 1 x
    | .ok inr oor =>
      match s.recallPlate st (inr.map (·.2)) sz false with
      | some s' => s'.hold (.issue .plain)
      | none =>
        let s := s.noteOor t.ctx oor
        let v := oldOutside (s.oldV t vd) (elemMask sz l) +
          (inr.map fun p => s.plateNat st p.2 sz * 2 ^ (8 * sz * p.1)).sum
        match inr.findSome? fun p => (s.readPoison (plateLoc st p.2) sz) with
        | some k =>
          let c : VCell := ⟨0, true, t.xr, some ⟨t.pc, BitVec.ofNat 64 base, poisonCode 1 k, t.tag⟩⟩
          (s.setVcell s.cur vd c).advance
        | none => (s.putV s.cur vd (BitVec.ofNat 2048 v) t.xr).advance

/-- The 64 mask bits and bytes of a line. -/
def maskList (m : BitVec 64) (d : BitVec 512) : List (Bool × Byte) :=
  (numsFrom 0 64).map fun i => (m.getLsbD i, d.extractLsb' (8 * i) 8)

/-- Writing bytes of a plate, block by block. -/
def State.plateBytes (s : State) (st : Nat) (bytes : List (Nat × Byte)) : List Nat → State
  | [] => s
  | b :: rest =>
    let (m, d) := lineBytes b bytes
    ((s.writeBlock (plateLoc st (64 * b)) (maskList m d)).1).plateBytes st bytes rest

/-- VSTS (R140). -/
def execVsts (ty : ETy) (vd : VReg) (a b : SReg) (pg : PReg) (e : Bool) (s : State) : Out :=
  s.issue 1 e [.s a, .s b, .v vd] [] fun t =>
    let sz := ty.size
    let st := s.curStation
    let base := (s.sval t a + s.sval t b).toNat % 2 ^ 32
    match s.plateLook t true sz (activeAddrs sz (t.pred pg) (seqSla base sz)) with
    | .misalign x => s.faultAt 0x088 (BitVec.ofNat 64 x)
    | .refused x => s.freezeProt 1 x
    | .ok inr oor =>
      match s.recallPlate st (inr.map (·.2)) sz true with
      | some s' => s'.hold (.issue .plain)
      | none =>
      let bytes := storeBytesOf sz (s.oldV t vd) inr
      ((s.noteOor t.ctx oor).plateBytes st bytes (bytes.foldl (fun acc p => addOnce acc (p.1 / 64)) [])).advance

end Sys2Proof.Machine
end

