-- ==== Sys2Proof/Machine/Ports.lean ====
section
/-! DEFINITION. Ports: PBIND, PUNBIND, PSTAT, PSKIP (major 0x31), streams and channels (R35, R36, R207, R208, R230 to
R237). -/

namespace Sys2Proof.Machine

/-! ### Where strands stand in their course (R27, R232) -/

def Strand.cx (t : Strand) : Nat := t.chordCsr.toNat % 16
def Strand.cy (t : Strand) : Nat := t.chordCsr.toNat / 16 % 16
def Strand.wm1 (t : Strand) : Nat := t.chordCsr.toNat / 256 % 16
def Strand.hm1 (t : Strand) : Nat := t.chordCsr.toNat / 4096 % 16
def Strand.course (t : Strand) : Nat := t.courseCsr.toNat % 2 ^ 20
def Strand.stage (t : Strand) : Nat := t.stageCsr.toNat % 8
def Strand.sm1 (t : Strand) : Nat := t.stageCsr.toNat / 8

/-- The place of a channel's partner strand as (X, Y, stage); none for an edge channel (R232, R233). -/
def Strand.neighbour (t : Strand) (dir partner : Nat) : Option (Nat × Nat × Nat) :=
  if t.nm1.val < partner then none
  else
    match dir with
    | 0 => if t.cy = 0 then none else some (t.cx, t.cy - 1, t.stage)
    | 1 => if t.cy = t.hm1 then none else some (t.cx, t.cy + 1, t.stage)
    | 2 => if t.cx = t.wm1 then none else some (t.cx + 1, t.cy, t.stage)
    | 3 => if t.cx = 0 then none else some (t.cx - 1, t.cy, t.stage)
    | 4 => if t.stage = 0 then none else some (t.cx, t.cy, t.stage - 1)
    | _ => if t.stage = t.sm1 then none else some (t.cx, t.cy, t.stage + 1)

/-- Whether a strand of the same grid stands at a place with an index; within a stage, in the same course. -/
def Strand.standsAt (u t : Strand) (p : Nat × Nat × Nat) (idx : Nat) : Bool :=
  u.grid == t.grid && !u.loose && u.cx == p.1 && u.cy == p.2.1 && u.stage == p.2.2 && u.index.val == idx &&
  (u.stage != t.stage || u.course == t.course)

def chDir (c : Channel) : Nat := bits c.desc 61 59
def chPartner (c : Channel) : Nat := bits c.desc 58 56

/-- The opposite direction. -/
def oppDir : Nat → Nat
  | 0 => 1 | 1 => 0 | 2 => 3 | 3 => 2 | 4 => 5 | _ => 4

/-- The port of a partner strand that a channel end joins (R232). -/
def Strand.matchPort (u : Strand) (c : Channel) (idx : Nat) : Option (Fin 8) :=
  (List.finRange 8).find? fun q =>
    match u.ports[q] with
    | .channel d => d.sends != c.sends && !d.edge && d.peer.isNone && chDir d == oppDir (chDir c) && chPartner d == idx
    | .stream _ => false
    | .unbound => false

/-- Changing a port that is a channel. -/
def Strand.modChannel (t : Strand) (q : Fin 8) (f : Channel → Channel) : Strand :=
  match t.ports[q] with
  | .channel c => { t with ports := t.ports.set q (.channel (f c)) }
  | .stream _ => t
  | .unbound => t

/-- Joining a newly bound end with the partner's end, when the partner has bound it: the allowance is the smaller of
the two (R232, R233). Words of the sender's earlier binding that the receiver still holds count against it. -/
def State.linkChannel (s : State) (t : Strand) (q : Fin 8) (c : Channel) : State :=
  match t.neighbour (chDir c) (chPartner c) with
  | none => s
  | some p =>
    match s.allStrands.find? fun u => u.standsAt t p (chPartner c) with
    | none => s
    | some u =>
      match u.matchPort c t.index.val with
      | none => s
      | some r =>
        match u.ports[r] with
        | .channel d =>
          let m := min c.allow d.allow
          let used := if c.sends then d.buf.length + d.returns else 0
          let s := s.modTag t.tag fun t => t.modChannel q fun c => { c with
            peer := some (u.tag, r), credit := if c.sends then m - used else 0, owed := used - m }
          s.modTag u.tag fun u => u.modChannel r fun d => { d with
            peer := some (t.tag, q), credit := if d.sends then m else d.credit, owed := if d.sends then 0 else d.owed }
        | .stream _ => s
        | .unbound => s

/-! ### Streams (R231) -/

/-- The words of a stream lie at base + 64 · (S0 · i + S1 · j), i fastest. -/
def Stream.offset (p : Stream) (i j : Nat) : Word :=
  BitVec.ofInt 64 (64 * (toSigned 16 (bits p.desc 15 0) * i + toSigned 16 (bits p.desc 47 32) * j))

def Stream.c0 (p : Stream) : Nat := bits p.desc 31 20 + 1
def Stream.c1 (p : Stream) : Nat := bits p.desc 59 48 + 1

/-- The address of the word at a position: Trunc64 for a GVA, Trunc32 for an SLA. -/
def Stream.addr (p : Stream) (n : Nat) : Word :=
  let a := p.base + p.offset (n % p.c0) (n / p.c0)
  if p.sla then BitVec.ofNat 64 (a.toNat % 2 ^ 32) else a

/-- The addresses of the four corner words. -/
def Stream.corners (p : Stream) : List Word :=
  [p.base, p.base + p.offset (p.c0 - 1) 0, p.base + p.offset 0 (p.c1 - 1), p.base + p.offset (p.c0 - 1) (p.c1 - 1)]

/-- Whether a descriptor breaks the rules of its kind (R231, R232). -/
def portDescBad (d : Word) : Bool :=
  if bits d 63 62 < 2 then bit d 60 || bits d 19 16 != 0
  else bits d 51 0 != 0 || decide (6 ≤ bits d 61 59)

/-- Whether a port has a channel with this kind, direction and partner. -/
def Port.sameChannel (p : Port) (d : Word) : Bool :=
  match p with
  | .channel c => c.sends == (bits d 63 62 == 3) && chDir c == bits d 61 59 && chPartner c == bits d 58 56
  | .stream _ => false
  | .unbound => false

/-- Binding the channel of a descriptor to a port of the strand in slot k (R232, R233). -/
def State.bindChannel (s : State) (k : Nat) (q : Fin 8) (d : Word) : State :=
  match s.slot k with
  | none => s
  | some t =>
    let c : Channel := { sends := bits d 63 62 == 3, desc := d, edge := (t.neighbour (bits d 61 59) (bits d 58 56)).isNone,
                         allow := bits d 55 52 + 1 }
    let s := s.modSlot k fun t => { t with ports := t.ports.set q (.channel c) }
    if c.edge then s else s.linkChannel t q c

/-- Whether PBIND or PUNBIND names a stage port (R230). -/
def Strand.stagePort (t : Strand) (q : Fin 8) : Bool := (q == 6 || q == 7) && t.sm1 != 0

/-- PBIND (R231 to R233): the checks in their order. R231's order does not place R19's illegal instruction of a loose strand that
names a channel: it is checked after the port (DESIGN CHOICE; log entry 73). -/
def execPbind (q : Fin 8) (a b : SReg) (e : Bool) (s : State) : Out :=
  s.issue 3 e [.s a, .s b] [] fun t =>
    let d := s.sval t a
    let base := s.sval t b
    if t.stagePort q then s.fault 0x258
    else if t.ports[q] ≠ .unbound then s.fault 0x259
    else if 2 ≤ bits d 63 62 ∧ t.loose then s.illegal 3 7
    else if portDescBad d then s.fault 0x258
    else if 2 ≤ bits d 63 62 then
      if t.ports.toList.any fun p => p.sameChannel d then s.fault 0x258
      else (s.bindChannel s.cur q d).advance
    else
      let p : Stream := { write := bits d 63 62 == 1, sla := bit d 61, desc := d, base := base, xr := t.xr }
      if base.toNat % 64 ≠ 0 then s.faultAt 0x098 base
      else
        match if p.sla then none else p.corners.find? fun x => !(gvaOk s.cfg x && gvaOk s.cfg (x + 255)) with
        | some x => s.faultAt 0x09A x
        | none => (s.modCur fun t => { t with ports := t.ports.set q (.stream p) }).advance

/-- Leaving a port unbound. -/
def State.clearPort (s : State) (tag : Nat) (q : Fin 8) : State :=
  s.modTag tag fun t => { t with ports := t.ports.set q .unbound }

/-- The numbers of the requests that carry words of a port. -/
def State.streamReqs (s : State) (tag : Nat) (q : Fin 8) : List Nat :=
  (s.reqs.filter fun e => e.2.streamOf tag q).map (·.1)

/-- PUNBIND (R235). -/
def execPunbind (q : Fin 8) (e : Bool) (s : State) : Out :=
  s.issue 3 e [] [] fun t =>
    if t.stagePort q then s.fault 0x258
    else
      match t.ports[q] with
      | .unbound => s.advance
      | .stream p =>
        if p.write then
          if p.buf.isEmpty && (s.streamReqs t.tag q).isEmpty then (s.clearPort t.tag q).advance else s.hold (.punbind q)
        else ((s.dropReqs (s.streamReqs t.tag q)).clearPort t.tag q).advance
      | .channel c =>
        if c.sends && !c.edge && !c.buf.isEmpty then s.hold (.punbind q)
        else
          let s := match c.peer with
            | some (u, r) => s.modTag u fun u => u.modChannel r fun d => { d with
                peer := none, buf := if d.sends then [] else d.buf }
            | none => s
          (s.clearPort t.tag q).advance

/-- The word that PSTAT reads (R236). -/
def Port.stat (p : Port) : Word :=
  match p with
  | .unbound => 0
  | .stream x =>
    let avail := if x.write then 4 - x.buf.length else x.buf.length
    BitVec.ofNat 64 (bits x.desc 63 62 * 2 ^ 62 + 2 ^ 61 + (decide (x.total ≤ x.pos)).toNat * 2 ^ 59 +
      avail * 2 ^ 25 + (x.total - x.pos))
  | .channel c =>
    let avail := if c.edge then 16 else if c.sends then (if c.peer.isSome then c.credit else 0) else c.buf.length
    BitVec.ofNat 64 (bits c.desc 63 62 * 2 ^ 62 + 2 ^ 61 + c.edge.toNat * 2 ^ 60 + avail * 2 ^ 25)

/-- PSTAT (R236). -/
def execPstat (a : SReg) (q : Fin 8) (e : Bool) (s : State) : Out :=
  s.issue 3 e [] [.s a] fun t => (s.putS s.cur a t.ports[q].stat).advance

/-- Discarding up to n words of a channel end that have arrived: how many, and the state. -/
def State.discard (s : State) (t : Strand) (q : Fin 8) (n : Nat) : Nat × State :=
  match t.ports[q] with
  | .channel c =>
    let m := min n c.buf.length
    (m, s.modCur fun t => t.modChannel q fun c => { c with buf := c.buf.drop m, returns := c.returns + m })
  | .stream _ => (0, s)
  | .unbound => (0, s)

/-- PSKIP (R237). A channel from a neighbour holds the strand until the words have arrived. -/
def execPskip (q : Fin 8) (a : SReg) (e : Bool) (s : State) : Out :=
  let skip (s : State) (t : Strand) (n : Nat) : State :=
    let (m, s) := s.discard t q n
    if m = n then s.advance else s.hold (.pskip q (n - m))
  match s.curStrand with
  | none => .next s
  | some t =>
    match t.hold with
    | .pskip _ n => .next (skip s t n)
    | _ =>
      s.issue 3 e [.s a] [] fun t =>
        let c := (s.sval t a).toNat
        match t.ports[q] with
        | .unbound => s.fault 0x25A
        | .stream p =>
          let pos := min (p.pos + c) (max p.total p.pos)
          let p' : Stream := { p with
            pos := pos, buf := if p.write then p.buf else p.buf.filter fun x => decide (pos ≤ x.1) }
          let p' : Stream :=
            if p'.pos + p'.buf.length = p.pos + p.buf.length then p' else { p' with got := [], bad := false }
          (s.modCur fun t => { t with ports := t.ports.set q (.stream p') }).advance
        | .channel x =>
          if x.sends then s.fault 0x25B
          else if x.edge then s.advance
          else skip s t c

/-! ### Stream words (R234) -/

/-- The lines of a word at an address. -/
def wordLines (a : Word) : List Word := [a, a + 64, a + 128, a + 192]

/-- Recording the first of n bytes at a GVA that does not exist in a plate (R40, R360). -/
def State.noteGvaOor (s : State) (c : Nat) (g : Word) (l : Loc) (n : Nat) : State :=
  match (numsFrom 0 n).find? fun i => !s.inPlate (l.plus i) with
  | some i => s.recordOorG c (g + BitVec.ofNat 64 i)
  | none => s

/-- A request of the strand in slot k, for a stream's word. -/
def portReq (k : Nat) (t : Strand) (kind : ReqKind) (g : Word) : Req :=
  { kind := kind, tag := t.tag, slot := k, station := stationOf k, grid := t.grid, ctx := t.ctx, world := t.world,
    gva := g, pc := t.pc, src := 3 }

/-- The number of lines from the first of a list on that lie in its page. -/
def lineRun (g : Word) (rest : List Word) : Nat := 1 + (rest.takeWhile fun x => gvaPage x == gvaPage g).length

/-- Fetching lines of the word at position n of a read stream by GVA, in order: each at once at its home, or through a request
for those of one page; the lines of a host-window page are one non-posted read. A refused word is delivered poisoned (R368). -/
def State.fetchLines (s : State) (k : Nat) (t : Strand) (q : Fin 8) (n : Nat) : List Word → State
  | [] => s
  | g :: rest =>
    let run := lineRun g rest
    let r : Req := { portReq k t (.streamRead q n) g with b := BitVec.ofNat 64 run }
    if gvaPkg g ≠ s.cfg.pkg then s.addAway r
    else
      match s.translateBehind (stationOf k) t.who g .read with
      | .ok (.pcie x) _ =>
        let id := s.nextId
        let func := ((s.die (gvaDie g)).ctxEntry t.ctx).func.toNat
        let s := s.addReq { r with stage := .hostOut (.pcie x) }
        { s with pcie := s.pcie ++ [.read id func x (64 * run)] }
      | .ok l _ =>
        match s.recall l 64 false with
        | some s' => s'
        | none =>
          let s := s.noteGvaOor t.ctx g l 64
          let bad := (s.readPoison l 64).isSome
          (s.modSlot k fun t => t.putLines q n (BitVec.ofNat 2048 (s.homeNat l 64)) 1 bad).fetchLines k t q n rest
      | .notPresent => s.enterPage r
      | .fault c => s.faultDeferred t.grid (c 3) 0 k g
      | .refused c => (s.modSlot k fun t => t.putLines q n 0 4 true).freezeSlot k (c 3) g

/-- READ_STREAM_FETCH (R40, R207, R234): up to four words ahead. -/
def execReadStreamFetch (slot : Nat) (port : Fin 8) (s : State) : Out :=
  .next (match s.slot slot with
    | none => s
    | some t =>
      match t.ports[port] with
      | .stream p =>
        let n := p.pos + p.buf.length
        if p.write || decide (p.total ≤ n) || decide (4 ≤ p.buf.length) || t.frozen.isSome ||
            !(s.streamReqs t.tag port).isEmpty then s
        else if p.sla then
          let a := (p.addr n).toNat
          let st := stationOf slot
          let inr := min 256 (s.plateSize st - a)
          if 0 < inr ∧ !(s.station st).protOk t.protKind false a inr then
            (s.modSlot slot fun t => t.putLines port n 0 4 true).freezeSlot slot (causeOf 5 3 6) (p.addr n)
          else
            match s.recall (plateLoc st a) 256 false with
            | some s' => s'
            | none =>
              let s := if inr < 256 then s.recordOor t.ctx (BitVec.ofNat 64 (a + inr)) else s
              let v := BitVec.ofNat 2048 (s.plateNat st a 256)
              let bad := decide (0 < inr) && (s.readPoison (plateLoc st a) inr).isSome
              s.modSlot slot fun t => t.putLines port n v 4 bad
        else s.fetchLines slot t port n ((wordLines (p.addr n)).drop p.got.length)
      | .channel _ => s
      | .unbound => s)

/-- The line writes of a write-stream word to global addresses, as requests in order (R234). -/
def State.streamWrites (s : State) (k : Nat) (t : Strand) (q : Fin 8) (id : Nat) (v : VWord) : List Word → State
  | [] => s
  | a :: rest =>
    (s.addReq { portReq k t (.streamWrite q) a with
      mask := BitVec.allOnes 64, data := v.setWidth 512, age := id }).streamWrites k t q id (v >>> 512) rest

/-- The line writes of the first n bytes of a write-stream word to the station's own plate. -/
def State.plateWrites (s : State) (k : Nat) (t : Strand) (q : Fin 8) (id a n : Nat) (v : VWord) : Nat → State
  | 0 => s
  | fuel + 1 =>
    if n = 0 then s
    else
      (s.addReq { portReq k t (.streamWrite q) (BitVec.ofNat 64 a) with
        stage := .translated (plateLoc (stationOf k) a)
        mask := BitVec.ofNat 64 (2 ^ min n 64 - 1), data := v.setWidth 512, age := id }).plateWrites k t q id (a + 64) (n - 64)
          (v >>> 512) fuel

/-- Sending the oldest word of a write stream of the strand in slot k: a plate word is written at the slice, under the
protection unit, or waits there for the guest's cache (R213); a word at a GVA leaves as line writes. A refused word is
dropped (R381). -/
def State.sendWord (s : State) (k : Nat) (t : Strand) (q : Fin 8) : State :=
  match t.ports[q] with
  | .stream p =>
    match p.write, p.buf with
    | true, (n, w) :: rest =>
      let pop (s : State) : State := s.modSlot k fun t => { t with ports := t.ports.set q (.stream { p with buf := rest }) }
      if p.sla then
        let a := (p.addr n).toNat
        let st := stationOf k
        let inr := min 256 (s.plateSize st - a)
        if 0 < inr ∧ !(s.station st).protOk t.protKind true a inr then (pop s).freezeSlot k (causeOf 5 3 6) (p.addr n)
        else
          let s := if inr < 256 then s.recordOor t.ctx (BitVec.ofNat 64 (a + inr)) else s
          if (s.recall (plateLoc st a) inr).isNone && (s.streamReqs t.tag q).isEmpty then
            pop (s.plateWrite st a (bytesOf 256 w.val.toNat))
          else (pop s).plateWrites k t q w.id a inr w.val 4
      else (pop s).streamWrites k t q w.id w.val (wordLines (p.addr n))
    | _, _ => s
  | .channel _ => s
  | .unbound => s

/-- WRITE_STREAM_SEND (R207, R234). -/
def execWriteStreamSend (slot : Nat) (port : Fin 8) (s : State) : Out :=
  .next (match s.slot slot with
    | none => s
    | some t => if t.frozen.isSome then s else s.sendWord slot t port)

/-! ### Channel words (R208, R233) -/

/-- The port of a strand wherever it is. -/
def State.portOf (s : State) (tag : Nat) (q : Fin 8) : Option Port :=
  match s.findTag tag with
  | some t => some t.ports[q]
  | none => none

/-- The oldest word in flight to an end. -/
def State.flying (s : State) (c : Channel) : Option (Nat × Fin 8 × PortWord) :=
  match c.peer with
  | none => none
  | some (u, r) =>
    match s.portOf u r with
    | some (.channel d) => (d.buf.head?).map fun w => (u, r, w)
    | _ => none

/-- CHANNEL_WORD_ARRIVE (R208, R233): the slot and port name the receiving end. -/
def execChannelWordArrive (slot : Nat) (port : Fin 8) (s : State) : Out :=
  .next (match s.slot slot with
    | none => s
    | some t =>
      match t.ports[port] with
      | .channel c =>
        if c.sends then s
        else
          match s.flying c with
          | none => s
          | some (u, r, w) =>
            let s := s.modTag u fun u => u.modChannel r fun d => { d with buf := d.buf.drop 1 }
            s.modSlot slot fun t => t.modChannel port fun c => { c with buf := c.buf ++ [w] }
      | .stream _ => s
      | .unbound => s)

/-- CHANNEL_CREDIT_RETURN (R233): the slot and port name the sending end. -/
def execChannelCreditReturn (slot : Nat) (port : Fin 8) (s : State) : Out :=
  .next (match s.slot slot with
    | none => s
    | some t =>
      match t.ports[port] with
      | .channel c =>
        match c.sends, c.peer with
        | true, some (u, r) =>
          match s.portOf u r with
          | some (.channel d) =>
            if d.returns = 0 then s
            else
              let s := s.modTag u fun u => u.modChannel r fun d => { d with returns := d.returns - 1 }
              s.modSlot slot fun t => t.modChannel port fun c =>
                if c.owed = 0 then { c with credit := c.credit + 1 } else { c with owed := c.owed - 1 }
          | _ => s
        | _, _ => s
      | .stream _ => s
      | .unbound => s)

/-- Unbinding every port of a strand that ends in slot k, without holding it (R230): written words continue to their
destinations, everything else is discarded. -/
def State.unbindAll (s : State) (k : Nat) : State :=
  (List.finRange 8).foldl (fun s q =>
    match s.slot k with
    | none => s
    | some t =>
      match t.ports[q] with
      | .unbound => s
      | .stream p =>
        if p.write then
          let s := p.buf.foldl (fun s _ => match s.slot k with | some t => s.sendWord k t q | none => s) s
          s.clearPort t.tag q
        else (s.dropReqs (s.streamReqs t.tag q)).clearPort t.tag q
      | .channel c =>
        let s := match c.peer with
          | some (u, r) => s.modTag u fun u => u.modChannel r fun d =>
              if c.sends then { d with peer := none, buf := d.buf ++ c.buf } else { d with peer := none, buf := [] }
          | none => s
        s.clearPort t.tag q) s

end Sys2Proof.Machine
end

