-- ==== Sys2Proof/Machine/Copy.lean ====
section
/-! DEFINITION. The copy instructions at issue: CPY, CPYT, CPYD and CPYS of major 0x31 (R238, R239). -/

namespace Sys2Proof.Machine

/-- The authority of a context; firmware's is 64. -/
def State.ctxWho (s : State) (c : Nat) : Who := { ctx := c, world := c == 64 || (s.ctx c).world }

/-- The front end's authority for a context: a firmware master's, by the context's pages (R277, R360). -/
def State.frontWho (s : State) (c : Nat) : Who := { s.ctxWho c with front := true }

/-- The authority with which COPY and LOADSHARD reach an address: firmware entry 64's (R355, R360), or, where that entry has no page
there, the queue context's (R277, R411; log entry 42). -/
def State.loadWho (s : State) (c : Nat) (g : Word) : Who :=
  let w : Who := { ctx := 64, world := true }
  let die := gvaDie g
  if gvaPkg g ≠ s.cfg.pkg ∨ ((s.die die).tlbHit 64 g).isSome then w
  else
    match s.walk die w g with
    | .noCtx | .notPresent => s.frontWho c
    | .leaf _ _ | .badPte | .poison => w

/-- The alignments of R239: of SRC, DST and DIG. -/
def CopyOp.aligns : CopyOp → Nat × Nat × Nat
  | .cpy => (1, 1, 1)
  | .cpyt => (64, 128, 1)
  | .cpyd => (1, 8, 1)
  | .cpys => (1, 1, 8)

/-- The bytes that an entry reads at SRC and writes at DST. -/
def CopyOp.srcLen (op : CopyOp) (len : Nat) : Nat := if op = .cpyt then 8192 * len else len
def CopyOp.dstLen (op : CopyOp) (len : Nat) : Nat :=
  match op with
  | .cpy => len
  | .cpyt => 896 * len
  | .cpyd => 48
  | .cpys => len

/-- The copy descriptor (R239). -/
structure CDesc where
  src : Word
  dst : Word
  dig : Word
  ctl : Word
  tail : Nat

def State.copyDesc (s : State) (st sla : Nat) : CDesc :=
  let w (o : Nat) : Word := BitVec.ofNat 64 (s.plateNat st (sla + o) 8)
  { src := w 0, dst := w 8, dig := w 16, ctl := w 24, tail := s.plateNat st (sla + 40) 24 }

def CDesc.len (d : CDesc) : Nat := bits d.ctl 31 0

/-- The first or last byte of a range of n bytes by GVA that fails R37. -/
def rangeBad (c : CfgTable) (sla : Bool) (a : Word) (n : Nat) : Option Word :=
  if sla || n == 0 then none
  else [a, a + BitVec.ofNat 64 (n - 1)].find? fun x => !gvaOk c x

/-- The validation of a descriptor: the fault's code and address (R239). -/
def CDesc.check (d : CDesc) (c : CfgTable) (op : CopyOp) (sla : Word) : Option (Cause × Word) :=
  let (x, y, z) := op.aligns
  if bits d.ctl 63 35 ≠ 0 ∨ d.tail ≠ 0 ∨ (op ≠ .cpys ∧ d.dig ≠ 0) then some (0x25D, sla)
  else if d.src.toNat % x ≠ 0 then some (0x098, d.src)
  else if d.dst.toNat % y ≠ 0 then some (0x098, d.dst)
  else if d.dig.toNat % z ≠ 0 then some (0x098, d.dig)
  else
    match rangeBad c (bit d.ctl 32) d.src (op.srcLen d.len), rangeBad c (bit d.ctl 33) d.dst (op.dstLen d.len),
        (if op = .cpys then rangeBad c (bit d.ctl 34) d.dig 48 else none) with
    | some a, _, _ => some (0x09A, a)
    | none, some a, _ => some (0x09A, a)
    | none, none, some a => some (0x09A, a)
    | none, none, none => none

/-- Entering the queue of 16, or waiting at issue. -/
def State.centerQueue (s : State) (t : Strand) (op : CopyOp) (sla : Nat) (d : CDesc) (act : Action) : State :=
  let st := s.curStation
  let g := (s.station st).cpy
  let ahead := t.ahead 3 g.halted
  if 16 ≤ (if ahead then g.handlerQ else g.queue).length then s.hold (.issue .copy)
  else
    let i : CItem := { n := g.entered, op := op, tag := t.tag, grid := t.grid, ctx := t.ctx, slot := s.cur, pc := t.pc,
                       desc := sla, src := d.src, dst := d.dst, dig := d.dig, len := d.len, ssla := bit d.ctl 32,
                       dsla := bit d.ctl 33, gsla := bit d.ctl 34, trap := t.cvmTrap, act := act }
    (s.modStation st fun S => { S with cpy := { S.cpy with
      entered := S.cpy.entered + 1
      queue := if ahead then S.cpy.queue else S.cpy.queue ++ [i]
      handlerQ := if ahead then S.cpy.handlerQ ++ [i] else S.cpy.handlerQ } }).advance

/-- A copy instruction (R238): the steps in their order. -/
def State.copyIssue (s : State) (op : CopyOp) (k : Compl) (a b c : SReg) (e : Bool) : Out :=
  match s.curStrand with
  | none => .next s
  | some t =>
    if t.loose && [Opnd.s a, .s b, .s c].any Opnd.shared then .next (s.illegal 3 4)
    else
      s.issue 3 e [.s a] [] fun t =>
        let st := s.curStation
        let sla := (s.sval t a).toNat % 2 ^ 32
        let at_ : Word := BitVec.ofNat 64 sla
        if sla % 64 ≠ 0 then s.faultAt 0x098 at_
        else if s.plateSize st < sla + 64 then s.faultAt 0x25D at_
        else if !(s.station st).protOk t.protKind false sla 64 then s.freezeProt 3 sla
        else
          match s.recall (plateLoc st sla) 64 false, s.readPoison (plateLoc st sla) 64 with
          | some s', _ => s'.hold (.issue .plain)
          | none, some p => s.faultAt (poisonCode 3 p) at_
          | none, none =>
            let d := s.copyDesc st sla
            match d.check s.cfg op at_ with
            | some (code, x) => s.faultAt code x
            | none =>
              match if k = .none then none else s.gate 3 e [.s b, .s c] [] with
              | some s' => s'
              | none => s.centerQueue t op sla d (s.captureAction t k (s.sval t b) (s.sval t c))

/-- CPY (R238). -/
def execCpy (k : Compl) (a b c : SReg) (e : Bool) (s : State) : Out := s.copyIssue .cpy k a b c e
/-- CPYT (R238). -/
def execCpyt (k : Compl) (a b c : SReg) (e : Bool) (s : State) : Out := s.copyIssue .cpyt k a b c e
/-- CPYD (R238). -/
def execCpyd (k : Compl) (a b c : SReg) (e : Bool) (s : State) : Out := s.copyIssue .cpyd k a b c e
/-- CPYS (R238). -/
def execCpys (k : Compl) (a b c : SReg) (e : Bool) (s : State) : Out := s.copyIssue .cpys k a b c e

end Sys2Proof.Machine
end

