-- ==== Sys2Proof/Machine/ShardOps.lean ====
section
/-! DEFINITION. What becomes of a weight shard (R411, R412), records of the front end (R400), and the ends of host
commands that an engine performs (R277). -/

namespace Sys2Proof.Machine

/-- The station that serves a host queue: number q mod F of the front end stations (R439). -/
def State.queueStation (s : State) (q : Nat) : Nat := (s.cfg.frontEnds[q % max 1 s.cfg.frontEnds.length]?).getD 31

/-- A record of the front end at a station: KIND 4. -/
def State.feRecordAt (s : State) (st : Nat) (code : Cause) (addr : Word) : State :=
  s.addRecord (dieOf st) { s.slotRecord (8 * st) code 4 6 0 0 addr 0 with gridw := 0 }

/-- A record of the front end that serves a queue. -/
def State.feRecord (s : State) (q : Nat) (code : Cause) (addr : Word) : State := s.feRecordAt (s.queueStation q) code addr

/-- Marking a host command's end: `code` 0 for success. -/
def State.cmdReady (s : State) (q cmd : Nat) (code : Cause) (addr : Word) : State :=
  { s with queues := tblMod s.queues q fun (Q : HQueue) =>
      { Q with cmds := tblMod Q.cmds cmd fun (c : Cmd) =>
          { c with ready := true, fault := c.fault || code != 0, cause := code, addr := addr } } }

/-- The front end that serves a queue publishes or advances a proof: at its home, or by a flit. -/
def State.frontProof (s : State) (q ctx : Nat) (k : ReqKind) (h : Word) : State :=
  let r : Req := { kind := k, src := 6, ctx := ctx, world := (s.ctxWho ctx).world, gva := h,
                   station := s.queueStation q, slot := 8 * s.queueStation q }
  if hPkg h = s.cfg.pkg ∨ k = .proofPub then s.addReq r else s.addAway r

/-- Withdraw (R412, R255): the proof's generation advances. -/
def State.withdrawProof (s : State) (x : Shard) : State :=
  if hPkg x.proof = s.cfg.pkg then
    match s.proofRefuse (s.ctxWho x.ctx) (hKey x.proof) with
    | some _ => s
    | none => s.proofAdvance (hKey x.proof)
  else s.frontProof x.q x.ctx .proofAdvance x.proof

/-- The activity is over: its requests are done with. -/
def State.unitEnd (s : State) (own : Nat) : State :=
  { s with reqs := s.reqs.filter fun e => !((e.2.kind == .unitRead || e.2.kind == .unitWrite) && e.2.age == own) }

/-- The request of a shard's withholding for an address: for a page that is not present, or for a block in another package. -/
def State.holdReq (s : State) (n : Nat) (g : Word) : Option Req :=
  let away := gvaPkg g != s.cfg.pkg
  (s.reqs.find? fun e => (e.2.kind == .unitRead || e.2.kind == .unitWrite) && e.2.age == 2 ^ 50 + n &&
    (if away then e.2.gva == g else gvaPage e.2.gva == gvaPage g)).map (·.2)

/-- Withholding one block: the mark at its home, and whether it stands there. A block whose address names no memory has none. -/
def State.withholdBlock (n st c : Nat) (p : State × Bool) (g : Word) : State × Bool :=
  let s := p.1
  let w := s.loadWho c g
  let r : Req := { kind := .unitRead, slot := 8 * st, station := st, ctx := w.ctx, world := w.world, gva := g, src := 6, age := 2 ^ 50 + n }
  let asked (send : State) : State × Bool :=
    match s.holdReq n g with
    | none => (send, false)
    | some q => (match q.stage with
        | .replied _ _ => p
        | _ => (s, false))
  if gvaPkg g ≠ s.cfg.pkg then asked (s.addAway { r with kind := .unitWrite, bad := true, b := 2 })
  else
    match s.translate w g .locate with
    | .ok l _ =>
      if !s.inPlate l then p
      else
        match l.key, s.recall l 64 with
        | none, _ => p
        | some _, some s' => (s', false)
        | some k, none => (s.setPoison k 1, p.2)
    | .notPresent => asked (s.enterPage r)
    | .fault _ => p
    | .refused _ => p

/-- Withhold (R412): every 64-byte block of DST is marked at its home; true when all are. -/
def State.withhold (s : State) (n : Nat) (x : Shard) : State × Bool :=
  (numsFrom 0 (x.len / 64)).foldl (fun p i => State.withholdBlock n (s.queueStation x.q) x.ctx p (x.dst + BitVec.ofNat 64 (64 * i))) (s, true)

/-- A shard's registry entry takes a state. -/
def State.shardTo (s : State) (n : Nat) (st : ShState) : State :=
  { s with shards := tblMod s.shards n fun x => { x with st := st, fail := none } }

/-- A failing shard goes on: it is withdrawn when the withholding is complete; its command, if it has one, completes with FAULT. -/
def State.shardFailing (s : State) (n : Nat) : State :=
  match tblGet s.shards n with
  | none => s
  | some x =>
    match x.fail with
    | none => s
    | some (st, code, load) =>
      match s.withhold n x with
      | (s, false) => s
      | (s, true) =>
        let s := (((s.unitEnd (2 ^ 50 + n)).withdrawProof x).shardTo n st).feRecord x.q code x.dst
        if load then s.cmdReady x.q x.cmd code x.dst else s

/-- A shard fails: withheld first, then withdrawn. -/
def State.shardFail (s : State) (n : Nat) (st : ShState) (code : Cause) (load : Bool) : State :=
  let s := s.unitEnd (2 ^ 50 + n)
  ({ s with shards := tblMod s.shards n fun x => { x with fail := some (st, code, load) } } : State).shardFailing n

/-- The copy of a shard on a Bridge copy engine (R277, R411). -/
def State.shardCopy (s : State) (n : Nat) (x : Shard) : State :=
  let st := s.queueStation x.q
  s.modStation st fun S => { S with cpy := { S.cpy with
    entered := S.cpy.entered + 1
    queue := S.cpy.queue ++ [{ n := S.cpy.entered, op := .cpy, tag := 0, grid := 0, ctx := x.ctx, slot := 8 * st, pc := 0, desc := 0,
                               src := x.src, dst := x.dst, dig := 0, len := x.len, ssla := false, dsla := false, gsla := false,
                               trap := false, act := .none, host := some (256, n) }] } }

/-- The end of a host command's transfer: a COPY completes with FAULT and a record; a shard's copy is tried three times
before the shard is ABSENT (R277, R412). -/
def State.hostCopyEnd (s : State) (h : Nat × Nat) (code : Cause) (addr : Word) : State :=
  if h.1 ≠ 256 then (if code = 0 then s else s.feRecord h.1 code addr).cmdReady h.1 h.2 code addr
  else
    match tblGet s.shards h.2 with
    | none => s
    | some x =>
      if x.st ≠ .loading ∨ x.fail.isSome then s
      else if code = 0 then s.shardTo h.2 .checking
      else if x.tries < 2 then
        let x' := { x with tries := x.tries + 1 }
        ({ s with shards := tblPut s.shards h.2 x' }).shardCopy h.2 x'
      else s.shardFail h.2 .absent 0x1F2 true

end Sys2Proof.Machine
end

