-- ==== Sys2Proof/Machine/CopyEng.lean ====
section
/-! DEFINITION. The copy engine performing its entries: the Burin threshold (R101), and the events of R240 to
R244. -/

namespace Sys2Proof.Machine

/-! ### The Burin threshold (R101) -/

/-- The pairwise sum tree of FP32 patterns, n levels deep. -/
def burinTree : Nat → List Nat → Nat
  | 0, l => l.headD 0
  | n + 1, l => burinTree n ((chunks 2 (l.length / 2) l).map fun p => (faddP 23 (.m .rne) (nth p 0) (nth p 1)).1)

/-- The scale code of the sum of a segment's magnitudes, and whether it was clamped. -/
def burinCode (sum : Nat) : Nat × Bool :=
  match fval 23 sum with
  | .nan => (255, true)
  | .inf _ => (255, true)
  | .fin _ mag exp =>
    if mag = 0 then (0, false)
    else
      let e : Int := Nat.log2 mag + exp - 6 + 16
      let k := (roundInt .rne false mag (exp - 6 + 19 - e)).1
      let (e, k) : Int × Int := if k = 16 then (e + 1, 8) else (e, k)
      if e < 0 then (0, true)
      else if 31 < e then (255, true)
      else (e.toNat * 8 + (k - 8).toNat, false)

/-- Whether a latent's magnitude exceeds half the scale (8 + m) · 2^(e − 19). -/
def aboveHalf (code mag : Nat) (exp : Int) : Bool :=
  let hexp : Int := (code / 8 : Nat) - 20
  let g := min exp hexp
  decide ((8 + code % 8) * 2 ^ (hexp - g).toNat < mag * 2 ^ (exp - g).toNat)

/-- The digit of a latent: its trit plus 1, and whether it sets the sticky bit. -/
def burinDigit (code w : Nat) : Nat × Bool :=
  match fval 7 w with
  | .nan => (1, true)
  | .inf neg => (if neg then 0 else 2, false)
  | .fin neg mag exp => (if aboveHalf code mag exp then (if neg then 0 else 2) else 1, false)

/-- What the Burin makes of a segment: its 13 bytes, its scale code, the sticky bit, and the detail of the first event
of R241 (a latent's by K, then the scale's). -/
structure Burin where
  bytes : List Nat
  code : Nat
  sticky : Bool
  ev : Option Nat

/-- R101 on 64 BF16 latents. -/
def burin (ws : List Nat) : Burin :=
  let mags := ws.map fun w => if isNaN 7 w then 0 else w % 2 ^ 15 * 2 ^ 16
  let (code, clamp) := burinCode (burinTree 6 mags)
  let ds := ws.map (burinDigit code)
  let digits := ds.map (·.1) ++ [1]
  let ev := ws.findSome? fun w => match fval 7 w with
    | .nan => some 0
    | .inf _ => some 1
    | .fin _ _ _ => none
  { bytes := (chunks 5 13 digits).map packByte
    code := code
    sticky := clamp || ds.any (·.2)
    ev := if ev.isSome then ev else if clamp then some 2 else none }

/-- A tile: its T64 image (R89), BSTICKY, and the event of the lowest column. -/
def burinTile (bytes : List Byte) : List Byte × Bool × Option Nat :=
  let cols := (chunks 64 64 (digits 2 4096 (ofBytes bytes))).map burin
  ((cols.flatMap (·.bytes) ++ cols.map (·.code)).map (BitVec.ofNat 8), cols.any (·.sticky), cols.findSome? (·.ev))

/-! ### The queue -/

/-- Whether the entry performed next stands in the handler's queue; none when no entry may start. -/
def State.cpyTurn (s : State) (st : Nat) : Option Bool :=
  let g := (s.station st).cpy
  if g.frozen.isSome then none
  else
    match g.halted with
    | none => some false
    | some tag =>
      match s.findTag tag with
      | some t => if t.ahead 3 g.halted then some true else none
      | none => none

/-- The entry performed next. -/
def State.cpyHead (s : State) (st : Nat) : Option CItem :=
  match s.cpyTurn st with
  | some true => (s.station st).cpy.handlerQ.head?
  | some false => (s.station st).cpy.queue.head?
  | none => none

/-- Replacing the head of a list. -/
def headPut {α : Type} (l : List α) (x : α) : List α :=
  match l with
  | [] => []
  | _ :: t => x :: t

/-- The entry performed next takes a new state. -/
def State.cpySet (s : State) (st : Nat) (i : CItem) : State :=
  match s.cpyTurn st with
  | some true => s.modStation st fun S => { S with cpy := { S.cpy with handlerQ := headPut S.cpy.handlerQ i } }
  | some false => s.modStation st fun S => { S with cpy := { S.cpy with queue := headPut S.cpy.queue i } }
  | none => s

/-- The entry performed next leaves its queue. -/
def State.cpyPop (s : State) (st : Nat) : State :=
  match s.cpyTurn st with
  | some true => s.modStation st fun S => { S with cpy := { S.cpy with handlerQ := S.cpy.handlerQ.drop 1 } }
  | some false => s.modStation st fun S => { S with cpy := { S.cpy with queue := S.cpy.queue.drop 1 } }
  | none => s

/-- Whether a request of the station's entry is outstanding. -/
def State.cpyWaits (s : State) (st : Nat) : Bool :=
  s.reqs.any fun e => e.2.station == st && (match e.2.kind with
    | .copyRead _ => true
    | .copyWrite => true
    | _ => false)

/-! ### Failures (R241, R244, R277, R400) -/

/-- An entry that fails with a deferred fault: it writes nothing more and leaves the queue. -/
def State.cpyFail (s : State) (st : Nat) (i : CItem) (code : Cause) (addr : Word) : State :=
  let s := s.cpyPop st
  match i.host with
  | some h => s.hostCopyEnd h code addr
  | none => s.faultDeferred i.grid code 2 i.slot addr

/-- A refusal freezes the engine with its queue kept, and the entry is not performed again (R381); a host command's transfer
ends by it (R244). -/
def State.cpyRefused (s : State) (st : Nat) (i : CItem) (code : Cause) (addr : Word) : State :=
  match i.host with
  | some h => (s.cpyPop st).hostCopyEnd h code addr
  | none => (s.cpySet st { i with refused := true }).freezeCopy st code i.grid addr

/-- The authority of an entry for an address: its issuer's context's; that of COPY and LOADSHARD for a host command (R360). -/
def State.cpyWho (s : State) (i : CItem) (a : Word) : Who := if i.host.isSome then s.loadWho i.ctx a else s.ctxWho i.ctx

/-- A request for an entry's access. -/
def cpyReq (st : Nat) (i : CItem) (w : Who) (k : ReqKind) (g : Word) : Req :=
  { kind := k, tag := i.tag, slot := i.slot, station := st, grid := i.grid, ctx := w.ctx, world := w.world, gva := g,
    pc := i.pc, src := 3, age := i.n, front := w.front }

/-- An access that does not translate: the entry keeps what it has done, and waits or ends. -/
def State.cpyXlat (s : State) (st : Nat) (i : CItem) (k : ReqKind) (g : Word) : Xlat → State
  | .ok _ _ => s
  | .notPresent => (s.cpySet st i).enterPage (cpyReq st i (s.cpyWho i g) k g)
  | .fault c => s.cpyFail st i (c 3) g
  | .refused c => s.cpyRefused st i (c 3) g

/-! ### Reading and writing -/

/-- Where an operand's byte lies: by SLA in the station's plate, or by GVA at its home. -/
inductive CLoc where
  | loc (l : Loc)
  | away
  | stop (x : Xlat)

def State.cpyLoc (s : State) (st : Nat) (i : CItem) (sla : Bool) (a : Word) (acc : Access) : CLoc :=
  if sla then .loc (.plate st (a.toNat % 2 ^ 32))
  else if gvaPkg a ≠ s.cfg.pkg then .away
  else
    match s.translateBehind st (s.cpyWho i a) a acc with
    | .ok l _ => .loc l
    | .notPresent => .stop .notPresent
    | .fault c => .stop (.fault c)
    | .refused c => .stop (.refused c)

/-- An access in another package leaves on the String; across a break of the ring the entry fails (R406). -/
def State.cpyAway (s : State) (st : Nat) (i : CItem) (r : Req) : State :=
  if s.broken r.ringDest then s.cpyFail st i (causeOf 14 3 1) r.gva else (s.cpySet st i).addAway r

/-- Recording the plate bytes of an access that do not exist. -/
def State.cpyOor (s : State) (i : CItem) (sla : Bool) (a : Word) (l : Loc) (n : Nat) : State :=
  if sla then
    match (numsFrom 0 n).find? fun k => !s.inPlate (l.plus k) with
    | some k => s.recordOor i.ctx (BitVec.ofNat 64 (a.toNat % 2 ^ 32 + k))
    | none => s
  else s.noteGvaOor i.ctx a l n

/-- The n bytes from a location, byte by byte, with the bytes of the line being formed in place of what the home
holds; each byte read is one of the line's next (R240: overlap obeys the ascending order). -/
def State.cpyBytes (s : State) (dst : Option Nat) (pend : List (Nat × Byte)) (l : Loc) : Nat → List Byte
  | 0 => []
  | n + 1 =>
    let b := match l.key with
      | some k => (tblGet pend k).getD (s.homeByte l)
      | none => 0
    let pend := match dst with
      | some d => (d, b) :: pend
      | none => pend
    b :: s.cpyBytes (dst.map (· + 1)) pend (l.plus 1) n

/-- Progress of an entry: done, or the state in which the event ends. -/
inductive CRun where
  | go (i : CItem) (s : State)
  | stop (s : State)

/-- Reading operand bytes until `lim` are held: the source (`dig` false) or the expected digest. `dst` is the key of
the destination's byte 0 of the line being formed, which begins at byte `base`. -/
def State.cpyRead (st : Nat) (dig : Bool) (dst : Option (Nat × Nat)) (lim : Nat) :
    Nat → CItem → State → CRun
  | 0, i, s => .go i s
  | fuel + 1, i, s =>
    let have_ := if dig then i.dgot else i.got
    let p := have_.length
    if lim ≤ p then .go i s
    else
      let sla := if dig then i.gsla else i.ssla
      let a := (if dig then i.dig else i.src) + BitVec.ofNat 64 p
      let n := min (lim - p) (64 - a.toNat % 64)
      match s.cpyLoc st i sla a .read with
      | .stop x => .stop (s.cpyXlat st i (.copyRead n) a x)
      | .away => .stop (s.cpyAway st i (cpyReq st i (s.cpyWho i a) (.copyRead n) a))
      | .loc (.pcie x) =>
        let s := s.cpySet st i
        let id := s.nextId
        let func := ((s.die (gvaDie a)).ctxEntry (s.cpyWho i a).ctx).func.toNat
        let s := s.addReq { cpyReq st i (s.cpyWho i a) (.copyRead n) a with stage := .hostOut (.pcie x) }
        .stop { s with pcie := s.pcie ++ [.read id func x n] }
      | .loc l =>
        match s.recall l n false with
        | some s' => .stop (s'.cpySet st i)
        | none =>
          let inr := ((numsFrom 0 n).filter fun k => s.inPlate (l.plus k)).length
          match if inr = 0 then none else s.readPoison l inr with
          | some k => .stop (s.cpyFail st i (poisonCode 3 k) a)
          | none =>
            let s := s.cpyOor i sla a l n
            let pend := match dst with
              | some (k, base) => (have_.drop base).zipIdx.map fun e => (k + e.2, e.1)
              | none => []
            let bs := s.cpyBytes (dst.map fun e => e.1 + (p - e.2)) pend l n
            let i := if dig then { i with dgot := i.dgot ++ bs } else { i with got := i.got ++ bs }
            s.cpyRead st dig dst lim fuel i

/-- One write of an entry, within a line: at its home, as a posted write, or in a flit to another package. A partial
write whose block cannot be fetched is METAPOISON (R215). -/
def State.cpyWrite (s : State) (st : Nat) (i : CItem) (a : Word) (bs : List Byte) : CRun :=
  let next : CItem := { i with put := i.put + bs.length }
  match s.cpyLoc st i i.dsla a .write with
  | .stop x => .stop (s.cpyXlat st i .copyWrite a x)
  | .away =>
    let off := a.toNat % 64
    .stop (s.cpyAway st i { cpyReq st i (s.cpyWho i a) .copyWrite a with
      mask := BitVec.ofNat 64 ((2 ^ bs.length - 1) * 2 ^ off)
      data := BitVec.ofNat 512 (ofBytes bs * 2 ^ (8 * off)) })
  | .loc (.pcie x) =>
    let func := ((s.die (gvaDie a)).ctxEntry (s.cpyWho i a).ctx).func.toNat
    .go next { s with pcie := s.pcie ++ [.write func x bs.length (BitVec.ofNat 2048 (ofBytes bs)) false] }
  | .loc l =>
    match s.recall l bs.length with
    | some s' => .stop (s'.cpySet st i)
    | none =>
      let s := s.cpyOor i i.dsla a l bs.length
      let (s', lost) := s.writeBlock l (bs.map fun b => (true, b))
      if lost then .stop (s'.cpyFail st i 0x1E1 (blockOf a)) else .go next s'

/-- The room up to the end of the destination's line. -/
def CItem.room (i : CItem) : Nat := 64 - (i.dst.toNat + i.put) % 64

/-- Writing given bytes, the first `done` of which are written, line by line. -/
def State.cpyPutAll (st : Nat) (bytes : List Byte) : Nat → Nat → CItem → State → CRun
  | 0, _, i, s => .go i s
  | fuel + 1, done, i, s =>
    if bytes.length ≤ done then .go i s
    else
      let bs := (bytes.drop done).take i.room
      match s.cpyWrite st i (i.dst + BitVec.ofNat 64 i.put) bs with
      | .stop s' => .stop s'
      | .go i' s' => s'.cpyPutAll st bytes fuel (done + bs.length) i'

/-- The byte copy of CPY and CPYS, one destination line at a time. -/
def State.cpyLines (st : Nat) : Nat → CItem → State → CRun
  | 0, i, s => .go i s
  | fuel + 1, i, s =>
    if i.len ≤ i.put then .go i s
    else
      let a := i.dst + BitVec.ofNat 64 i.put
      let n := min (i.len - i.put) i.room
      let dst := match s.cpyLoc st i i.dsla a .write with
        | .loc l => l.key.map fun k => (k, i.put)
        | .away => none
        | .stop _ => none
      match s.cpyRead st false dst (i.put + n) 65 i with
      | .stop s' => .stop s'
      | .go i s =>
        match s.cpyWrite st i a ((i.got.drop i.put).take n) with
        | .stop s' => .stop s'
        | .go i s => s.cpyLines st fuel i

/-- The tiles of a CPYT. -/
def State.cpyTiles (st : Nat) : Nat → CItem → State → CRun
  | 0, i, s => .go i s
  | fuel + 1, i, s =>
    let t := i.put / 896
    if i.len ≤ t then .go i s
    else
      match s.cpyRead st false none (8192 * (t + 1)) 8193 i with
      | .stop s' => .stop s'
      | .go i s =>
        let (image, sticky, ev) := burinTile ((i.got.drop (8192 * t)).take 8192)
        match i.trap, ev with
        | true, some det =>
          let s := (s.cpyPop st).modStation st fun S => { S with cpy := { S.cpy with halted := some i.tag, haltGrid := i.grid } }
          .stop (s.unitEvent 3 i.tag i.grid i.slot (causeOf 3 3 det))
        | _, _ =>
          match s.cpyPutAll st image 897 (i.put % 896) { i with bst := i.bst || sticky } with
          | .stop s' => .stop s'
          | .go i s => s.cpyTiles st fuel i

/-- The SLA operands of an entry that the protection unit refuses: a source or digest for reading, a destination for
writing (R239, R366). -/
def State.cpyProt (s : State) (st : Nat) (i : CItem) : Option Word :=
  let bad (sla : Bool) (a : Word) (n : Nat) (wr : Bool) : Option Word :=
    let o := a.toNat % 2 ^ 32
    let inr := min n (s.plateSize st - o)
    if sla && decide (0 < inr) && !(s.station st).protOk .engine wr o inr then some (BitVec.ofNat 64 o) else none
  match bad i.ssla i.src (i.op.srcLen i.len) false, bad i.dsla i.dst (i.op.dstLen i.len) true,
      (if i.op = .cpys then bad i.gsla i.dig 48 false else none) with
  | some a, _, _ => some a
  | none, some a, _ => some a
  | none, none, some a => some a
  | none, none, none => none

/-- An entry whose writes are all held. -/
def State.cpyDone (s : State) (st : Nat) (i : CItem) (mismatch : Bool) : State :=
  match i.host with
  | some h => (s.cpyPop st).hostCopyEnd h 0 0
  | none => s.cpySet st { i with done := some mismatch }

/-- Performing the head entry, when it is of an event's operation and not done, and nothing of it is outstanding. -/
def State.cpyPerform (s : State) (st : Nat) (op : CopyOp) (f : CItem → CRun) (g : CItem → State → State) : Out :=
  .next (match s.cpyHead st with
    | none => s
    | some i =>
      if i.op ≠ op ∨ i.done.isSome ∨ s.cpyWaits st then s
      else
        match i.failed, s.cpyProt st i with
        | some (c, a), _ => s.cpyFail st i c a
        | none, some a => s.cpyRefused st i 0x15E a
        | none, none =>
          match f i with
          | .stop s' => s'
          | .go i s' => g i s')

/-- CPY_PERFORM (R240). -/
def execCpyPerform (station : Nat) (s : State) : Out :=
  s.cpyPerform station .cpy (fun i => s.cpyLines station (i.len + 1) i) fun i s => s.cpyDone station i false

/-- CPYT_PERFORM (R240, R241). -/
def execCpytPerform (station : Nat) (s : State) : Out :=
  s.cpyPerform station .cpyt (fun i => s.cpyTiles station (i.len + 1) i) fun i s => s.cpyDone station i false

/-- CPYD_PERFORM (R240). -/
def execCpydPerform (station : Nat) (s : State) : Out :=
  s.cpyPerform station .cpyd
    (fun i =>
      match s.cpyRead station false none i.len (i.len + 1) i with
      | .stop s' => .stop s'
      | .go i s => s.cpyPutAll station (sha384 i.got) 49 i.put i)
    fun i s => s.cpyDone station i false

/-- CPYS_PERFORM (R240): the expected digest is read after the last destination byte is written. -/
def execCpysPerform (station : Nat) (s : State) : Out :=
  s.cpyPerform station .cpys
    (fun i =>
      match s.cpyLines station (i.len + 1) i with
      | .stop s' => .stop s'
      | .go i s => s.cpyRead station true none 48 49 i)
    fun i s => s.cpyDone station i (sha384 i.got != i.dgot)

/-- COPY_COMPLETION (R242): STATUS at descriptor + 32, then the completion action, unless the digests differ. -/
def execCopyCompletion (station : Nat) (s : State) : Out :=
  .next (match s.cpyHead station with
    | none => s
    | some i =>
      match i.done with
      | none => s
      | some bad =>
        let status := 2 ^ 63 + i.bst.toNat * 256 + bad.toNat
        if !(s.station station).protOk .engine true (i.desc + 32) 8 && decide (i.desc + 40 ≤ s.plateSize station) then
          s.cpyRefused station i 0x15E (BitVec.ofNat 64 (i.desc + 32))
        else
          match s.recall (plateLoc station (i.desc + 32)) 8 with
          | some s' => s'
          | none =>
          let s := (s.plateWrite station (i.desc + 32) (bytesOf 8 status)).cpyPop station
          if bad then s
          else
            s.doAction { kind := .proofPub, src := 3, tag := i.tag, slot := i.slot, station := station, grid := i.grid,
                         ctx := i.ctx, world := (s.ctxWho i.ctx).world, pc := i.pc, age := i.n } i.act)

end Sys2Proof.Machine
end

