-- ==== Sys2Proof/Machine/MemEvents.lean ====
section
/-! DEFINITION. The memory system's events: results that arrive, merges, fills, releases, kind queries and
host-window accesses (R31, R34, R193, R195, R198, R203, R212, R215, R245, R246). -/

namespace Sys2Proof.Machine

/-! ### Writing a strand's register wherever the strand is (R31, R34) -/

/-- Changing the chord that a strand belongs or belonged to, resident or saved. -/
def State.modChordOf (s : State) (tag : Nat) (f : Chord → Chord) : State :=
  { s with saved := s.saved.map fun v =>
      match v with
      | .slot a b t c => .slot a b t c
      | .chord a c ts b d e => .chord a (if tag ∈ c.tags then f c else c) ts b d e }

/-- The station whose chord a strand belongs or belonged to. -/
def State.chordStation (s : State) (tag : Nat) : Option Nat :=
  (s.stations.find? fun e => (e.2.chord.map fun c => c.tags.contains tag).getD false).map (·.1)

/-- A result's write of a shared register. An instruction that waited at issue for it and writes in the same cycle is the later-issued
one, and its write stands (R33); a read in the cycle returns the old value (R30). -/
def Station.arriveY (S : Station) (i : Fin 16) (c : SCell) : Station :=
  match S.chord with
  | some ch => { S with chord := some { ch with yreg := ch.yreg.set i c }, same := .y i 0 ((oldY i S.same).getD ch.yreg[i]) :: S.same }
  | none => S

def Station.arriveW (S : Station) (i : Fin 8) (c : VCell) : Station :=
  match S.chord with
  | some ch => { S with chord := some { ch with wreg := ch.wreg.set i c }, same := .w i 0 ((oldW i S.same).getD ch.wreg[i]) :: S.same }
  | none => S

/-- Writing a scalar register of the strand with a tag. -/
def State.writeTagS (s : State) (tag : Nat) (r : SReg) (c : SCell) : State :=
  match r with
  | .x i =>
    match s.slotOfTag tag with
    | some k => s.setScell k r c
    | none => s.modTag tag fun t => { t with x := if i = 0 then t.x else t.x.set i c }
  | .y i =>
    match s.chordStation tag with
    | some st => s.modStation st fun S => S.arriveY i c
    | none => s.modChordOf tag fun ch => { ch with yreg := ch.yreg.set i c }

/-- Writing a vector register of the strand with a tag. -/
def State.writeTagV (s : State) (tag : Nat) (r : VReg) (c : VCell) : State :=
  match r with
  | .v i =>
    match s.slotOfTag tag with
    | some k => s.setVcell k r c
    | none => s.modTag tag fun t => { t with v := t.v.set i c }
  | .w i =>
    match s.chordStation tag with
    | some st => s.modStation st fun S => S.arriveW i c
    | none => s.modChordOf tag fun ch => { ch with wreg := ch.wreg.set i c }
  | .q _ => s

/-- A result that is ready arrives (R31, R34, R123): the register is written full, with its flags; a poisoned result marks it. -/
def State.resultArrive (s : State) (res : Nat) : State :=
  match tblGet s.results res with
    | none => s
    | some r =>
      if !r.ready then s
      else
        let s : State := { s with results := tblDel s.results res }
        let poison : Option Poison := r.poison.map fun c => ⟨r.pc, r.addr, c, r.tag⟩
        let s := match r.dst with
          | .none => s
          | .s d =>
            let v := extend r.nbytes r.signed r.value.toNat
            s.writeTagS r.tag d { val := if poison.isSome then 0 else v, poison := poison }
          | .v d => s.writeTagV r.tag d { val := if poison.isSome then 0 else r.value, xr := r.xr, poison := poison }
        s.raiseTag r.tag (r.sticky ||| flagIf r.setSat flSAT)

/-! ### Merges (R195, R203) -/

/-- The maximal runs of set bits among the bits from i on, as (first bit, length) (R245). -/
def runsOf (m : BitVec 64) : Nat → Nat → List (Nat × Nat)
  | 0, _ => []
  | n + 1, i =>
    let rest := runsOf m n (i + 1)
    if m.getLsbD i then
      match rest with
      | (j, k) :: t => if j = i + 1 then (i, k + 1) :: t else (i, 1) :: (j, k) :: t
      | [] => [(i, 1)]
    else rest

/-- One posted write for each run of a line's bytes, poisoned when an error lost one (R406). -/
def State.postRuns (s : State) (func addr : Nat) (m : BitVec 64) (d : BitVec 512) (poisoned : Bool) : State :=
  { s with pcie := s.pcie ++ (runsOf m 64 0).map fun r =>
      .write func (addr + r.1) r.2 (BitVec.ofNat 2048 (d.toNat / 2 ^ (8 * r.1) % 2 ^ (8 * r.2))) poisoned }

/-- A line's bytes with their enables. -/
def maskBytes (m : BitVec 64) (d : BitVec 512) : List (Bool × Byte) :=
  (numsFrom 0 64).map fun i => (m.getLsbD i, lineByte d i)

/-- When a home last supplied a line to a station or accepted a merge of it from there, or the dispatch of the station's chord
(R203). Of a station of another package the dispatch is not known to the home, and counts as the first moment (log entry 74). -/
def State.lastSeen (s : State) (r : Req) (line : Nat) : Nat :=
  match r.from_ with
  | some f => (tblGet s.seenAway (f.1 * 2 ^ 58 + line)).getD 0
  | none =>
    let S := s.station r.station
    max ((tblGet S.seen line).getD 0) ((S.chord.map (·.dispatched)).getD 0)

/-- A home supplies a line to the station of a request, or accepts a merge of it. -/
def State.noteSeenBy (s : State) (r : Req) (line : Nat) : State :=
  match r.from_ with
  | some f => { s with seenAway := tblPut s.seenAway (f.1 * 2 ^ 58 + line) s.clock }
  | none => s.noteSeen r.station line

/-- Whether a merge conflicts with a far atomic (R203). -/
def State.amoConflict (s : State) (r : Req) (line key : Nat) : Bool :=
  r.kind == .merge && (numsFrom 0 64).any fun i => r.mask.getLsbD i && (match tblGet s.atomics (key + i) with
    | some t => decide (s.lastSeen r line < t)
    | none => false)

/-- A write of a request has taken its place: another package is told (R214), and a lost one is the fault of each grid that wrote
its bytes (R215). -/
def State.written (s : State) (n : Nat) (r : Req) (lost : Bool) : State :=
  let s := s.delReq n
  match r.from_, lost with
  | some f, _ => s.reply f 0 (if lost then 0x1E1 else 0)
  | none, true => s.faultWriters r 0x1E1 5 (blockOf r.gva)
  | none, false => s

/-- The write of a line's bytes at its home: a merge, a write-stream's line, an inbound write, or a write of another package. -/
def State.lineAtHome (s : State) (n : Nat) (r : Req) (l : Loc) : State :=
  let line := r.gva.toNat / 64
  match l with
  | .pcie a =>
    (s.postRuns ((s.die (gvaDie r.gva)).ctxEntry r.ctx).func.toNat a r.mask r.data r.bad).written n r false
  | l =>
    match s.recall l 64 with
    | some s' => s'
    | none =>
      let key := l.key.getD 0
      let s := if s.amoConflict r line key then
          { s.modCtx r.ctx fun c => { c with amoconf := true } with marked := addOnce s.marked (key / 64) } else s
      let s := match (numsFrom 0 64).find? fun i => r.mask.getLsbD i && !s.inPlate (l.plus i) with
        | some i => s.recordOorG r.ctx (r.gva + BitVec.ofNat 64 i)
        | none => s
      let (s, lost) := s.writeBlock l (maskBytes r.mask r.data)
      let s := (if r.bad then s.setPoison key (if r.b = 2 then 1 else 0) else s).tick
      (if r.kind = .merge then s.noteSeenBy r line else s).written n r lost

/-- MERGE_AT_HOME (R195, R203, R211, R214, R215, R234): the home accepts the bytes of a merge, of a line of a write-stream word,
of an inbound write, or of a write of another package, as one write. -/
def execMergeAtHome (req : Nat) (s : State) : Out :=
  .next (match s.req req with
    | none => s
    | some r =>
      match r.kind, r.stage with
      | .merge, .translated l => if s.mayServe r then s.lineAtHome req r l else s
      | .copyWrite, .translated l => if s.mayServe r then s.lineAtHome req r l else s
      | .streamWrite _, .translated l => if s.streamBehind r then s else s.lineAtHome req r l
      | .inWrite _, .translated (.pcie a) => if s.inboundBehind r then s else
          (s.postRuns ((s.die (gvaDie r.gva)).ctxEntry r.ctx).func.toNat a r.mask r.data r.bad).delReq req
      | .inWrite _, .translated l => if s.inboundBehind r then s else s.lineAtHome req r l
      | _, _ => s)

/-- STORE_MERGE (R195): a line's dirty bytes are sent; a line with none leaves L1 (log entry 13). -/
def execStoreMerge (station line : Nat) (s : State) : Out :=
  .next (if (s.station station).stores.any fun x => x.line == line && x.mergeable then s.mergeLine station line
    else s.modStation station fun S => { S with clean := S.clean.filter fun c => c.1 / 64 != line })

/-! ### Fills (R193) -/

/-- The bytes of a line that the station has sent in merges not yet at the home, laid over the home's line. -/
def State.afterMerges (s : State) (st line : Nat) (d : BitVec 512) : BitVec 512 :=
  (s.reqs.filter fun e => e.2.kind == .merge && e.2.station == st && e.2.gva.toNat / 64 == line).foldl
    (fun d e => (overlay (BitVec.allOnes 64, d) (e.2.mask, e.2.data)).2) d

/-- A line installed as a clean copy (R193). -/
def State.install (s : State) (st line : Nat) (d : BitVec 512) (poison : Option Nat) : State :=
  let d := s.afterMerges st line d
  s.modStation st fun S => { S with
    clean := (numsFrom 0 64).foldl (fun c i => tblPut c (line * 64 + i) { val := lineByte d i, poison := poison }) S.clean }

/-- Giving a line's bytes to a result. -/
def PRes.feed (r : PRes) (line : Nat) (d : BitVec 512) (poison : Option Cause) : PRes :=
  let mine := r.wants line
  let v := mine.foldl (fun v p => v + (lineByte d (p.2 % 64)).toNat * 2 ^ (8 * p.1)) r.value.toNat
  let pend := r.pend.filter fun p => p.2 / 64 != line
  { r with
    value := BitVec.ofNat 2048 v
    pend := pend
    ready := pend.isEmpty
    poison := if mine.isEmpty then r.poison else if r.poison.isSome then r.poison else poison }

/-- The bytes of an MLDW's line written into its image. -/
def LatchLoad.feed (l : LatchLoad) (line : Nat) (m : BitVec 64) (d : BitVec 512) (poison : Option Nat) : LatchLoad :=
  let v := (numsFrom 0 64).foldl (fun v i =>
    if m.getLsbD i then v + (lineByte d i).toNat * 2 ^ (8 * (line * 64 + i - l.base.toNat)) else v) l.image
  { l with image := v, poison := if poison.isSome then poison else l.poison }

/-- A fill's reply: the bytes go to what requested them (R193, R123, R168). -/
def State.feedFill (s : State) (n : Nat) (r : Req) (d : BitVec 512) (poison : Option Nat) : State :=
  let line := r.gva.toNat / 64
  let s := s.delReq n
  if r.src = 2 then
    s.modTag r.tag fun t => match t.hold with
      | .mldw l => { t with hold := .mldw (l.feed line r.mask d poison) }
      | _ => t
  else
    match r.res with
    | none => s
    | some i => s.modResult i fun x => x.feed line d (poison.map (poisonCode r.src))

/-- The smallest range of a line that holds a list of places. -/
def spanOf (l : List Nat) : Nat × Nat :=
  match l with
  | [] => (0, 64)
  | x :: t =>
    let lo := t.foldl min x
    (lo, t.foldl max x + 1 - lo)

/-- The range of a fill's line that its instruction lacks. -/
def State.fillSpan (s : State) (r : Req) : Nat × Nat :=
  spanOf (if r.from_.isSome then (numsFrom 0 64).filter fun i => r.mask.getLsbD i else s.fillWants r)

/-- A line of device memory reaches what asked for it: the bytes that the write set held for a page of unknown kind are read from
there (R193, R212). -/
def State.feedLine (s : State) (n : Nat) (r : Req) (d : BitVec 512) (poison : Option Nat) : State :=
  let held := (s.fillWants r).all fun i => r.held.getLsbD i
  s.feedFill n r (overlay (BitVec.allOnes 64, d) (r.held, r.data)).2 (if held then none else poison)

/-- A page's kind reaches a station (R212). The station keeps every kind it learns until a PHASE.A: the rule does not say when it
needs the room (log entry 26). -/
def State.learnKind (s : State) (st page : Nat) (k : Fin 4) : State :=
  s.modStation st fun S => { S with
    kinds := tblPut S.kinds page k
    stores := S.stores.map fun x => if x.line / 1024 = page ∧ x.kind = none then { x with kind := some k } else x }

/-- The page kind of a location. -/
def Loc.kind : Loc → Fin 4
  | .lp6 _ _ => 2
  | .plate _ _ => 1
  | .shared _ _ => 1
  | .pcie _ => 3

/-- A non-posted read for a request leaves on the PCIe link (R212). -/
def State.readHost (s : State) (n : Nat) (r : Req) (a off len : Nat) : State :=
  let func := ((s.die (gvaDie r.gva)).ctxEntry r.ctx).func.toNat
  { s.modReq n fun (r : Req) => { r with stage := .hostOut (.pcie a) } with
    pcie := s.pcie ++ [.read n func (a + off) len] }

/-- An inbound read of n bytes within a line (R211, R406): its completion, or, of a host-window page, a read that is sent on
(R360, R432; log entry 18). -/
def State.inboundReadAt (s : State) (req : Nat) (r : Req) (f n : Nat) (l : Loc) : State :=
  match l with
  | .pcie a => s.readHost req r a 0 n
  | l =>
    let off := r.gva.toNat % 64
    match s.recall l n false with
    | some s' => s'
    | none =>
      let v : VWord := BitVec.ofNat 2048 (s.homeNat l n)
      let st : CplStatus := if (s.readPoison l (min n (64 - off))).isSome then .poisoned else .success
      let s := s.noteGvaOor r.ctx r.gva l n
      { s.delReq req with pcie := s.pcie ++ [.completion f n v st] }

/-- A read of n bytes that another package sent is answered with what the home holds (R214). -/
def State.awayReadAt (s : State) (req : Nat) (r : Req) (f : Nat × Nat) (n : Nat) (l : Loc) : State :=
  match l with
  | .pcie a => s.readHost req r a 0 n
  | l =>
    match s.recall l n false with
    | some s' => s'
    | none =>
      let code := ((s.readPoison l n).map (poisonCode 0)).getD 0
      let v : VWord := BitVec.ofNat 2048 (s.homeNat l n)
      ((s.noteGvaOor r.ctx r.gva l n).delReq req).reply f v code l.kind

/-- A fill of a line of device memory: the line as it stands goes to the station, with its page's kind (R193, R212); a prefetch of
a poisoned line is discarded (R221). -/
def State.lineFill (s : State) (req : Nat) (r : Req) (pf : Bool) (l : Loc) : State :=
  match s.recall l 64 false with
  | some s' => s'
  | none =>
    let line := r.gva.toNat / 64
    let d := BitVec.ofNat 512 (s.homeNat l 64)
    let poison := s.readPoison l 64
    let s := match r.from_ with
      | some _ => s
      | none => match (s.fillWants r).find? fun i => !s.inPlate (l.plus i) with
        | some i => if pf then s else s.recordOorG r.ctx (r.gva + BitVec.ofNat 64 i)
        | none => s
    match r.from_ with
    | some f => (((s.noteSeenBy r line).tick).delReq req).reply f (d.setWidth 2048) ((poison.map (poisonCode 0)).getD 0) l.kind
    | none =>
      if pf && poison.isSome then s.delReq req
      else
        let s := if r.install then s.install r.station line d poison else s
        (((s.learnKind r.station (gvaPage r.gva) l.kind).noteSeen r.station line).tick).feedLine req r d poison

/-- FILL_AT_HOME (R193, R211, R212, R214, R221): the home serves a line as it stands; a host-window read leaves as a non-posted
read. The reads of inbound requests and of other packages are served so too. -/
def execFillAtHome (req : Nat) (s : State) : Out :=
  .next (match s.req req with
    | none => s
    | some r =>
      match r.kind, r.stage, r.from_ with
      | .fill true, .translated (.pcie _), _ => s.dropPref req r
      | .fill _, .translated (.pcie a), from_ =>
        if (from_.isNone && s.hostStoreBefore r.station r.age) || s.deliveredBefore r || !s.mayServe r then s
        else
          let w := s.fillSpan r
          s.readHost req r a w.1 w.2
      | .inRead f n, .translated l, _ => if s.inboundBehind r then s else s.inboundReadAt req r f n l
      | .copyRead n, .translated l, some f => s.awayReadAt req r f n l
      | .fetch, .translated l, some f => s.awayReadAt req r f 64 l
      | .fill pf, .translated l, _ => if s.mayServe r then s.lineFill req r pf l else s
      | _, _, _ => s)

/-! ### Releases, kinds and host-window stores (R198, R212, R245) -/

/-- PHASE_RELEASE_COMPLETE (R198, R199, R218): a line whose kind was learnt since is sent first. -/
def execPhaseReleaseComplete (slot : Nat) (s : State) : Out :=
  .next (match s.slot slot with
    | none => s
    | some t =>
      match t.hold, t.frozen with
      | .release sc age host acq, none =>
        let st := stationOf slot
        if s.releaseDone t st sc age host then
          (if acq then s.acquire t.who st sc else s).release slot
        else s.mergeCovered st age
      | _, _ => s)

/-- KIND_QUERY_REPLY (R212). -/
def execKindQueryReply (req : Nat) (s : State) : Out :=
  .next (match s.req req with
    | none => s
    | some r =>
      match r.kind, r.stage, r.from_ with
      | .kindQuery, .translated l, none => (s.delReq req).learnKind r.station (gvaPage r.gva) l.kind
      | .kindQuery, .translated l, some f => (s.delReq req).reply f 0 0 l.kind
      | _, _, _ => s)

/-- Whether a release that issued before a store is held (R212). -/
def State.releaseAhead (s : State) (st age : Nat) : Bool :=
  s.strands.any fun e => stationOf e.1 == st && (match e.2.hold with
    | .release _ _ host _ => decide (host ≤ age)
    | _ => false)

/-- Removing a store. -/
def State.dropStore (s : State) (st age : Nat) : State :=
  s.modStation st fun S => { S with stores := S.stores.filter fun x => x.age != age }

/-- HOST_WINDOW_WRITE_SEND (R212, R245): the first host-window store in store order, when no store before it has an
unknown kind and none before it is on its way to another package, whose link sends it. A page that has changed since its kind
was learnt is asked for again. -/
def execHostWindowWriteSend (station : Nat) (s : State) : Out :=
  .next (match (s.station station).stores.find? fun x => x.kind == some 3 || x.kind == none with
    | none => s
    | some x =>
      if x.kind = none ∨ s.releaseAhead station x.age ∨ s.hostAway station then s
      else
        let g : Word := BitVec.ofNat 64 (x.line * 64)
        let byte : Word := BitVec.ofNat 64 (x.line * 64 + ((List.range 64).find? x.mask.getLsbD).getD 0)
        let setKind (k : Option (Fin 4)) : State := s.modStation station fun S => { S with
          stores := S.stores.map fun y => if y.age = x.age then { y with kind := k } else y }
        let ask : Req := { kind := .kindQuery, slot := x.slot, station := station, grid := x.grid, ctx := x.ctx,
                           world := x.world, gva := g, tag := s.tagAt x.slot }
        if gvaPkg g ≠ s.cfg.pkg then
          (s.dropStore station x.age).addReq { ask with
            kind := .merge, hostw := true, mask := x.mask, data := x.data, writers := [(x.slot, x.grid)], age := x.age, bad := x.bad }
        else
          match s.translateBehind station x.who g .write with
          | .ok (.pcie a) _ =>
            (s.postRuns ((s.die (gvaDie g)).ctxEntry x.ctx).func.toNat a x.mask x.data x.bad).dropStore station x.age
          | .ok l _ => setKind (some l.kind)
          | .notPresent =>
            if s.kindAsked station (gvaPage g) then setKind none else (setKind none).enterPage { ask with gva := byte }
          | .fault c => (s.dropStore station x.age).faultDeferred x.grid (c 0) 0 x.slot byte
          | .refused c => ((s.dropStore station x.age).freezeWriter x.slot x.grid (c 0) byte))

end Sys2Proof.Machine
end

