-- ==== Sys2Proof/Machine/BankEvents.lean ====
section
/-! DEFINITION. The bank ALU: far atomics, queued reservations and global queues at their homes (R202 to R204, R222 to
R229, R265, R266, R272). -/

namespace Sys2Proof.Machine

/-! ### Far atomics (R222 to R225) -/

/-- The new value of an AMO's n bytes, and whether Sat64 clamped it. -/
def amoNew (op : Fin 16) (n old b cmp : Nat) : Nat × Bool :=
  let w := 8 * n
  let b := b % 2 ^ w
  let cmp := cmp % 2 ^ w
  match op.val with
  | 0 => ((old + b) % 2 ^ w, false)
  | 1 => (Nat.land old b, false)
  | 2 => (Nat.lor old b, false)
  | 3 => (Nat.xor old b, false)
  | 4 => (if toSigned w b < toSigned w old then b else old, false)
  | 5 => (if toSigned w old < toSigned w b then b else old, false)
  | 6 => (min old b, false)
  | 7 => (max old b, false)
  | 8 => (b, false)
  | 9 => (if old = cmp then b else old, false)
  | 10 => ((faddP 23 (.m .rne) old (b % 2 ^ 32)).1, false)
  | 11 =>
    let t := toSigned 64 old + toSigned 64 b
    let y := clampInt (-(2 ^ 63)) (2 ^ 63 - 1) t
    (ofSigned 64 y, y != t)
  | _ => (old, false)

/-- A bank operation that its home does not perform: a deferred fault of its grid, or the answer to another package. -/
def State.bankFault (s : State) (n : Nat) (r : Req) (code : Cause) (addr : Word) : State :=
  let s := s.delReq n
  match r.from_ with
  | some f => s.reply f 0 code
  | none => s.faultDeferred r.grid code 5 r.slot addr

/-- A bank operation on a poisoned word: a returned value is poisoned, otherwise the grid faults (R225). -/
def State.bankPoison (s : State) (n : Nat) (r : Req) (kind : Nat) (src : Nat) : State :=
  match r.from_, r.res with
  | none, some i => (s.delReq n).deliverPoison i (poisonCode src kind)
  | _, _ => s.bankFault n r (poisonCode 4 kind) r.gva

/-- The first byte of an access that does not exist is recorded (R40). -/
def State.noteReqOor (s : State) (r : Req) (l : Loc) (n : Nat) : State := s.noteGvaOor r.ctx r.gva l n

/-- BANK_AMO_PERFORM (R222 to R225). -/
def execBankAmoPerform (req : Nat) (s : State) : Out :=
  .next (match s.req req with
    | none => s
    | some r =>
      match r.kind, r.stage with
      | .amo op dbl, .translated l =>
        let n := if dbl then 8 else 4
        if !s.mayServe r then s
        else
          match s.recall l n with
          | some s' => s'
          | none =>
            match l.key.bind s.poisonAt with
            | some 2 => (s.setPoison (l.key.getD 0) 0).bankFault req r 0x1E1 (blockOf r.gva)
            | some k => s.bankPoison req r k 0
            | none =>
              let s := s.noteReqOor r l n
              let old := s.homeNat l n
              let (new, sat) := amoNew op n old r.a.toNat r.b.toNat
              let s := (s.writeBlock l ((bytesOf n new).map fun b => (true, b))).1
              let s := ((s.delReq req).tick).noteAtomic (l.key.getD 0) n
              let s := if sat then s.modCtx r.ctx fun c => { c with amosat := true } else s
              let s := match r.res with
                | some i => s.modResult i fun x => { x with setSat := x.setSat || sat }
                | none => s
              s.answer r (BitVec.ofNat 2048 (if dbl then old else (sext 32 old).toNat)) (if sat then 1 else 0)
      | _, _ => s)

/-! ### Reservations (R226 to R228) -/

/-- The home slice of a memory key. -/
def keyHome (k : Nat) : Nat :=
  if 2 ^ 52 ≤ k then (k - 2 ^ 52) / 2 ^ 23
  else (Loc.lp6 (k / 2 ^ 48) (k % 2 ^ 48)).home (k / 2 ^ 48)

/-- The reservation records in use at a slice: words held and waiters (R228). -/
def State.resvCount (s : State) (home : Nat) : Nat :=
  (s.resv.map fun e => if keyHome e.1 = home then 1 + e.2.waiters.length else 0).sum

/-- Whether an LRW waits in the slice's inbound queue. -/
def State.resvQueued (s : State) (home : Nat) : Bool :=
  s.reqs.any fun e => e.2.kind == .lrw && (match e.2.stage with
    | .inbound l => l.key.map keyHome == some home
    | _ => false)

/-- An LRW at its bank: refused when the strand holds or awaits the word, granted when it is free, queued
otherwise. -/
def State.lrwAt (s : State) (n : Nat) (r : Req) (l : Loc) : State :=
  match l.key with
  | none => s
  | some key =>
    let w : LWaiter := { tag := r.tag, grid := r.grid, res := r.res, from_ := r.from_, slot := r.slot, addr := r.gva }
    match tblGet s.resv key with
    | some x =>
      if x.holder = r.tag ∨ (x.waiters.any fun y => y.tag == r.tag) then
        s.bankFault n r 0x262 r.gva
      else ({ s with resv := tblPut s.resv key { x with waiters := x.waiters ++ [w] } }).delReq n
    | none =>
      let s : State := { s with resv := tblPut s.resv key { holder := 0, grid := 0, waiters := [w] } }
      ((s.noteReqOor r l 8).delReq n).resvGrant key

/-- BANK_LRW (R226, R228): without a free record it waits in the slice's inbound queue. One that returns no value and was granted
a poisoned word faults its grid (R225). -/
def execBankLrw (req : Nat) (s : State) : Out :=
  .next (match s.req req with
    | none => s
    | some r =>
      match r.kind, r.stage with
      | .lrw, .translated l =>
        if !s.mayServe r then s else
        match s.recall l 8 with
        | some s' => s'
        | none =>
          let home := keyHome (l.key.getD 0)
          if 256 ≤ s.resvCount home ∨ s.resvQueued home then
            { s.modReq req fun r => { r with stage := .inbound l, order := s.nextId } with nextId := s.nextId + 1 }
          else s.lrwAt req r l
      | .lrw, .replied _ code => s.bankFault req r code r.gva
      | _, _ => s)

/-- Whether a strand holds a word. -/
def State.holds (s : State) (key tag : Nat) : Bool := ((tblGet s.resv key).map fun x => x.holder == tag).getD false

/-- BANK_SCH (R226): the write, then the grant of the next waiter. -/
def execBankSch (req : Nat) (s : State) : Out :=
  .next (match s.req req with
    | none => s
    | some r =>
      match r.kind, r.stage with
      | .sch, .translated l =>
        let key := l.key.getD 0
        if !s.mayServe r then s else
        match s.recall l 8 with
        | some s' => s'
        | none =>
          if !s.holds key r.tag then s.bankFault req r 0x261 r.gva
          else
            match s.poisonAt key with
            | some 2 => (s.setPoison key 0).bankFault req r 0x1E1 (blockOf r.gva)
            | some k => s.bankPoison req r k 4
            | none =>
              let s := s.noteReqOor r l 8
              let s := (s.writeBlock l ((bytesOf 8 r.a.toNat).map fun b => (true, b))).1
              (((s.delReq req).tick).answer r 0).resvGrant key
      | _, _ => s)

/-- BANK_RREL (R226). -/
def execBankRrel (req : Nat) (s : State) : Out :=
  .next (match s.req req with
    | none => s
    | some r =>
      match r.kind, r.stage with
      | .rrel, .translated l =>
        let key := l.key.getD 0
        if !s.mayServe r then s else
        match s.recall l 8 with
        | some s' => s'
        | none =>
          if !s.holds key r.tag then s.bankFault req r 0x261 r.gva
          else
            match s.readPoison l 8 with
            | some k => s.bankPoison req r k 4
            | none => (((s.delReq req).tick).answer r 0).resvGrant key
      | _, _ => s)

/-! ### Global queues (R229, R265, R266, R272) -/

/-- Removing a request from the waiters of a queue. -/
def State.unwait (s : State) (key n : Nat) : State :=
  let l := s.queueWaits.map fun e => if e.1 = key then (e.1, e.2.filter fun m => m != n) else e
  { s with queueWaits := l.filter fun e => !e.2.isEmpty }

/-- A request waits at a queue, in arrival order. An ENQ of another package is told so once, and whether the queue is a guest's
(R206). -/
def State.waitAt (s : State) (key n : Nat) : State :=
  let l := (tblGet s.queueWaits key).getD []
  if l.contains n then s
  else
    let s : State := { s with queueWaits := tblPut s.queueWaits key (l ++ [n]) }
    match s.req n with
    | none => s
    | some r =>
      match r.from_, r.kind, r.stage with
      | some f, .enq _, .translated l => s.reply f 0 0 (if (s.qdesc l).guestq then 3 else 2)
      | _, _, _ => s

/-- The slot access of an operation as a request of its own (R266). -/
def Req.slotReq (r : Req) (n : Nat) (g : Word) (wr : Bool) : Req :=
  { r with kind := .slotOp n wr, gva := g, res := none, stage := .toDtu, from_ := none }

/-- The slot access of an operation does not translate at once: it waits as a request of its own (R266). -/
def State.slotAccess (s : State) (n : Nat) (r : Req) (g : Word) (wr : Bool) : Xlat → State
  | .ok _ _ => s
  | .notPresent => s.enterPage (r.slotReq n g wr)
  | .fault c => (s.dropReqs [n]).bankFault n r (c 4) g
  | .refused c =>
    let s := s.dropReqs [n]
    match r.from_ with
    | some f => s.reply f 0 (c 0)
    | none => ((match r.res with
        | some i => s.deliverPoison i r.markCode
        | none => s).freezeTag r.tag r.slot r.grid (c 0) g)

/-- CTXTAG (R267): the low 16 bits of a grid's key are its SERIAL. -/
def Req.ctxTag (r : Req) : Nat := r.grid % 65536 * 65536 + r.world.toNat * 64 + r.ctx % 64

/-- The packet with its bytes 4 to 7 replaced. -/
def tagPacket (d : BitVec 512) (tag : Nat) : Nat :=
  let v := d.toNat
  v % 2 ^ 32 + tag % 2 ^ 32 * 2 ^ 32 + v / 2 ^ 64 * 2 ^ 64

/-- An ENQ whose packet is written: the sequence number is returned and TAIL advances; a guest queue's packet is
tracked, and the guest is notified unless it is not ready (R206, R268, R410). -/
def State.enqDone (s : State) (n : Nat) (r : Req) (l : Loc) (q : QDesc) : State :=
  let s := ((s.setTail l (q.tail + 1)).answer r (q.tail.setWidth 2048) (if q.guestq then 1 else 0)).unwait (l.key.getD 0) n
  let s := (s.delReq n).tick
  if q.guestq then
    { s with guest := { s.guest with
      sent := s.guest.sent ++ [{ gqn := q.gqn, seq := q.tail.toNat, grid := r.grid, ctx := r.ctx, world := r.world,
                                 station := r.station, id := r.order, desc := l, from_ := r.from_ }]
      out := if s.guest.st == .online || s.guest.st == .frozen then s.guest.out ++ [.notice q.gqn (q.tail + 1)] else s.guest.out } }
  else s

/-- A DEQ that took a packet: bytes 0 to 63 the packet, 64 to 71 its sequence number (R229). Its room lets in a held
DROPPED notification (R363). -/
def State.deqDone (s : State) (n : Nat) (r : Req) (l : Loc) (q : QDesc) (packet : Nat) (poison : Option Nat) : State :=
  let s := s.setHead l (q.head + 1)
  let s := match r.from_, r.res, poison with
    | some f, _, some k => s.reply f 0 (poisonCode 1 k)
    | none, some i, some k => s.deliverPoison i (poisonCode 1 k)
    | _, _, none => s.answer r (BitVec.ofNat 2048 (packet + q.head.toNat * 2 ^ 512))
    | none, none, some _ => s
  (((s.unwait (l.key.getD 0) n).delReq n).tick).pagerFlush [0, 1, 2, 3]

/-- All-ones in the sequence field of a DEQ.nw, and of an ENQ.nw. -/
def nwDeq : VWord := BitVec.ofNat 2048 ((2 ^ 64 - 1) * 2 ^ 512)
def nwEnq : VWord := BitVec.ofNat 2048 (2 ^ 64 - 1)

/-- What one operation on a queue does: nothing yet (it waits), or something that may let a waiting one go on. -/
structure QRes where
  s : State
  did : Bool

/-- Whether the bank passes a request without the check of the owner: a firmware strand's at a queue of the device (R363). -/
def State.ownQueue (s : State) (r : Req) : Bool := r.who.fw && s.cfg.deviceQueue r.gva

/-- The bank's checks of the descriptor: the fault's code (R266, R272). -/
def State.queueRefuse (s : State) (r : Req) (q : QDesc) (deq : Bool) : Option Cause :=
  if !q.valid || !(q.mine r.who || s.ownQueue r) || (deq && q.guestq) then some 0x263
  else if q.guestq && !s.cfg.guestPresent then some 0x264
  else none

/-- What the device has to enqueue in the management and service queues of its dies is enqueued before a strand takes from one
(R368, R375, R400; log entry 67). -/
def State.queueFlush (s : State) (g : Word) : State :=
  (numsFrom 0 4).foldl (fun s d =>
    let i : Fin 4 := Fin.ofNat 4 d
    if s.cfg.mgmtGva[i] = g then s.mgmtFlush d else if s.cfg.svcGva[i] = g then s.svcFlush d else s) s

/-- One ENQ at its bank. -/
def State.enqAt (s : State) (n : Nat) (r : Req) (l : Loc) (nw : Bool) : QRes :=
  let key := l.key.getD 0
  match s.readPoison l 64 with
  | some k => ⟨(s.unwait key n).bankPoison n r k 0, false⟩
  | none =>
    let q := s.qdesc l
    match s.queueRefuse r q false with
    | some c => ⟨(s.unwait key n).bankFault n r c r.gva, false⟩
    | none =>
      if q.full then
        if nw then ⟨(s.delReq n).answer r nwEnq, false⟩ else ⟨s.waitAt key n, false⟩
      else
        let g := q.slot q.tail
        let packet := if q.guestq then tagPacket r.data r.ctxTag else r.data.toNat
        if gvaPkg g ≠ s.cfg.pkg then
          if s.slotOwn n then ⟨s, false⟩
          else ⟨s.addAway { r.slotReq n g true with mask := BitVec.allOnes 64, data := BitVec.ofNat 512 packet }, false⟩
        else
          match s.translateBehind r.station r.who g .write with
          | .ok (.pcie _) _ => ⟨(s.unwait key n).bankFault n r 0x16C g, false⟩
          | .ok l' _ =>
            match s.recall l' 64 with
            | some s' => ⟨s', false⟩
            | none => ⟨((s.writeBlock l' ((bytesOf 64 packet).map fun b => (true, b))).1).enqDone n r l q, true⟩
          | x => ⟨s.slotAccess n r g true x, false⟩

/-- One DEQ at its bank. -/
def State.deqAt (s : State) (n : Nat) (r : Req) (l : Loc) (nw : Bool) : QRes :=
  let key := l.key.getD 0
  match s.readPoison l 64 with
  | some k => ⟨(s.unwait key n).bankPoison n r k 1, false⟩
  | none =>
    let q := s.qdesc l
    match s.queueRefuse r q true with
    | some c => ⟨(s.unwait key n).bankFault n r c r.gva, false⟩
    | none =>
      if q.empty then
        if nw then ⟨(s.delReq n).answer r nwDeq, false⟩ else ⟨s.waitAt key n, false⟩
      else
        let g := q.slot q.head
        if gvaPkg g ≠ s.cfg.pkg then
          if s.slotOwn n then ⟨s, false⟩
          else ⟨s.addAway (r.slotReq n g false), false⟩
        else
          match s.translateBehind r.station r.who g .read with
          | .ok (.pcie _) _ => ⟨(s.unwait key n).bankFault n r 0x16C g, false⟩
          | .ok l' _ =>
            match s.recall l' 64 false with
            | some s' => ⟨s', false⟩
            | none => ⟨s.deqDone n r l q (s.homeNat l' 64) (s.readPoison l' 64), true⟩
          | x => ⟨s.slotAccess n r g false x, false⟩

/-- One queue operation by its request. -/
def State.queueOpAt (s : State) (n : Nat) : QRes :=
  match s.req n with
  | none => ⟨s, false⟩
  | some r =>
    match r.kind, r.stage with
    | .enq nw, .translated l => s.enqAt n r l nw
    | .deq nw, .translated l => s.deqAt n r l nw
    | _, _ => ⟨s, false⟩

/-- An operation that changed the queue serves the requests that wait, in arrival order, while each can be served and no slot
access is in progress. -/
def State.serveQueue (s : State) (key : Nat) : Nat → State
  | 0 => s
  | fuel + 1 =>
    match (tblGet s.queueWaits key).getD [] with
    | [] => s
    | n :: _ =>
      if s.slotOwn n || s.slotBusy key n then s
      else
        let r := s.queueOpAt n
        if r.did then r.s.serveQueue key fuel else r.s

/-- Whether a request stands behind a waiting one of its own operation. -/
def State.queueBehind (s : State) (key n : Nat) : Bool :=
  match (tblGet s.queueWaits key).getD [] with
  | [] => false
  | m :: _ =>
    m != n && (match s.req m, s.req n with
      | some x, some y => (match x.kind, y.kind with
        | .enq _, .enq _ => true
        | .deq _, .deq _ => true
        | _, _ => false)
      | _, _ => false)

/-- An operation arrives at, or is tried again at, its bank. -/
def State.queueEvent (s : State) (n : Nat) (l : Loc) (nw : Bool) : State :=
  let key := l.key.getD 0
  if s.slotBusy key n || s.slotOwn n then s
  else if s.queueBehind key n && !nw then s.waitAt key n
  else
    match s.recall l 64 with
    | some s' => s'
    | none =>
      let r := s.queueOpAt n
      if r.did then r.s.serveQueue key (r.s.reqs.length + 1) else r.s

/-- BANK_ENQ (R229, R266). -/
def execBankEnq (req : Nat) (s : State) : Out :=
  .next (match s.req req with
    | none => s
    | some r =>
      match r.kind, r.stage with
      | .enq nw, .translated l => if s.mayServe r then s.queueEvent req l nw else s
      | _, _ => s)

/-- BANK_DEQ (R229, R266). -/
def execBankDeq (req : Nat) (s : State) : Out :=
  .next (match s.req req with
    | none => s
    | some r =>
      match r.kind, r.stage with
      | .deq nw, .translated l => if s.mayServe r then (s.queueFlush r.gva).queueEvent req l nw else s
      | _, _ => s)

end Sys2Proof.Machine
end

