-- ==== Sys2Proof/Machine/ProofIsa.lean ====
section
/-! DEFINITION. The proof instructions: major 0x1F (R260 to R264). -/

namespace Sys2Proof.Machine

/-- A proof request of the executing strand: the handle stands in `gva`, the count word in `b`. -/
def State.proofReq (s : State) (t : Strand) (k : ReqKind) (h : Word) (count : Word) : Req :=
  { s.reqOf t k h 0 with b := count }

/-- Sending a proof request and holding until its reply; a Bridge slice may be closed to it (R371), which drops the operation
(R381), and another package's proof is reached over the String (R258). `d` receives the reply's value. -/
def State.sendProof (s : State) (t : Strand) (k : ReqKind) (h count : Word) (d : SReg) : State :=
  let here := hPkg h == s.cfg.pkg
  if here && !s.fwPass t.who 2 (hDie h) (fun _ => hHome h) then (s.freezeSlot s.cur 0x2F0 h).advance
  else
    let id := s.nextId
    let s : State := { s with results := tblPut s.results id (emptyRes t (dstS d)), nextId := id + 1 }
    let r : Req := { s.proofReq t k h count with res := some id }
    let s := s.hold (.proof (id + 1))
    if here then s.addReq r else s.addAway r

/-- The part of PRPUB that waits: the queues that the count word names, then the release (R209, R261). -/
def State.prpubWait (s : State) (t : Strand) (h : Hold) : State :=
  match h with
  | .prpub m c mm r handle count age =>
    let st := s.curStation
    if s.qfenceDone t st m c mm r && s.writesHeld st (s.pubScope handle) age 0 then
      s.sendProof t .proofPub handle count (.x 0)
    else s.hold h
  | _ => s

/-- PRPUB (R261). -/
def execPrpub (a b : SReg) (e : Bool) (s : State) : Out :=
  s.issue 0 e [.s a, .s b] [] fun t =>
    match t.hold with
    | .prpub m c mm r handle count age => s.prpubWait t (.prpub m c mm r handle count age)
    | _ =>
      let count := s.sval t b
      match s.resolve t.grid (s.sval t a) with
      | none => s.faultAt 0x202 (s.sval t a)
      | some h =>
        if bits count 63 19 ≠ 0 then s.faultAt 0x204 (s.sval t a)
        else
          let S := s.station s.curStation
          let m : BitVec 4 := BitVec.ofNat 4 ((bit count 16).toNat + (bit count 17).toNat * 2 + (bit count 18).toNat * 8)
          (s.mergeCovered s.curStation s.nextAge).prpubWait t
            (.prpub m S.cpy.entered S.eng.entered s.nextId h count s.nextAge)

/-- A wait, test or take of a resolved handle (R262). -/
def State.proofOp (s : State) (k : ReqKind) (d a : SReg) (e : Bool) : Out :=
  s.issue 0 e [.s a] [.s d] fun t =>
    match s.resolve t.grid (s.sval t a) with
    | none => s.faultAt 0x202 (s.sval t a)
    | some h => s.sendProof t k h 0 d

/-- PRWAIT (R262). -/
def execPrwait (a : SReg) (e : Bool) (s : State) : Out := s.proofOp .proofWait (.x 0) a e

/-- PRTEST (R262). -/
def execPrtest (d a : SReg) (e : Bool) (s : State) : Out := s.proofOp .proofTest d a e

/-- PRTAKE (R262). -/
def execPrtake (d a : SReg) (e : Bool) (s : State) : Out := s.proofOp .proofTake d a e

/-- PRGEN (R263): READ, HANDLE, which needs no reply, and ADVANCE. -/
def execPrgen (d a b : SReg) (e : Bool) (s : State) : Out :=
  s.issue 0 e [.s a, .s b] [.s d] fun t =>
    match s.resolve t.grid (s.sval t a) with
    | none => s.faultAt 0x202 (s.sval t a)
    | some h =>
      let op := (s.sval t b).toNat
      if 2 < op then s.faultAt 0x204 (s.sval t a)
      else if op = 1 then (s.putS s.cur d h).advance
      else s.sendProof t (if op = 0 then .proofRead else .proofAdvance) h 0 d

/-- Replacing a proof-list element's handle and TAKE, keeping its KIND (R264). -/
def setElem (l : List PElem) (i : Nat) (h : Word) (take : Bool) : List PElem :=
  match l[i]? with
  | some x => listSet l i { x with handle := h, take := take }
  | none => l

/-- PRARM (R264): the home checks the handle, and the element is replaced when its reply arrives. -/
def execPrarm (d a b : SReg) (e : Bool) (s : State) : Out :=
  s.issue 0 e [.s a, .s b] [.s d] fun t =>
    let h := s.sval t a
    let w := s.sval t b
    let i := bits w 5 0
    if bits h 63 62 = 0 ∨ bits w 63 9 ≠ 0 ∨ bits w 7 6 ≠ 0 then s.faultAt 0x204 h
    else if !handleOk s.cfg h then s.faultAt 0x202 h
    else
      match (s.gridOf t.grid).bind fun gr => gr.proofs[i]? with
      | none => s.faultAt 0x202 h
      | some _ => s.sendProof t .prarm h w d

end Sys2Proof.Machine
end

