-- ==== Sys2Proof/Machine/ProofEvents.lean ====
section
/-! DEFINITION. The proof operations at their homes and their replies (R252 to R255, R260 to R264, R210). -/

namespace Sys2Proof.Machine

/-- Whether two proof operations come from one engine, from the guest interface, or from one station of another package. -/
def Req.samePublisher (a b : Req) : Bool :=
  match a.from_, b.from_ with
  | none, none => a.src == b.src && (a.src == 7 || a.station == b.station)
  | some f, some g => f.1 == g.1
  | _, _ => false

/-- Whether a request is a publication, a wait or a take. -/
def ReqKind.isProofOp (k : ReqKind) : Bool := k == .proofPub || k.isWait || k.isTake

/-- Whether an earlier operation of the same publisher on the same proof has not arrived (R254). -/
def State.pubBehind (s : State) (r : Req) : Bool :=
  (r.src != 0 || r.from_.isSome) && s.reqs.any fun e =>
    e.2.kind.isProofOp && e.2.stage == .toDtu && e.2.samePublisher r && e.2.gva.toNat / 65536 == r.gva.toNat / 65536 &&
    decide (e.2.order < r.order)

/-- Whether a write or far atomic that the String delivered before a publication of the same station has not taken place
(R214). -/
def State.stringBehind (s : State) (r : Req) : Bool :=
  r.from_.isSome && s.reqs.any fun e =>
    e.2.from_.map (·.1) == r.from_.map (·.1) && e.2.kind.carries && decide (e.2.order < r.order)

/-- Whether the firewall of the home's row passes a proof operation of another package (R371). -/
def State.proofOpen (s : State) (r : Req) : Bool :=
  r.from_.isNone || s.fwPass r.who 2 (hDie r.gva) fun _ => hHome r.gva

/-- A proof operation arrives at its home, whose firewall may refuse it. -/
def State.proofArrive (s : State) (n : Nat) (r : Req) (f : State) : State :=
  if hPkg r.gva ≠ s.cfg.pkg then s else if s.proofOpen r then f else s.refuseReq n r 0x2F0

/-- A publication at its home (R254). -/
def State.publishAt (s : State) (n : Nat) (r : Req) (again : Bool) : State :=
  let key := hKey r.gva
  match s.proofRefuse r.who key, s.proofGet key with
  | some det, _ => s.proofAnswer n false det 0
  | none, none => s
  | none, some p =>
    let d := genDelta (hGen r.gva) p.gen
    if d < 0 then s.proofAnswer n false 1 0
    else if 0 < d then s.recordWaiter n r again
    else if p.pub then s.proofAnswer n false 1 0
    else (s.proofAnswer n true 0 0).proofPublishNow key (r.b.setWidth 16) r.from_.isSome

/-- A wait or an arming without TAKE at its home (R254). -/
def State.waitProofAt (s : State) (n : Nat) (r : Req) (again : Bool) : State :=
  let key := hKey r.gva
  match s.proofRefuse r.who key, s.proofGet key with
  | some det, _ => s.proofAnswer n false det 0
  | none, none => s
  | none, some p =>
    let d := genDelta (hGen r.gva) p.gen
    if d < 0 then s.proofAnswer n false 0 0
    else if d = 0 ∧ p.pub then s.proofAnswer n true 0 0
    else s.recordWaiter n r again

/-- A take or an arming with TAKE at its home (R254, R255). -/
def State.takeProofAt (s : State) (n : Nat) (r : Req) (again : Bool) : State :=
  let key := hKey r.gva
  match s.proofRefuse r.who key, s.proofGet key with
  | some det, _ => s.proofAnswer n false det 0
  | none, none => s
  | none, some p =>
    let d := genDelta (hGen r.gva) p.gen
    if d < 0 then s.proofAnswer n false 0 0
    else if d = 0 ∧ p.pub ∧ (p.count = 0 ∨ p.takes ≠ 0) then
      let q := p.granted
      let s := (s.modProof key fun _ => q).proofAnswer n true 0 (takeValue q)
      if q.count ≠ 0 ∧ q.takes = 0 then s.proofAdvance key else s
    else s.recordWaiter n r again

/-- A test, and the operations of PRGEN and PRARM, at the home (R254, R263, R264). -/
def State.testProofAt (s : State) (n : Nat) (r : Req) : State :=
  let key := hKey r.gva
  match s.proofRefuse r.who key, s.proofGet key with
  | some det, _ => s.proofAnswer n false det 0
  | none, none => s
  | none, some p =>
    let d := genDelta (hGen r.gva) p.gen
    match r.kind with
    | .proofRead => s.proofAnswer n true 0 p.word0
    | .proofAdvance => (s.proofAnswer n true 0 p.word0).proofAdvance key
    | .prarm => if d < 0 then s.proofAnswer n false 0 0 else s.proofAnswer n true 0 0
    | _ =>
      if d < 0 then s.proofAnswer n false 0 0
      else s.proofAnswer n true 0 (if d = 0 ∧ p.pub then 1 else 0)

/-- A proof operation at its home by its kind. -/
def State.proofAt (s : State) (n : Nat) (r : Req) (again : Bool) : State :=
  match r.kind with
  | .proofPub => s.publishAt n r again
  | .proofWait => s.waitProofAt n r again
  | .armWait _ => s.waitProofAt n r again
  | .proofTake => s.takeProofAt n r again
  | .armTake _ => s.takeProofAt n r again
  | .proofTest => s.testProofAt n r
  | .proofRead => s.testProofAt n r
  | .proofAdvance => s.testProofAt n r
  | .prarm => s.testProofAt n r
  | _ => s

/-- PROOF_PUBLISH_AT_HOME (R209, R214, R254): the writes that the publication covers are held first; one for a home in another
package then leaves for it. -/
def execProofPublishAtHome (req : Nat) (s : State) : Out :=
  .next (match s.req req with
    | none => s
    | some r =>
      match r.kind, r.stage with
      | .proofPub, .toDtu =>
        if s.pubBehind r || s.stringBehind r then s
        else if !s.writesHeld r.station (s.pubScope r.gva) r.a.toNat 0 then s.mergeCovered r.station r.a.toNat
        else if hPkg r.gva ≠ s.cfg.pkg then s.sendAway req
        else s.proofArrive req r (s.publishAt req r false).tick
      | _, _ => s)

/-- PROOF_WAIT_AT_HOME (R254). -/
def execProofWaitAtHome (req : Nat) (s : State) : Out :=
  .next (match s.req req with
    | none => s
    | some r => if r.kind.isWait && r.stage == .toDtu && !s.pubBehind r then s.proofArrive req r (s.waitProofAt req r false) else s)

/-- PROOF_TAKE_AT_HOME (R254, R255). -/
def execProofTakeAtHome (req : Nat) (s : State) : Out :=
  .next (match s.req req with
    | none => s
    | some r => if r.kind.isTake && r.stage == .toDtu && !s.pubBehind r then s.proofArrive req r (s.takeProofAt req r false) else s)

/-- PROOF_TEST_AT_HOME (R254). -/
def execProofTestAtHome (req : Nat) (s : State) : Out :=
  .next (match s.req req with
    | none => s
    | some r =>
      match r.kind, r.stage with
      | .proofTest, .toDtu => s.proofArrive req r (s.testProofAt req r)
      | .proofRead, .toDtu => s.proofArrive req r (s.testProofAt req r)
      | .proofAdvance, .toDtu => s.proofArrive req r (s.testProofAt req r)
      | .prarm, .toDtu => s.proofArrive req r (s.testProofAt req r)
      | _, _ => s)

/-- The destination of a proof instruction's result takes a value; the pending result is gone. -/
def State.proofResult (s : State) (k : Nat) (r : Req) (v : Word) : State :=
  match r.res with
  | none => s
  | some i =>
    let s' : State := { s with results := tblDel s.results i }
    match tblGet s.results i with
    | some x =>
      match x.dst with
      | .s d => s'.putS k d v
      | .v _ => s'
      | .none => s'
    | none => s'

/-- What a reply does besides its value: an acquire (R210), or the replacement of a list element (R264). -/
def State.proofEffect (s : State) (k : Nat) (t : Strand) (r : Req) : State :=
  let acq : State := s.acquire t.who (stationOf k) (s.seenScope r)
  match r.kind with
  | .proofWait => acq
  | .proofTake => acq
  | .proofTest => if r.a = 1 then acq else s
  | .prarm => s.modGrid t.grid fun gr => { gr with proofs := setElem gr.proofs (bits r.b 5 0) r.gva (bit r.b 8) }
  | _ => s

/-- The value that a reply returns: PRARM's is the element's previous handle. -/
def State.proofValue (s : State) (t : Strand) (r : Req) : Word :=
  match r.kind with
  | .prarm => (((s.gridOf t.grid).bind fun gr => gr.proofs[bits r.b 5 0]?).map (·.handle)).getD 0
  | _ => r.a

/-- PROOF_REPLY (R260): the instruction completes, or takes its precise fault. -/
def execProofReply (req : Nat) (s : State) : Out :=
  .next (match s.req req with
    | none => s
    | some r =>
      match r.stage, s.slotOfTag r.tag with
      | .replied ok code, some k =>
        match s.slot k with
        | none => s
        | some t =>
          if t.hold ≠ .proof req ∨ t.frozen.isSome then s
          else if ok then
            let v := s.proofValue t r
            (((s.delReq req).proofEffect k t r).proofResult k r v).release k
          else
            let s : State := { s.delReq req with results := match r.res with
              | some i => tblDel s.results i
              | none => s.results }
            ({ s with cur := k }).faultAt code r.gva
      | _, _ => s)

/-- The oldest of a list of (place, number). -/
def oldest (l : List (Nat × Nat)) : Option (Nat × Nat) :=
  l.foldl (fun b e => match b with
    | none => some e
    | some x => if e.1 < x.1 then some e else some x) none

/-- The oldest request of a slice's proof queue is performed afresh when a record is free (R252). -/
def State.freeProofRecord (s : State) (slice : Nat) : State :=
  match oldest (s.inboundProofs slice) with
  | none => s
  | some (_, n) =>
    match s.req n with
    | none => s
    | some r => if s.waiterFree slice then s.proofAt n r true else s

/-- WAITER_RECORD_FREE (R228, R252): the oldest request of each inbound queue of the slice. -/
def execWaiterRecordFree (slice : Nat) (s : State) : Out :=
  .next (
    let s := s.freeProofRecord slice
    let waiting := s.reqs.filterMap fun e =>
      match e.2.kind, e.2.stage with
      | .lrw, .inbound l => if l.key.map keyHome = some slice then some (e.2.order, e.1) else none
      | _, _ => none
    match oldest waiting with
    | none => s
    | some (_, n) =>
      match s.req n with
      | none => s
      | some r =>
        match r.stage with
        | .inbound l => if s.resvCount slice < 256 then s.lrwAt n r l else s
        | _ => s)

end Sys2Proof.Machine
end

