-- ==== Sys2Proof/Machine/Sched.lean ====
section
/-! DEFINITION. Strands that start, move, sleep, meet and end: major 0x32 (R20, R119, R303 to R312), and their
arrivals. -/

namespace Sys2Proof.Machine

/-! ### Records of SPAWN and SPAWNL at issue (R304, R306) -/

/-- A request to the launch unit of the issuing die: x[d] is marked empty and the strand goes on. SPAWNL carries the
spawner's MODE in `a` and its STAGE and GRID words in `b`. -/
def State.spawn (s : State) (kind : ReqKind) (d a : SReg) (e : Bool) : Out :=
  s.issue 0 e [.s a] [.s d] fun t =>
    let addr := s.sval t a
    match bankCheck s.cfg addr 64 with
    | some c => s.faultAt c addr
    | none =>
      s.sendS t d { s.reqOf t kind addr 0 with
        a := t.mode.setWidth 64, b := BitVec.ofNat 64 (t.stageCsr.toNat * 2 ^ 32 + t.gridCsr.toNat) }

/-- SPAWN (R304). -/
def execSpawn (d a : SReg) (e : Bool) (s : State) : Out := s.spawn .spawn d a e

/-- SPAWNL (R306). -/
def execSpawnl (d a : SReg) (e : Bool) (s : State) : Out := s.spawn .spawnl d a e

/-! ### Leaving a slot (R230, R291 to R294) -/

/-- Whether a destination is a register of the strand's own, x or v. -/
def Dst.own : Dst → Bool
  | .s (.x _) => true
  | .s (.y _) => false
  | .v (.v _) => true
  | .v (.w _) => false
  | .v (.q _) => false
  | .none => false

/-- Whether a result for an x or v register of the strand is outstanding (R119). -/
def State.resultsDue (s : State) (tag : Nat) : Bool :=
  s.results.any fun e => e.2.tag == tag && e.2.dst.own

/-- The poison that EXIT meets: of an x or v register, or of a shared one that the strand loaded (R123). Of several the report
names the load of the first in the order x, v, y, w, by number: the rule does not say which (log entry 76). -/
def State.exitPoison (s : State) (k : Nat) (t : Strand) : Option Poison :=
  let mine (p : Option Poison) : Option Poison := p.filter fun q => q.tag == t.tag
  let shared : List (Option Poison) := match (s.station (stationOf k)).chord with
    | some c => if t.loose then [] else c.yreg.toList.map (fun r => mine r.poison) ++ c.wreg.toList.map fun r => mine r.poison
    | none => []
  (t.x.toList.map (·.poison) ++ t.v.toList.map (·.poison) ++ shared).findSome? id

/-- The strand in slot k prepared to leave it: the words written to write streams are sent, and words fetched ahead are
discarded, to be fetched again from the saved position (R230). -/
def State.settlePorts (s : State) (k : Nat) : State :=
  (List.finRange 8).foldl (fun s q =>
    match s.slot k with
    | none => s
    | some t =>
      match t.ports[q] with
      | .unbound => s
      | .channel _ => s
      | .stream p =>
        if p.write then p.buf.foldl (fun s _ => match s.slot k with | some t => s.sendWord k t q | none => s) s
        else (s.dropReqs (s.streamReqs t.tag q)).modSlot k fun t =>
          { t with ports := t.ports.set q (.stream { p with buf := [], got := [], bad := false }) }) s

/-- The strand of slot k taken out of it, with its ports settled. -/
def State.takeOut (s : State) (k : Nat) : Option (Strand × State) :=
  let s := s.settlePorts k
  (s.slot k).map fun t => (t, s.freeSlot k)

/-- The lowest free enabled slot of a station (R18, R299). -/
def State.freeSlotOf (s : State) (st : Nat) : Option Nat :=
  ((numsFrom 0 8).find? fun i => (s.slot (8 * st + i)).isNone && !(s.station st).disabled.getLsbD i).map fun i => 8 * st + i

/-- Whether a trap that R322 considers is pending for a strand of a station. -/
def Station.trapDue (S : Station) (t : Strand) : Bool :=
  !t.intrap && (!t.events.isEmpty ||
    (t.utvec != 0 && ((t.timer.fired && t.umask.getLsbD 1) || (t.umask.getLsbD 0 && !S.mailbox.isEmpty))))

/-- Whether a wake condition of SLEEP holds (R311). -/
def Station.wakes (S : Station) (t : Strand) : Bool :=
  !S.mailbox.isEmpty || t.timer.fired || S.rq.toList.any (fun q => !q.isEmpty) || S.trapDue t

/-- A message or a task that has come wakes the station's sleepers at once, whoever takes it (R311). -/
def State.wakeSleepers (s : State) (st : Nat) : State :=
  { s with strands := s.strands.map fun e =>
      if stationOf e.1 = st ∧ e.2.hold = .sleep ∧ (s.station st).wakes e.2 = true then (e.1, e.2.advance) else e }

/-- A strand takes a slot; a sleeper goes on at once when a wake condition holds there (R311). -/
def State.seat (s : State) (k : Nat) (t : Strand) : State := (s.setSlot k { t with ran := 0 }).wakeSleepers (stationOf k)

/-- A strand reaches a station: the acquire of R201, then a free slot or the run queue's tail. -/
def State.arrive (s : State) (st : Nat) (t : Strand) : State :=
  match if (s.station st).runq.isEmpty && !(s.ctx t.ctx).suspended then s.freeSlotOf st else none with
  | some k => (s.acquireAll st).seat k t
  | none => s.modStation st fun S => { S with runq := S.runq ++ [t] }

/-- The head of a station's run queue takes a free slot (R307). -/
def State.dispatchRunq (s : State) (st : Nat) : State :=
  match (s.station st).runq, s.freeSlotOf st with
  | t :: rest, some k =>
    if (s.ctx t.ctx).suspended then s
    else ((s.modStation st fun S => { S with runq := rest }).acquireAll st).seat k t
  | _, _ => s

/-- RUN_QUEUE_DISPATCH (R307). -/
def execRunQueueDispatch (station : Nat) (s : State) : Out := .next (s.dispatchRunq station)

/-! ### YIELD, SLEEP, CBAR, EXIT -/

/-- Whether a chord strand is time-sliced: a slot of the station is disabled and a strand of its chord is spilled
alone (R299). -/
def State.timeSliced (s : State) (st : Nat) : Bool :=
  (s.station st).disabled != 0 && s.saved.any fun v => match v with
    | .slot _ x _ _ => x == st
    | .chord _ _ _ _ _ _ => false

/-- YIELD (R310). -/
def execYield (e : Bool) (s : State) : Out :=
  s.issue 0 e [] [] fun t =>
    let s := s.advance
    let st := s.curStation
    if t.loose then
      if (s.station st).runq.isEmpty then s
      else
        match s.takeOut s.cur with
        | none => s
        | some (u, s) => (s.modStation st fun S => { S with runq := S.runq ++ [u] }).dispatchRunq st
    else if s.timeSliced st then s.modCur fun t => { t with ran := t.ran + 2 ^ 32 }
    else s

/-- SLEEP (R311). -/
def execSleep (e : Bool) (s : State) : Out :=
  s.issue 0 e [] [] fun t => if (s.station s.curStation).wakes t then s.advance else s.hold .sleep

/-- Releasing every strand that waits at the barrier with a generation, wherever it is. -/
def State.barrierOpen (s : State) (tags : List Nat) (gen : Nat) : State :=
  tags.foldl (fun s tag => s.modTag tag fun t => if t.hold = .cbar gen then t.advance else t) s

/-- The barrier opens when every member has arrived (R312). -/
def State.barrierCheck (s : State) (st : Nat) : State :=
  match (s.station st).chord with
  | none => s
  | some c =>
    if c.cbarCount = c.live.length ∧ c.cbarCount ≠ 0 then
      let s := s.modStation st fun S => { S with chord := some { c with cbarCount := 0, cbarGen := c.cbarGen + 1 } }
      s.barrierOpen c.live c.cbarGen
    else s

/-- CBAR (R312). -/
def execCbar (e : Bool) (s : State) : Out :=
  s.issue 0 e [] [] fun t =>
    if t.loose then s.illegal 0 7
    else
      match t.hold with
      | .cbar _ => s
      | _ =>
        let st := s.curStation
        match (s.station st).chord with
        | none => s
        | some c =>
          let s := s.modStation st fun S => { S with chord := some { c with cbarCount := c.cbarCount + 1 } }
          (s.hold (.cbar c.cbarGen)).barrierCheck st

/-- The end of the strand in slot k by EXIT: its ports are unbound, its slot is free, and its chord or its grid's count
of loose strands has one less; with the last strand of a chord goes the release of R201. -/
def State.endStrand (s : State) (k : Nat) (t : Strand) : State :=
  let s := (s.unbindAll k).freeSlot k
  let st := stationOf k
  if t.loose then s.modGrid t.grid fun g => { g with loose := g.loose - 1 }
  else
    match (s.station st).chord with
    | none => s
    | some c =>
      let live := c.live.filter fun x => x != t.tag
      let c' : Chord := { c with live := live, st := if live.isEmpty then .ending else c.st, mark := s.nextAge }
      let s := s.modStation st fun S => { S with chord := some c' }
      if live.isEmpty then s.releaseAll st else s.barrierCheck st

/-- EXIT (R119). -/
def execExit (e : Bool) (s : State) : Out :=
  s.issue 0 e [] [] fun t =>
    if s.resultsDue t.tag then s.hold (.issue .results)
    else
      match s.exitPoison s.cur t with
      | some p => s.faultPoison p
      | none => s.endStrand s.cur t

/-! ### MIGRATE (R20, R308, R309) -/

/-- The state in which a migrating strand arrives (R20); an event that waits for its boundary goes with it (R174). -/
def Strand.migrated (t : Strand) : Strand :=
  { tag := t.tag, ctx := t.ctx, world := t.world, priv := t.priv, grid := t.grid, loose := true, index := 0, nm1 := 0
    chordCsr := 0, courseCsr := 0, stageCsr := t.stageCsr, gridCsr := t.gridCsr, pc := t.pc + 4
    x := Vector.ofFn fun i => if i.val < 10 then { val := (t.x[i]).val } else {}
    p := t.p, msticky := t.msticky, seed := t.seed, events := t.events }

/-- The scalar sources of MIGRATE. -/
def migrateSrcs (a : SReg) : List Opnd := .s a :: (List.finRange 15).filterMap fun i =>
  if i.val < 9 then some (.s (.x (Fin.ofNat 16 (i.val + 1)))) else none

/-- The section's stations on a die. -/
def State.sectionOn (s : State) (c d : Nat) : List Nat := (s.sectionOf c).filter fun st => dieOf st == d

/-- MIGRATE (R308): the packet leaves for the named die, whose DTU translates the address. A chord strand's is illegal before any
source is read (R53). -/
def execMigrate (a : SReg) (e : Bool) (s : State) : Out :=
  if (s.curStrand.map fun t : Strand => !t.loose).getD false then .next (s.illegal 0 7)
  else
  s.issue 0 e (migrateSrcs a) [] fun t =>
    let addr := s.sval t a
    if !gvaOk s.cfg addr then s.faultAt 0x082 addr
    else if s.resultsDue t.tag then s.hold (.issue .results)
    else if gvaPkg addr ≠ s.cfg.pkg ∨ (s.sectionOn t.ctx (gvaDie addr)).isEmpty then s.faultAt 0x284 addr
    else
      let st := s.curStation
      let k := s.cur
      let mark := s.nextAge
      let s := (s.unbindAll k).releaseAll st
      let id := s.nextId
      let s := s.addReq (s.reqOf t .migrate addr 0)
      let s := s.freeSlot k
      { s with transit := s.transit ++ [{ strand := t.migrated, dest := st, migrate := true, gva := addr, req := id,
                                          src := st, mark := mark }] }

/-- The distance between two stations of a die in hops. -/
def hops (a b : Nat) : Nat :=
  (max (rowOf a) (rowOf b) - min (rowOf a) (rowOf b)) + (max (colOf a) (colOf b) - min (colOf a) (colOf b))

/-- The station of a list nearest to another; the list is in row and column order. -/
def nearest (h : Nat) : List Nat → Nat
  | [] => h
  | x :: t =>
    let y := nearest h t
    if t.isEmpty || decide (hops x h ≤ hops y h) then x else y

/-- Whether a strand has far atomics outstanding: a release awaits them (R198). -/
def State.amosDue (s : State) (tag : Nat) : Bool := s.reqs.any fun e => e.2.kind.isAmo && e.2.tag == tag

/-- MIGRATE_ARRIVE (R308): once the release has completed and the address is translated. -/
def execMigrateArrive (tag : Nat) (s : State) : Out :=
  .next (match s.transit.find? fun x => x.migrate && x.strand.tag == tag with
    | none => s
    | some x =>
      match (s.req x.req).map fun (r : Req) => r.stage with
      | some (.translated l) =>
        if !s.writesHeld x.src .ring x.mark 0 || s.amosDue tag then s.mergeCovered x.src x.mark
        else
          let h := l.home (gvaDie x.gva)
          let dest := if s.inSection x.strand.ctx h then h else nearest h (s.sectionOn x.strand.ctx (gvaDie x.gva))
          let s : State := { s.delReq x.req with transit := s.transit.filter fun y => y.strand.tag != tag }
          s.arrive dest x.strand
      | _ => s)

/-- THERMAL_TRANSFER_ARRIVE (R299): a loose strand moved whole reaches the cooler station, when the writes it left behind
are at their homes (R201). -/
def execThermalTransferArrive (tag : Nat) (s : State) : Out :=
  .next (match s.transit.find? fun x => !x.migrate && x.strand.tag == tag with
    | none => s
    | some x =>
      if !s.writesHeld x.src .ring x.mark 0 then s.mergeCovered x.src x.mark
      else ({ s with transit := s.transit.filter fun y => y.strand.tag != tag }).arrive x.dest x.strand)

end Sys2Proof.Machine
end

