-- ==== Sys2Proof/Machine/Msg.lean ====
section
/-! DEFINITION. Messages, the ready queue and the timer: major 0x33 and the mailbox (R313 to R318). -/

namespace Sys2Proof.Machine

/-- MSEND (R313): the strand is held until the destination mailbox accepts the message. -/
def execMsend (a b : SReg) (e : Bool) (s : State) : Out :=
  s.issue 0 e [.s a, .s b] [] fun t =>
    match t.hold with
    | .msend => s
    | _ =>
      let w := s.sval t a
      if msgReserved w then s.faultAt 0x286 w
      else if !s.msgReach t.ctx w then s.faultAt 0x285 w
      else (s.sendMsg w t.tag (s.msgOf s.curStation t.grid t.tag t.xr w (s.sval t b))).hold .msend

/-! ### The mailbox (R313, R314) -/

/-- Serving the payload-form MRECVs that wait, oldest first: the head message is claimed, or stays when its XR bit
forbids it, which the strand learns by the event 0x0C3. A strand that has ended has its XR bit of the issue (log entry 78), and the
event is its grid's deferred fault (R174). -/
def State.serveMail (s : State) (st : Nat) : Nat → State
  | 0 => s
  | fuel + 1 =>
    match (s.station st).mailbox, (s.station st).mrecv with
    | m :: ms, w :: ws =>
      let xr := ((s.findTag w.tag).map Strand.xr).getD w.xr
      let s := s.modStation st fun S => { S with mrecv := ws }
      if m.ps && m.xr != xr then
        ((s.deliver w.res 0).unitEvent 0 w.tag w.grid w.key 0x0C3).serveMail st fuel
      else
        let s := s.modStation st fun S => { S with mailbox := ms }
        (s.deliver w.res (m.payload.setWidth 2048)).serveMail st fuel
    | _, _ => s

/-- Serving until messages or waiting instructions run out. -/
def State.serveMailbox (s : State) (st : Nat) : State := s.serveMail st ((s.station st).mrecv.length + 1)

/-- MAILBOX_ACCEPT (R313): the oldest held message enters the mailbox, and its sender goes on. -/
def execMailboxAccept (station : Nat) (s : State) : Out :=
  .next (
    let S := s.station station
    match S.mheld with
    | [] => s
    | (waiter, m) :: rest =>
      if 16 ≤ S.mailbox.length then s
      else
        let s := s.setStation station { S with mheld := rest, mailbox := S.mailbox ++ [m] }
        let s := if waiter = 0 then s
          else s.modTag waiter fun t => match t.hold with
            | .msend => t.advance
            | _ => t
        (s.serveMailbox station).wakeSleepers station)

/-- The header that the HDR form reads (R314). -/
def mailHeader (l : List Msg) : Word :=
  match l with
  | [] => 0
  | m :: _ => BitVec.ofNat 64 (2 ^ 63 + m.ps.toNat * 2 ^ 62 + m.xr.toNat * 2 ^ 61 + l.length * 2 ^ 56 +
      m.src.toNat / 2 ^ 16 * 2 ^ 48 + m.src.toNat % 2 ^ 10 * 2 ^ 32 + m.serial.toNat * 2 ^ 16 + m.mtag.toNat * 2 ^ 8)

/-- Adding a waiting MRECV: within a cycle the lower slot comes first. -/
def addMrecv (l : List MrecvWait) (w : MrecvWait) : List MrecvWait :=
  match l with
  | [] => [w]
  | x :: t => if x.cycle = w.cycle ∧ w.slot < x.slot then w :: x :: t else x :: addMrecv t w

/-- MRECV (R314). -/
def execMrecv (d a : SReg) (e : Bool) (s : State) : Out :=
  s.issue 0 e [.s a] [.s d] fun t =>
    let o := s.sval t a
    let st := s.curStation
    if bits o 63 1 ≠ 0 then s.faultAt 0x286 o
    else if bit o 0 then (s.putS s.cur d (mailHeader (s.station st).mailbox)).advance
    else
      let w : MrecvWait := { tag := t.tag, res := s.nextId, cycle := (s.station st).cycle, slot := slotOf s.cur, grid := t.grid,
                             key := s.cur, xr := t.xr }
      let s := s.pendS t d (emptyRes t (dstS d))
      ((s.modStation st fun S => { S with mrecv := addMrecv S.mrecv w }).serveMailbox st).advance

/-! ### The ready queue (R315) -/

/-- The empty marker. -/
def rqEmpty : Word := BitVec.allOnes 64

/-- RQPUSH (R315). -/
def execRqpush (d a b : SReg) (e : Bool) (s : State) : Out :=
  s.issue 0 e [.s a, .s b] [.s d] fun t =>
    let lv := s.sval t a
    let task := s.sval t b
    let st := s.curStation
    let i : Fin 4 := Fin.ofNat 4 (bits lv 1 0)
    if bits lv 63 2 ≠ 0 then s.faultAt 0x286 lv
    else if task = rqEmpty then (s.putS s.cur d 2).advance
    else if 16 ≤ ((s.station st).rq[i]).length then (s.putS s.cur d 0).advance
    else
      (((s.modStation st fun S => { S with rq := S.rq.set i (S.rq[i] ++ [task]) }).wakeSleepers st).putS s.cur d 1).advance

/-- The lowest-numbered enabled level that is not empty. -/
def rqLevel (rq : Vector (List Word) 4) (mask : Nat) : Option (Fin 4) :=
  (List.finRange 4).find? fun i => (mask == 0 || mask / 2 ^ i.val % 2 == 1) && !(rq[i]).isEmpty

/-- RQPOP (R315). -/
def execRqpop (d a : SReg) (e : Bool) (s : State) : Out :=
  s.issue 0 e [.s a] [.s d] fun t =>
    let m := s.sval t a
    let st := s.curStation
    if bits m 63 4 ≠ 0 then s.faultAt 0x286 m
    else
      match rqLevel (s.station st).rq (bits m 3 0) with
      | none => (s.putS s.cur d rqEmpty).advance
      | some i =>
        let v := ((s.station st).rq[i]).headD rqEmpty
        ((s.modStation st fun S => { S with rq := S.rq.set i ((S.rq[i]).drop 1) }).putS s.cur d v).advance

/-! ### The timer (R317, R318) -/

/-- TMRSET (R318). -/
def execTmrset (d a : SReg) (e : Bool) (s : State) : Out :=
  s.issue 0 e [.s a] [.s d] fun t =>
    let n := s.sval t a
    if bits n 63 32 ≠ 0 then s.faultAt 0x286 n
    else
      let s := s.putS s.cur d (t.timer.count.setWidth 64)
      (s.modCur fun t => { t with timer := { count := n.setWidth 32, arm := n != 0, fired := false } }).advance

/-- A cycle of an armed timer (R317). -/
def Timer.tick (m : Timer) : Timer :=
  if !m.arm then m
  else
    let c := if m.count = 0 then 0 else m.count - 1
    if c = 0 then { count := 0, arm := false, fired := true } else { m with count := c }

/-- TIMER_FIRE (R317): an armed count that stands at zero fires. The cycle's end counts every armed timer of a resident
strand down and fires it at zero. -/
def execTimerFire (slot : Nat) (s : State) : Out :=
  .next (s.modSlot slot fun t =>
    if t.timer.arm ∧ t.timer.count ≤ 1 then { t with timer := t.timer.tick } else t)

end Sys2Proof.Machine
end

