-- ==== Sys2Proof/Machine/Csr.lean ====
section
/-! DEFINITION. The control and status registers and their instructions: major 0x34 (R22 to R27, R317, R319, R320,
R353, R362, R371). -/

namespace Sys2Proof.Machine

/-! ### What each CSR reads (R22 to R27, R317, R319) -/

def Timer.word (m : Timer) : Word := BitVec.ofNat 64 (m.fired.toNat * 2 ^ 33 + m.arm.toNat * 2 ^ 32 + m.count.toNat)

/-- STATION (R27). -/
def State.stationCsr (s : State) (st : Nat) : Word :=
  BitVec.ofNat 64 ((s.cfg.ringN - 1) * 2 ^ 16 + s.cfg.pkg * 2 ^ 10 + stationWord st / 2 ^ 32)

/-- STRAND (R27). -/
def Strand.strandCsr (t : Strand) : Word :=
  BitVec.ofNat 64 (t.loose.toNat * 64 + (if t.loose then 0 else t.nm1.val * 8 + t.index.val))

/-- The fault-buffer status word (R362). -/
def Die.status (d : Die) : Word :=
  let v := ((List.finRange 8).map fun i => if (d.fbuf[i]).isSome then 2 ^ i.val else 0).sum
  BitVec.ofNat 64 (d.dropped.toNat * 2 ^ 63 + v * 2 ^ 48 + d.refusedCnt.toNat * 2 ^ 32 + d.faultsCnt.toNat * 2 ^ 16 +
    d.coalesced.toNat)

/-- DTROOT and DTFUNC of a context-table entry (R353). -/
def CtxEntry.rootWord (e : CtxEntry) : Word :=
  BitVec.ofNat 64 (e.valid.toNat * 2 ^ 63 + e.world.toNat * 2 ^ 62 + e.root % 2 ^ 48 / 2 ^ 14 * 2 ^ 14)
def CtxEntry.funcWord (e : CtxEntry) : Word := BitVec.ofNat 64 (e.func.toNat * 2 ^ 32 + e.hwhi.toNat * 2 ^ 16)

/-- DTSECTj: a Bridge station's bit reads zero. -/
def State.sectWord (s : State) (e : CtxEntry) (j : Nat) : Word :=
  BitVec.ofNat 64 ((numsFrom 0 64).map fun k =>
    if e.sect.getLsbD (64 * j + k) && !isBridge s.cfg (64 * j + k) then 2 ^ k else 0).sum

/-- A CSR of the context-table window of a die, through entry `sel`. -/
def State.dtRead (s : State) (d sel : Nat) (n : Nat) : Word :=
  let e := (s.die d).ctxEntry sel
  if 64 < sel then 0
  else if n = 0x201 then e.rootWord
  else if n = 0x202 then e.funcWord
  else if sel = 64 then 0
  else if n = 0x203 then e.quota.setWidth 64
  else s.sectWord e (n - 0x204)

/-- The value of a CSR as the strand in slot k reads it; none for an unassigned number. -/
def State.csrRead (s : State) (k : Nat) (t : Strand) (n : Nat) : Option Word :=
  let st := stationOf k
  match n with
  | 0x000 => some t.status
  | 0x001 => some (t.mode.setWidth 64)
  | 0x002 => some t.utvec
  | 0x003 => some t.uepc
  | 0x004 => some t.ucause
  | 0x005 => some (t.umask.setWidth 64)
  | 0x010 => some t.timer.word
  | 0x011 => some (s.station st).cycle
  | 0x020 => some (BitVec.ofNat 64 (slotOf k))
  | 0x021 => some (s.stationCsr st)
  | 0x022 => some t.strandCsr
  | 0x023 => some (t.chordCsr.setWidth 64)
  | 0x024 => some (t.courseCsr.setWidth 64)
  | 0x025 => some (t.stageCsr.setWidth 64)
  | 0x026 => some (t.gridCsr.setWidth 64)
  | 0x027 => some 2048
  | 0x030 => some (t.msticky.setWidth 64)
  | 0x031 => some t.seed
  | 0x200 => some (t.dtsel.setWidth 64)
  | 0x208 => some (s.die (dieOf st)).status
  | 0x210 => some ((s.die (dieOf st)).fwsel.setWidth 64)
  | 0x211 => some (s.die (dieOf st)).fwallow[(Fin.ofNat 16 (s.die (dieOf st)).fwsel.toNat)]
  | n => if 0x201 ≤ n ∧ n ≤ 0x207 then some (s.dtRead (dieOf st) t.dtsel.toNat n) else none

/-- The CSRs that are RO (R22, R353). -/
def csrRo (n : Nat) : Bool :=
  n == 0x000 || n == 0x004 || n == 0x011 || (0x020 ≤ n && n ≤ 0x027) || n == 0x208

/-! ### Writes (R23, R320) -/

/-- Whether a key lies in the ways of a station that are not shared. -/
def keyInPlate (st key : Nat) : Bool := decide (2 ^ 52 + st * 2 ^ 23 ≤ key) && decide (key < 2 ^ 52 + st * 2 ^ 23 + 2 ^ 22)

/-- A station at reset: its counter starts again at 0 (R22); its thermal state, its failure and its DTU's refused requests go on. -/
def Station.cleared (S : Station) : Station :=
  { cycAge := S.cycAge, disabled := S.disabled, hot := S.hot, failed := S.failed, testing := S.testing,
    refused := S.refused, reissue := S.reissue, mheld := S.mheld }

/-- A station returns to reset, and its ways that are not shared are cleared. -/
def State.clearStation (s : State) (st : Nat) : State :=
  ({ s with
    mem := s.mem.filter fun c => !keyInPlate st c.1
    poison := s.poison.filter fun b => !keyInPlate st (b.1 * 64) } : State).modStation st Station.cleared

/-- Whether nothing of a context stands on a station that leaves its section any more: what it wrote is at its homes, and its chord and
strands are saved. -/
def State.mayLeave (s : State) (st : Nat) : Bool :=
  (s.station st).chord.isNone && !(s.strands.any fun e => stationOf e.1 == st) && s.writesHeld st .ring s.nextAge 0

/-- The bytes of a station's plate and its poisoned blocks, from its first byte on. -/
def State.plateImage (s : State) (st : Nat) : List (Nat × Byte) × List (Nat × Nat) :=
  let base := 2 ^ 52 + st * 2 ^ 23
  ((s.mem.filter fun c => keyInPlate st c.1).map fun c => (c.1 - base, c.2),
   (s.poison.filter fun b => keyInPlate st (b.1 * 64)).map fun b => (b.1 - base / 64, b.2))

/-- A chord's save image with the ways of its station, when it does not hold them yet. -/
def Saved.withPlate (st : Nat) (image : List (Nat × Byte) × List (Nat × Nat)) : Saved → Saved
  | .slot a b t c => .slot a b t c
  | .chord x c ts e w p => .chord x c ts (if x = st ∧ e.plate = none then { e with plate := some image } else e) w p

/-- The end of a station's leaving (R316, R354, R402): the ways go into the save image of its chord, the strands of the run queue into
the save area, and the station is at reset. -/
def State.left (s : State) (st : Nat) : State :=
  let keep (v : Saved) : Saved := v.withPlate st (s.plateImage st)
  let s : State := { s with saved := s.saved.map keep ++ (s.station st).runq.map (.slot 0 st · false) }
  s.clearStation st

/-- A station leaves a context's section (R316, R354): at once when nothing stands on it, and otherwise when its chord and strands have
been spilled and its writes are at their homes, which CHORD_SPILL does. A message that its full mailbox holds back stays held, and is
accepted when the mailbox has been emptied: the rule speaks of the mailbox alone (log entry 87). -/
def State.leaveSection (s : State) (st : Nat) : State :=
  if s.mayLeave st then s.left st else s.modStation st fun S => { S with leaving := true }

/-- The stations that leave a section with a write of one of its words. -/
def sectLeavers (d : Nat) (old new : BitVec 256) : List Nat :=
  ((numsFrom 0 256).filter fun i => old.getLsbD i && !new.getLsbD i).map fun i => d * 256 + i

/-- Writing the context-table window (R353). -/
def State.dtWrite (s : State) (d sel n : Nat) (v : Word) : State :=
  if 64 < sel ∨ (sel = 64 ∧ 0x203 ≤ n) then s
  else
    let s' := s.modDie d fun x =>
      let e := x.ctxEntry sel
      let e' : CtxEntry :=
        if n = 0x201 then { e with valid := bit v 63, world := bit v 62, root := bits v 47 14 * 2 ^ 14 }
        else if n = 0x202 then { e with func := BitVec.ofNat 5 (bits v 36 32), hwhi := BitVec.ofNat 16 (bits v 31 16) }
        else if n = 0x203 then { e with quota := v.setWidth 15 }
        else
          let j := n - 0x204
          let m : BitVec 256 := (BitVec.allOnes 64).setWidth 256 <<< (64 * j)
          { e with sect := (e.sect &&& ~~~m) ||| (v.setWidth 256 <<< (64 * j)) }
      { x with ctxTab := tblPut x.ctxTab sel e' }
    (sectLeavers (d % 4) ((s.die d).ctxEntry sel).sect ((s'.die d).ctxEntry sel).sect).foldl State.leaveSection s'

/-- The word address of UTVEC and UEPC. -/
def wordAddr (v : Word) : Word := BitVec.ofNat 64 (bits v 56 2 * 4)

/-- Writing a CSR: `v` the new value of RW fields, `c` the W1C bits that clear. -/
def State.csrWrite (s : State) (t : Strand) (n : Nat) (v c : Word) : State :=
  let d := s.curDie
  match n with
  | 0x001 => s.modCur fun t => { t with mode := v.setWidth 5 }
  | 0x002 => s.modCur fun t => { t with utvec := wordAddr v }
  | 0x003 => s.modCur fun t => { t with uepc := wordAddr v }
  | 0x005 => s.modCur fun t => { t with umask := v.setWidth 4 }
  | 0x010 => s.modCur fun t => { t with timer := {
      count := v.setWidth 32, arm := bit v 32, fired := t.timer.fired && !bit c 33 } }
  | 0x030 => s.modCur fun t => { t with msticky := t.msticky &&& ~~~c.setWidth 6 }
  | 0x031 => s.modCur fun t => { t with seed := v }
  | 0x200 => s.modCur fun t => { t with dtsel := v.setWidth 7 }
  | 0x210 => s.modDie d fun x => { x with fwsel := v.setWidth 4 }
  | 0x211 => s.modDie d fun x =>
      let i : Fin 16 := Fin.ofNat 16 x.fwsel.toNat
      if bit x.fwallow[i] 63 then x
      else { x with fwallow := x.fwallow.set i (v &&& 0x800000000000000F#64) }
  | n => s.dtWrite d t.dtsel.toNat n v

/-! ### The instructions (R320) -/

/-- Whether something that can still set an MSTICKY flag, or advance SEED, is outstanding (R320). -/
def State.flagsDue (s : State) (t : Strand) : Bool :=
  (s.station s.curStation).sfu.any (fun q => q.tag == t.tag) ||
  s.results.any (fun e => e.2.tag == t.tag && (e.2.sticky != 0 || e.2.setSat)) ||
  s.reqs.any (fun e => e.2.tag == t.tag && e.2.res.isSome && (match e.2.kind with
    | .amo op _ => op == 11
    | _ => false))

/-- A CSR access: `f` gives the new RW value and the W1C bits of the old value and A; none for CSRR. -/
def State.csrOp (s : State) (d : SReg) (a : Option SReg) (n : BitVec 10) (e : Bool)
    (f : Word → Word → Word × Word) : Out :=
  match s.curStrand with
  | none => .next s
  | some t =>
    let num := n.toNat
    let srcs := match a with
      | some r => [Opnd.s r]
      | none => []
    if 0x200 ≤ num ∧ !t.priv then .next (s.illegal 0 5)
    else if t.loose && (srcs ++ [Opnd.s d]).any Opnd.shared then .next (s.illegal 0 4)
    else if (s.csrRead s.cur t num).isNone ∨ (a.isSome ∧ csrRo num) then .next (s.illegal 0 6)
    else
      s.issue 0 e srcs [.s d] fun t =>
        if (num = 0x030 ∨ num = 0x031) ∧ s.flagsDue t then s.hold (.issue .results)
        else
          let old := (s.csrRead s.cur t num).getD 0
          let s' := match a with
            | some r =>
              let w := f old (s.sval t r)
              s.csrWrite t num w.1 w.2
            | none => s
          (s'.putS s.cur d old).advance

/-- CSRR (R320). -/
def execCsrr (d : SReg) (csr : BitVec 10) (e : Bool) (s : State) : Out := s.csrOp d none csr e fun o _ => (o, 0)
/-- CSRW (R320). -/
def execCsrw (d a : SReg) (csr : BitVec 10) (e : Bool) (s : State) : Out := s.csrOp d (some a) csr e fun _ v => (v, v)
/-- CSRS (R320). -/
def execCsrs (d a : SReg) (csr : BitVec 10) (e : Bool) (s : State) : Out :=
  s.csrOp d (some a) csr e fun o v => (o ||| v, v)
/-- CSRC (R320). -/
def execCsrc (d a : SReg) (csr : BitVec 10) (e : Bool) (s : State) : Out :=
  s.csrOp d (some a) csr e fun o v => (o &&& ~~~v, 0)

end Sys2Proof.Machine
end

