-- ==== Sys2Proof/Machine/Trap.lean ====
section
/-! DEFINITION. User-level traps and their entry at a boundary, illegal words, and the services: major 0x35, SRET, and
the events ILLEGAL_INSTRUCTION, USER_TRAP_ENTRY and RESULT_ARRIVE (R53, R155, R174, R260, R321 to R324, R375, R376,
R399). -/

namespace Sys2Proof.Machine

/-! ### Illegal words (R53) -/

/-- ILLEGAL_INSTRUCTION (R53): the precise fault of class 1. -/
def execIllegalInstruction (cause : Cause) (s : State) : Out := .next (s.faultCur cause 3 0 0)

/-! ### TRAPU and URET -/

/-- TRAPU (R399). -/
def execTrapu (n : BitVec 6) (e : Bool) (s : State) : Out :=
  s.issue 0 e [] [] fun _ => s.trap (n.setWidth 10)

/-- The handler's return ends a matrix halt, unless a further event of the strand waits: the handler's entries that are
left go first (R174). -/
def Engine.endHalt (g : Engine) (t : Strand) : Engine :=
  if g.halted = some t.tag then
    { g with queue := g.handlerQ ++ g.queue, handlerQ := [],
             halted := if t.events.any (Event.ofUnit 2) then g.halted else none }
  else g

/-- The same for the copy queue (R241). -/
def CopyEngine.endHalt (g : CopyEngine) (t : Strand) : CopyEngine :=
  if g.halted = some t.tag then
    { g with queue := g.handlerQ ++ g.queue, handlerQ := [],
             halted := if t.events.any (Event.ofUnit 3) then g.halted else none }
  else g

/-- URET (R324). -/
def execUret (e : Bool) (s : State) : Out :=
  s.issue 0 e [] [] fun t =>
    if !t.intrap then s.illegal 0 7
    else
      let s : State := { s with stations := s.stations.map fun x =>
        (x.1, { x.2 with eng := x.2.eng.endHalt t, cpy := x.2.cpy.endHalt t }) }
      s.modCur fun t => { t.returnTrap with hold := .none }

/-! ### Boundary traps (R322, R323) -/

/-- Whether a home in another package has been asked to remove a waiter's record and has not answered. -/
def State.withdrawing (s : State) (n : Nat) : Bool := s.reqs.any fun e => e.2.kind == .withdraw n

/-- Whether a strand may take a trap where it stands: at a boundary, or in a hold of R323. A PRWAIT or PRTAKE that has
its answer completes first (R260). -/
def State.trappable (s : State) (t : Strand) : Bool :=
  t.frozen.isNone && !t.intrap &&
  (match t.hold with
    | .none => true
    | .source _ _ => true
    | .sleep => true
    | .proof n => (match s.req n with
        | some r => (r.kind == .proofWait || r.kind == .proofTake) && !s.withdrawing n && (match r.stage with
            | .replied _ _ => false
            | _ => true)
        | none => false)
    | _ => false)

/-- Whether the message trap is open to a strand (R322, item 3). -/
def Station.messageDue (S : Station) (t : Strand) : Bool :=
  t.umask.getLsbD 0 && !S.mailbox.isEmpty && t.utvec != 0

/-- Whether a strand in a lower slot of the station may enter a message trap. -/
def State.messageBelow (s : State) (k : Nat) : Bool :=
  s.strands.any fun e => stationOf e.1 == stationOf k && decide (e.1 < k) && s.trappable e.2 &&
    e.2.events.isEmpty && !(e.2.timer.fired && e.2.umask.getLsbD 1 && e.2.utvec != 0) &&
    (s.station (stationOf k)).messageDue e.2

/-- The trap that R322 takes for the strand in slot k now. -/
def State.pendingTrap (s : State) (k : Nat) (t : Strand) : Option Cause :=
  if !s.trappable t then none
  else
    match t.events with
    | v :: _ => some v.code
    | [] =>
      if t.timer.fired && t.umask.getLsbD 1 && t.utvec != 0 then some timerCode
      else
        let S := s.station (stationOf k)
        if S.messageDue t && !S.msgTrap && !s.messageBelow k then some messageCode else none

/-- The strand's request at a proof's home is withdrawn before the trap (R260). -/
def State.withdraw (s : State) (t : Strand) : State :=
  match t.hold with
  | .proof n =>
    let s' : State := match (s.req n).bind (·.res) with
      | some i => { s with results := tblDel s.results i }
      | none => s
    s'.dropReqs [n]
  | _ => s

/-- The wait of a strand at a home in another package, whose record the home removes before the trap is taken (R260). -/
def State.awayWait (s : State) (t : Strand) : Option (Nat × Req) :=
  match t.hold with
  | .proof n => ((s.req n).filter fun r => r.stage == .remote).map fun r => (n, r)
  | _ => none

/-- Taking the trap that is pending at the boundary of the strand in slot k (R321 to R323). -/
def State.boundaryTrap (s : State) (k : Nat) (t : Strand) (code : Cause) : State :=
  match s.awayWait t with
  | some (n, r) => s.addAway { r with kind := .withdraw n, stage := .toDtu, a := BitVec.ofNat 64 n, res := none }
  | none =>
  let s := s.withdraw t
  let uepc := match t.hold with
    | .sleep => t.pc + 4
    | _ => t.pc
  let s := s.modSlot k fun t => { t with events := if t.events.isEmpty then [] else t.events.drop 1 }
  let s := if code = messageCode then s.modStation (stationOf k) fun S => { S with msgTrap := true } else s
  s.trapAt k code 0 0 uepc

/-- USER_TRAP_ENTRY (R321, R322): for the executing strand. -/
def execUserTrapEntry (s : State) : Out :=
  .next (match s.curStrand with
    | none => s
    | some t =>
      match s.pendingTrap s.cur t with
      | none => s
      | some code => s.boundaryTrap s.cur t code)

/-! ### Services (R375, R376) -/

/-- The Bridge slice that homes a die's service queue (R371, R375); with no queue that the table names, the pager's. -/
def State.svcHome (s : State) (die : Nat) : Nat :=
  match s.translate fwWho s.cfg.svcGva[(Fin.ofNat 4 die)] .locate with
  | .ok l _ => l.home die
  | _ => s.cfg.pagerStation die

/-- The requests of a die's service queue that no firmware strand has dequeued (R375). -/
def State.svcWaiting (s : State) (die : Nat) : Nat :=
  let head : Nat := match s.translate fwWho s.cfg.svcGva[(Fin.ofNat 4 die)] .queueOp with
    | .ok l _ => (s.qdesc l).head.toNat
    | _ => 0
  ((s.die die).svcq.filter fun q => !((q.seq.map fun n => Nat.blt n head).getD false)).length

/-- SVC (R375): the request joins the die's service queue of 64. The class SVCQ of the firewall covers it (R371). -/
def execSvc (d a : SReg) (n : BitVec 10) (e : Bool) (s : State) : Out :=
  s.issue 0 e [.s a] [.s d] fun t =>
    let die := s.curDie
    if 64 ≤ s.svcWaiting die then s.hold (.issue .plain)
    else if !s.fwPass t.who 3 die (fun _ => s.svcHome die) then (s.freezeSlot s.cur 0x2F0 0).advance
    else
      let id := s.nextId
      let q : SvcReq := { ticket := Config.svcTicket id, ctx := t.ctx, world := t.world, station := s.curStation, n := n,
                          arg := s.sval t a, res := id, tag := t.tag }
      ((s.pendS t d (emptyRes t (dstS d))).modDie die fun x => { x with svcq := x.svcq ++ [q] }).advance

/-- The descriptor bits of R366 that a descriptor holds. -/
def descBits (w : Word) : Word := w &&& 0xFC003FFF00003FFF#64

/-- Whether a descriptor covers an SLA at or beyond a plate size (R375). -/
def descBeyond (w : Word) (size : Nat) : Bool :=
  bit w 63 && decide (bits w 13 0 ≤ bits w 45 32) && decide (size < (bits w 45 32 + 1) * 256)

/-- What the shipped firmware answers to a request (R375). -/
def State.svcAnswer (s : State) (q : SvcReq) : Word × State :=
  if q.n = 0 then (Config.firmwareVersion, s)
  else if q.n = 1 then
    let i : Fin 16 := Fin.ofNat 16 (bits q.arg 19 16)
    let w := q.arg &&& ~~~0xF0000#64
    if descBeyond w (s.plateSize q.station) then (0, s)
    else (1, s.modStation q.station fun S => { S with prot := S.prot.set i (descBits w) })
  else if q.n = 2 then
    (match (s.ctx q.ctx).oor with | some a => a ||| 0x8000000000000000#64 | none => 0, s.modCtx q.ctx fun c => { c with oor := none })
  else (BitVec.allOnes 64, s)

/-- The die and request of a service whose result is pending. -/
def State.svcOf (s : State) (res : Nat) : Option (Nat × SvcReq) :=
  (numsFrom 0 4).findSome? fun d => ((s.die d).svcq.find? fun q => q.res == res).map fun q => (d, q)

/-- RESULT_ARRIVE (R31, R34): a result that is ready is written; a service's result is first made by the firmware. -/
def execResultArrive (res : Nat) (s : State) : Out :=
  .next (match s.svcOf res with
    | some (d, q) =>
      match s.recallTake s.cfg.svcGva[(Fin.ofNat 4 d)] q.seq with
      | some s' => s'
      | none =>
      let (v, s) := s.svcAnswer q
      (((s.modDie d fun x => { x with svcq := x.svcq.filter fun y => y.res != res }).devTake
        s.cfg.svcGva[(Fin.ofNat 4 d)] q.seq).deliver res (v.setWidth 2048)).resultArrive res
    | none => s.resultArrive res)

/-- A privileged instruction: a user strand takes PRIVILEGED before any source is read (R53, R376). -/
def State.privIssue (s : State) (e : Bool) (srcs dsts : List Opnd) (f : Strand → State) : Out :=
  match s.curStrand with
  | none => .next s
  | some t => if !t.priv then .next (s.illegal 0 5) else s.issue 0 e srcs dsts f

/-- SRET (R376): the result goes to the caller's register. -/
def execSret (d a : SReg) (e : Bool) (s : State) : Out :=
  s.privIssue e [.s a, .s d] [] fun t =>
    let ticket := s.sval t a
    let v := s.sval t d
    match (numsFrom 0 4).findSome? fun i => ((s.die i).svcq.find? fun q => q.ticket == ticket).map fun q => (i, q) with
    | none => s.advance
    | some (i, q) =>
      (((s.modDie i fun x => { x with svcq := x.svcq.filter fun y => y.res != q.res }).deliver q.res
        (v.setWidth 2048)).resultArrive q.res).advance

end Sys2Proof.Machine
end

