-- ==== Sys2Proof/Machine/Priv.lean ====
section
/-! DEFINITION. The privileged instructions of major 0x36 but SRET (R364, R368, R373, R374, R376 to R382, R418). -/

namespace Sys2Proof.Machine

/-! ### DTINV (R377, R374) -/

/-- The context, die and page of a DTINV or DTQRY operand. -/
def dtCtx (w : Word) : Nat := bits w 62 57
def dtPkg (w : Word) : Nat := bits w 56 51

/-- What a DTINV covers: `ctx` none for all scope, `page` none for a wider scope than a page. -/
structure Cover where
  die : Nat
  ctx : Option Nat
  page : Option Nat
  deriving DecidableEq, Repr

/-- Whether a page of a context on a die is covered; a 128 MiB result is covered by any of its pages. -/
def Cover.covers (c : Cover) (ctx page : Nat) (big : Bool) : Bool :=
  (c.ctx.isNone || c.ctx == some ctx) &&
  (match c.page with
    | none => true
    | some p => if big then p / 2048 == page / 2048 else p == page)

/-- Requests that a dropped result translated and that have not reached their homes; a dropped 128 MiB result may have translated
any page that it maps. -/
def State.inFlight (s : State) (c : Cover) : List Nat :=
  let big := (s.die c.die).tlb.filter fun e => e.big && c.covers e.ctx e.page true
  let hit (ctx page : Nat) : Bool :=
    c.covers ctx page false || big.any fun e => e.ctx == ctx && e.page / 2048 == page / 2048
  let atHome (n : Nat) : Bool := s.queueWaits.any fun e => e.2.contains n
  (s.reqs.filter fun e =>
    gvaDie e.2.gva == c.die && gvaPkg e.2.gva == s.cfg.pkg && hit e.2.ctx (gvaPage e.2.gva) && !atHome e.1 &&
    (match e.2.stage with
      | .translated _ => true
      | .hostOut _ => true
      | _ => false)).map (·.1)

/-- The page's die of a directory entry. -/
def DirEntry.die (e : DirEntry) : Nat := e.page / 2 ^ 33 % 4

/-- The INVs of a DTINV: one for each context that holds a covered directory entry (R374). -/
def State.sendInvs (s : State) (c : Cover) : List Nat → State
  | [] => s
  | x :: t =>
    let old := s.guest.dir.filter fun e => e.ctx == x && e.die == c.die && c.covers e.ctx e.page false
    if old.isEmpty then s.sendInvs c t else (s.sendInv x c.page old).sendInvs c t

/-- Dropping the covered results; the answer holds the INVs and the requests that DTINV waits for. -/
def State.invalidate (s : State) (c : Cover) : State × List Nat × List Nat :=
  let reqs := s.inFlight c
  let s := s.modDie c.die fun d => { d with tlb := d.tlb.filter fun e => !c.covers e.ctx e.page e.big }
  let first := s.guest.nextInv
  let s := s.sendInvs c (numsFrom 0 64)
  (s, numsFrom first (s.guest.nextInv - first), reqs)

/-- Whether a DTINV's waits are over. -/
def State.invDone (s : State) (invs reqs : List Nat) : Bool :=
  !(s.guest.invs.any fun i => invs.contains i.id) && !(reqs.any fun n => (s.req n).isSome && !(s.queueWaits.any fun e => e.2.contains n))

/-- DTINV by scope. Another package's DTU is asked by a flit, whose reply ends the hold. -/
def State.dtinv (s : State) (a : SReg) (e : Bool) (scope : Nat) : Out :=
  s.privIssue e [.s a] [] fun t =>
    match t.hold with
    | .dtinv invs reqs => if s.invDone invs reqs then s.advance else s
    | _ =>
      let w := s.sval t a
      if dtPkg w ≠ s.cfg.pkg then
        let id := s.nextId
        (s.hold (.dtinv [] [id])).addAway { s.reqOf t .dtu w 0 with a := BitVec.ofNat 64 scope }
      else
        let c : Cover := { die := gvaDie w, ctx := if scope = 2 then none else some (dtCtx w),
                           page := if scope = 0 then some (gvaPage w) else none }
        let r := s.invalidate c
        if r.1.invDone r.2.1 r.2.2 then r.1.advance else r.1.hold (.dtinv r.2.1 r.2.2)

/-- DTINV_PAGE (R377). -/
def execDtinvPage (a : SReg) (e : Bool) (s : State) : Out := s.dtinv a e 0

/-- DTINV_CTX (R377). -/
def execDtinvCtx (a : SReg) (e : Bool) (s : State) : Out := s.dtinv a e 1

/-- DTINV_ALL (R377). -/
def execDtinvAll (a : SReg) (e : Bool) (s : State) : Out := s.dtinv a e 2

/-! ### DTREP (R364, R378) -/

/-- Putting a fault-buffer entry in order by when it was taken. -/
def entryOrder (e : Fin 8 × FbEntry) : List (Fin 8 × FbEntry) → List (Fin 8 × FbEntry)
  | [] => [e]
  | x :: t => if e.2.order < x.2.order then e :: x :: t else x :: entryOrder e t

/-- The entries of a die's buffer in the order in which they were taken. -/
def Die.entries (d : Die) : List (Fin 8 × FbEntry) :=
  ((List.finRange 8).filterMap fun i => (d.fbuf[i]).map fun e => (i, e)).foldr entryOrder []

/-- Freeing an entry. -/
def State.fbClear (s : State) (d : Nat) (i : Fin 8) : State := s.modDie d fun x => { x with fbuf := x.fbuf.set i none }

/-- Replaying the requests of one entry, and their number. -/
def State.replayReqs (d : Nat) : List Nat → State × Nat → State × Nat
  | [], x => x
  | n :: t, (s, c) => if (s.req n).isSome then State.replayReqs d t (s.retranslate d n, c + 1) else State.replayReqs d t (s, c)

/-- Replaying entries: each is freed, and its requests are translated afresh. -/
def State.replay (d : Nat) : List (Fin 8 × FbEntry) → State × Nat → State × Nat
  | [], x => x
  | (i, e) :: t, (s, c) => State.replay d t (State.replayReqs d e.reqs (s.fbClear d i, c))

/-- DTREP on a die: the replay, then the reissue to the refused stations. -/
def State.dtrep (s : State) (d : Nat) : State × Nat :=
  let r := State.replay d (s.die d).entries (s, 0)
  let s := (r.1.die d).refusedBy.foldl (fun s n => s.modStation n fun S => { S with reissue := true }) r.1
  (s.modDie d fun x => { x with dropped := false, refusedCnt := 0, refusedBy := [] }, r.2)

/-- DTREP (R378). -/
def execDtrep (d : SReg) (e : Bool) (s : State) : Out :=
  s.privIssue e [] [.s d] fun _ =>
    let r := s.dtrep s.curDie
    (r.1.putS s.cur d (BitVec.ofNat 64 r.2)).advance

/-- The requests of the entries that a mask names, in arrival order. -/
def State.maskedReqs (s : State) (die : Nat) (m : Word) : List (Nat × Req) :=
  (List.finRange 8).flatMap fun i =>
    match (s.die die).fbuf[i] with
    | some f => if bit m i.val then f.reqs.filterMap fun n => (s.req n).map fun r => (n, r) else []
    | none => []

/-- Freeing the entries that a mask names. -/
def State.maskedClear (s : State) (die : Nat) (m : Word) : State :=
  (List.finRange 8).foldl (fun s i => if bit m i.val then s.fbClear die i else s) s

/-- Each request takes NOTMAPPED. -/
def State.failReqs (s : State) : List (Nat × Req) → State
  | [] => s
  | (n, r) :: t => (s.faultReq n r (causeOf 6 r.src 0)).failReqs t

/-- DTREP_FAIL (R378): the requests of the masked entries take NOTMAPPED. -/
def execDtrepFail (d a : SReg) (e : Bool) (s : State) : Out :=
  s.privIssue e [.s a] [.s d] fun t =>
    let m := s.sval t a
    let die := s.curDie
    let l := s.maskedReqs die m
    (((s.maskedClear die m).failReqs l).putS s.cur d (BitVec.ofNat 64 l.length)).advance

/-! ### DTQRY (R379) -/

/-- The leaf that a translation of R357 finds, or 0; none when the walk meets poison. The rule does not say in which world it is
asked for: the model takes the context's own, so that R357's check of WORLD never makes it 0 (log entry 92). -/
def State.leafOf (s : State) (w : Word) : Option Word :=
  let die := gvaDie w
  let c := dtCtx w
  match (s.die die).tlbHit c w with
  | some (p, _) => some p
  | none =>
    match s.walk die { ctx := c, world := ((s.die die).ctxEntry c).world } w with
    | .leaf p _ => some p
    | .notPresent => some 0
    | .noCtx => some 0
    | .badPte => some 0
    | .poison => none

/-- The lines of the tables that a DTQRY walks and that the guest's cache holds (R213). -/
def State.queryLines (s : State) (w : Word) : List Nat :=
  let D := s.die (gvaDie w)
  if (D.tlbHit (dtCtx w) w).isSome then [] else s.walkHeld (gvaDie w) (D.ctxEntry (dtCtx w)) w

/-- A request to another package with a scalar result, which leaves at once (R31). -/
def State.sendAwayS (s : State) (t : Strand) (d : SReg) (r : Req) : State :=
  if d = .x 0 then (s.addAway r).advance
  else
    let id := s.nextId
    ((s.pendS t d { emptyRes t (dstS d) with addr := r.gva }).addAway { r with res := some id }).advance

/-- DTQRY (R379). -/
def execDtqry (sel : BitVec 2) (d a : SReg) (e : Bool) (s : State) : Out :=
  s.privIssue e [.s a] [.s d] fun t =>
    let w := s.sval t a
    let D := s.die s.curDie
    let answer (v : Word) : State :=
      (s.pendS t d { emptyRes t (dstS d) with value := v.setWidth 2048, ready := true }).advance
    if sel = 3 then answer D.status
    else if sel = 0 then
      if dtPkg w ≠ s.cfg.pkg then s.sendAwayS t d { s.reqOf t .dtu w 0 with a := 3 }
      else
        match s.recallLines false (s.queryLines w) with
        | some s' => s'.hold (.issue .plain)
        | none =>
        match s.leafOf w with
        | some v => answer v
        | none => ((s.pendS t d (emptyRes t (dstS d))).faultDeferred t.grid 0x1E8 5 s.cur w).advance
    else
      match D.fbuf[(Fin.ofNat 8 w.toNat)] with
      | none => answer 0
      | some f => answer (if sel = 1 then f.word0 else f.word1 (Config.dtuAge f.order s.clock))

/-! ### SPLS and SPLR (R380) -/

/-- The slot that DIE, ROW, COL and SLOT name. -/
def slotOfWord (w : Word) : Nat := 8 * stationOfWord w + bits w 2 0

/-- SPLS (R380): the spill engine takes the strand at its next boundary (SLOT_SPILL). -/
def execSpls (d a : SReg) (e : Bool) (s : State) : Out :=
  s.privIssue e [.s a] [.s d] fun t =>
    let k := slotOfWord (s.sval t a)
    if (s.slot k).isSome then s.sendS t d { s.reqOf t .spls 0 0 with a := BitVec.ofNat 64 k }
    else (s.pendS t d { emptyRes t (dstS d) with value := (BitVec.allOnes 64).setWidth 2048, ready := true }).advance

/-- Whether a strand spilled under a tag waits in a save area. -/
def State.spilledAs (s : State) (tag : Nat) : Bool :=
  s.saved.any fun v => match v with
    | .slot g _ _ fw => fw && g == tag
    | .chord _ _ _ _ _ _ => false

/-- SPLR (R380): the strand returns to the named slot once it is free (SLOT_SPILL). -/
def execSplr (d a : SReg) (e : Bool) (s : State) : Out :=
  s.privIssue e [.s a] [.s d] fun t =>
    let w := s.sval t a
    if s.spilledAs (bits w 31 16) then
      s.sendS t d { s.reqOf t .splr 0 0 with a := BitVec.ofNat 64 (slotOfWord w), b := BitVec.ofNat 64 (bits w 31 16) }
    else (s.pendS t d { emptyRes t (dstS d) with ready := true }).advance

/-! ### FREEZE and THAW (R381) -/

/-- The grid of the chord on a station. -/
def State.chordGrid (s : State) (n : Nat) : Nat := (((s.station n).chord).map (·.grid)).getD 0

/-- FREEZE (R381). A master that is frozen stays as it is; KIND 5 to 15 names none, and the instruction then does nothing else
(DEDUCED; log entry 98). -/
def execFreeze (a : SReg) (e : Bool) (s : State) : Out :=
  s.privIssue e [.s a] [] fun t =>
    let w := s.sval t a
    let n := stationOfWord w
    let k := slotOfWord w
    let code : Cause := 0x2F1
    let s := match bits w 63 60 with
      | 0 => if ((s.slot k).map fun (t : Strand) => t.frozen.isNone).getD false then s.freezeSlot k code 0 else s
      | 1 => if (s.station n).eng.frozen.isNone then s.freezeEngine n code (s.chordGrid n) 0 else s
      | 2 => if (s.station n).cpy.frozen.isNone then s.freezeCopy n code (s.chordGrid n) 0 else s
      | 3 => if ((tblGet s.windows (bits w 36 32)).bind (·.frozen)).isNone then s.freezeFunc (bits w 41 40) (bits w 36 32) code 0 else s
      | 4 => if s.guest.st = GState.absent ∨ s.guest.st = GState.frozen then s else s.freezeGuest code 0 0
      | _ => s
    s.advance

/-- A matrix engine thawed: a drain that was refused is dropped, with its completion action (R173, R381). -/
def Engine.thaw (g : Engine) : Engine := { g with frozen := none, frozenGrid := 0, drain := g.drain.filter fun d => !d.refused }

/-- A copy engine thawed: an entry that was refused is dropped, with its completion action (R244, R381). -/
def CopyEngine.thaw (g : CopyEngine) : CopyEngine :=
  { g with
    frozen := none, frozenGrid := 0
    queue := g.queue.filter fun i => !i.refused
    handlerQ := g.handlerQ.filter fun i => !i.refused }

/-- THAW (R381, R409): the master goes on from where it stood; KIND 5 to 15 names none (DEDUCED; log entry 98). -/
def execThaw (a : SReg) (e : Bool) (s : State) : Out :=
  s.privIssue e [.s a] [] fun t =>
    let w := s.sval t a
    let n := stationOfWord w
    let s : State := match bits w 63 60 with
      | 0 => s.modSlot (slotOfWord w) fun t => { t with frozen := none }
      | 1 => s.modStation n fun S => { S with eng := S.eng.thaw }
      | 2 => s.modStation n fun S => { S with cpy := S.cpy.thaw }
      | 3 => { s with windows := tblMod s.windows (bits w 36 32) fun (x : Window) => { x with frozen := none } }
      | 4 => if s.guest.st = .frozen then { s with guest := { s.guest with st := s.guest.was } } else s
      | _ => s
    s.advance

/-! ### RGNW, PUW, COMMIT (R365, R366, R376, R382, R418) -/

/-- RGNW (R376, R365): the reserved bits of both words read zero. -/
def execRgnw (d a : SReg) (i : BitVec 6) (e : Bool) (s : State) : Out :=
  s.privIssue e [.s a, .s d] [] fun t =>
    let w0 := s.sval t a &&& 0xFF80FFFFFFFF0000#64
    let w1 := s.sval t d &&& 0x0000FFFFFFFF0000#64
    (s.modDie s.curDie fun x => { x with region := x.region.set (Fin.ofNat 64 i.toNat) (w0, w1) }).advance

/-- PUW (R376, R366): a compute station's descriptor. -/
def execPuw (d a : SReg) (i : BitVec 4) (e : Bool) (s : State) : Out :=
  s.privIssue e [.s a, .s d] [] fun t =>
    let n := stationOfWord (s.sval t a)
    let w := descBits (s.sval t d)
    (if isBridge s.cfg n then s
      else s.modStation n fun S => { S with prot := S.prot.set (Fin.ofNat 16 i.toNat) w }).advance

/-- COMMIT of a slot (R382, R418). -/
def Firmware.commit (f : Firmware) (i : Fin 2) : Firmware × Bool :=
  if f.run = i ∧ f.slot[i] = .trial then
    ({ f with slot := (f.slot.set i .active).set (1 - i) .standby, minSvn := max f.minSvn f.svns[i] }, true)
  else (f, false)

/-- COMMIT (R382). -/
def execCommit (d a : SReg) (e : Bool) (s : State) : Out :=
  s.privIssue e [.s a] [.s d] fun t =>
    let r := s.fw.commit (Fin.ofNat 2 (bits (s.sval t a) 0 0))
    (({ s with fw := r.1 } : State).putS s.cur d (BitVec.ofNat 64 r.2.toNat)).advance

end Sys2Proof.Machine
end

