-- ==== Sys2Proof/Machine/Unit.lean ====
section
/-! DEFINITION. The accesses that the front end and the launch units make to memory (R244, R277, R282, R304, R411):
reads and writes line by line, which wait for the pager, for the guest's cache, for PCIe and for other packages. -/

namespace Sys2Proof.Machine

/-- How an access of a unit ends: a value with the state after it, a wait with what it adds to the state it began in,
or a failure with its code and address (code 0 for an address outside R37). -/
inductive URes (α : Type) where
  | ok (a : α) (s : State)
  | wait (f : State → State)
  | fail (code : Cause) (addr : Word)

/-- Going on with the value of an access. -/
def URes.andThen {α β : Type} (x : URes α) (f : α → State → URes β) : URes β :=
  match x with
  | .ok a s => f a s
  | .wait g => .wait g
  | .fail c a => .fail c a

/-- Who makes an access, from which station, and the number of the activity it belongs to. -/
structure UWho where
  who : Who
  station : Nat
  own : Nat
  deriving DecidableEq, Repr

/-- The request of a unit. -/
def UWho.req (u : UWho) (k : ReqKind) (g : Word) : Req :=
  { kind := k, slot := 8 * u.station, station := u.station, ctx := u.who.ctx, world := u.who.world, gva := g, src := 6,
    age := u.own, front := u.who.front }

/-- The request of the activity for an address, if it is outstanding or answered. -/
def State.unitReq (s : State) (u : UWho) (k : ReqKind) (g : Word) : Option Req :=
  (s.reqs.find? fun e => e.2.kind == k && e.2.age == u.own && e.2.gva == g).map (·.2)

/-- A request that waits for its page; `b` is 1 for a decrement. -/
def UWho.enter (u : UWho) (k : ReqKind) (g b : Word) (s : State) : State := s.enterPage { u.req k g with b := b }

/-- A read of at most 64 bytes of one block: the bytes, and the poison met. -/
def State.unitPiece (s : State) (u : UWho) (g : Word) (n : Nat) : URes (List Byte × Option Nat) :=
  match s.unitReq u .unitRead g with
  | some r =>
    match r.stage with
    | .replied true c => .ok ((bytesOf n r.data.toNat), if c = 0 then none else some 0) s
    | .replied false c => .fail c g
    | _ => .wait id
  | none =>
    if !gvaOk s.cfg g then .fail 0 g
    else if gvaPkg g ≠ s.cfg.pkg then .wait fun s => s.addAway { u.req .unitRead g with b := BitVec.ofNat 64 n }
    else
      match s.translateBehind u.station u.who g .read with
      | .ok (.pcie a) _ =>
        let func := ((s.die (gvaDie g)).ctxEntry u.who.ctx).func.toNat
        .wait fun s =>
          let n' := s.nextId
          let s := s.addReq { u.req .unitRead g with stage := .hostOut (.pcie a) }
          { s with pcie := s.pcie ++ [.read n' func a n] }
      | .ok l _ =>
        match s.recall l n false with
        | some _ => .wait fun s => (s.recall l n false).getD s
        | none => .ok (s.homeBytes l n, s.readPoison l n) s
      | .notPresent => .wait (u.enter .unitRead g 0)
      | .fault c => .fail (c 6) g
      | .refused c => .fail (c 6) g

/-- The bytes of a read and the first poison met. -/
def State.unitReadFrom (u : UWho) : Nat → Word → Nat → List Byte → Option Nat → State → URes (List Byte × Option Nat)
  | 0, _, _, acc, p, s => .ok (acc, p) s
  | fuel + 1, g, n, acc, p, s =>
    if n = 0 then .ok (acc, p) s
    else
      let k := min n (64 - g.toNat % 64)
      (s.unitPiece u g k).andThen fun x s =>
        State.unitReadFrom u fuel (g + BitVec.ofNat 64 k) (n - k) (acc ++ x.1) (if p.isSome then p else x.2) s

/-- A read of n bytes. -/
def State.unitRead (s : State) (u : UWho) (g : Word) (n : Nat) : URes (List Byte × Option Nat) :=
  State.unitReadFrom u (n / 64 + 2) g n [] none s

/-- The 64-bit word at an offset of some bytes. -/
def wordOf (bs : List Byte) (off : Nat) : Word := BitVec.ofNat 64 (ofBytes ((bs.drop off).take 8))

/-- A write of at most 64 bytes of one block; whether it met poison (R215, R282). -/
def State.unitPut (s : State) (u : UWho) (g : Word) (bs : List Byte) : URes Bool :=
  match s.unitReq u .unitWrite g with
  | some r =>
    match r.stage with
    | .replied true c => .ok (c != 0) s
    | .replied false c => .fail c g
    | _ => .wait id
  | none =>
    if !gvaOk s.cfg g then .fail 0 g
    else if gvaPkg g ≠ s.cfg.pkg then
      let off := g.toNat % 64
      .wait fun s => s.addAway { u.req .unitWrite g with
        mask := BitVec.ofNat 64 ((2 ^ bs.length - 1) * 2 ^ off)
        data := BitVec.ofNat 512 (ofBytes bs * 2 ^ (8 * off)) }
    else
      match s.translateBehind u.station u.who g .write with
      | .ok (.pcie a) _ =>
        let func := ((s.die (gvaDie g)).ctxEntry u.who.ctx).func.toNat
        .ok false { s with pcie := s.pcie ++ [.write func a bs.length (BitVec.ofNat 2048 (ofBytes bs)) false] }
      | .ok l _ =>
        match s.recall l bs.length with
        | some _ => .wait fun s => (s.recall l bs.length).getD s
        | none =>
          let (s, lost) := (s.noteGvaOor u.who.ctx g l bs.length).writeBlock l (bs.map fun b => (true, b))
          .ok lost s
      | .notPresent => .wait (u.enter .unitWrite g 0)
      | .fault c => .fail (c 6) g
      | .refused c => .fail (c 6) g

/-- The decrement of a signal word by 1, a far atomic at its home (R282); whether its block was lost, which poisons it (R215). -/
def State.unitDecrement (s : State) (u : UWho) (g : Word) : URes Bool :=
  match s.unitReq u .unitWrite g with
  | some r =>
    match r.stage with
    | .replied true c => .ok (c != 0) s
    | .replied false c => .fail c g
    | _ => .wait id
  | none =>
    if !gvaOk s.cfg g then .fail 0 g
    else if gvaPkg g ≠ s.cfg.pkg then
      .wait fun s => s.addAway { u.req .unitWrite g with a := BitVec.allOnes 64, b := 1 }
    else
      match s.translateBehind u.station u.who g .bankOp with
      | .ok l _ =>
        match s.recall l 8 with
        | some _ => .wait fun s => (s.recall l 8).getD s
        | none =>
          match s.readPoison l 8 with
          | some k =>
            if l.key.bind s.poisonAt = some 2 then .ok true (s.setPoison (l.key.getD 0) 0) else .fail (poisonCode 4 k) g
          | none =>
            let s := s.noteGvaOor u.who.ctx g l 8
            let v := (s.homeNat l 8 + (2 ^ 64 - 1)) % 2 ^ 64
            .ok false ((((s.writeBlock l ((bytesOf 8 v).map fun b => (true, b))).1).tick).noteAtomic (l.key.getD 0) 8)
      | .notPresent => .wait (u.enter .unitWrite g 1)
      | .fault c => .fail (c 6) g
      | .refused c => .fail (c 6) g

end Sys2Proof.Machine
end

