-- ==== Sys2Proof/Machine/Launch.lean ====
section
/-! DEFINITION. Launch blocks, proof binding, the acceptance and refusal of a launch, and SPAWN and SPAWNL at the launch
unit (R14, R27, R76, R250, R280, R281, R286, R304 to R307, R355). -/

namespace Sys2Proof.Machine

/-! ### Launch blocks (R280) -/

/-- The fields of a launch block. -/
structure LBlk where
  entry : Word
  wm1 : Nat
  hm1 : Nat
  strands : Nat
  stages : Nat
  allowance : Nat
  priority : Nat
  plate : Nat
  mode : BitVec 5
  courses : Nat
  quota : Nat
  seed : Word
  pimg : Word
  plen : Nat
  nproof : Nat
  inmask : Word
  takemask : Word
  ports : Word
  nport : Nat
  decl : Word
  deriving DecidableEq, Repr

/-- The fields of a block's 128 bytes; a pipeline has a course per stage (R76). -/
def LBlk.read (bs : List Byte) : LBlk :=
  let w (o : Nat) := wordOf bs o
  let sh := w 8
  let stages := bits sh 14 12 + 1
  { entry := w 0, wm1 := bits sh 3 0, hm1 := bits sh 7 4, strands := bits sh 10 8 + 1, stages := stages,
    allowance := bits sh 19 16 + 1, priority := bits sh 21 20, plate := bits sh 26 22,
    mode := BitVec.ofNat 5 (bits sh 31 27), courses := if stages = 1 then bits sh 51 32 + 1 else stages,
    quota := (w 16).toNat, seed := w 24, pimg := w 32, plen := (w 40).toNat, nproof := (w 48).toNat, inmask := w 56,
    takemask := w 64, ports := w 72, nport := (w 80).toNat, decl := w 88 }

/-- Elements that begin no declaration have the KIND of the element before (R280). -/
def LBlk.kindsAgree (b : LBlk) : Bool :=
  (numsFrom 1 (b.nproof - 1)).all fun j => bit b.decl j || bit b.inmask j == bit b.inmask (j - 1)

/-- Whether a block is malformed (R280, R76). -/
def lblkBad (bs : List Byte) : Bool :=
  let b := LBlk.read bs
  let sh := wordOf bs 8
  b.entry.toNat % 4 != 0 || bit sh 11 || bit sh 15 || bits sh 63 52 != 0 || decide (16 < b.plate) ||
    decide (16384 < b.quota) || decide (64 < b.nproof) || decide (64 < b.nport) || !(bs.drop 96).all (· == 0) ||
    (b.nproof != 0 && !bit b.decl 0) || b.decl.toNat / 2 ^ b.nproof != 0 || !b.kindsAgree

/-- The elements that a chord arms on: element b + (c mod n) of each "in" declaration (R257). -/
def armElems (l : List PElem) (c : Nat) : List Nat :=
  let starts := (numsFrom 0 l.length).filter fun i => ((l[i]?).map (·.first)).getD false
  starts.filterMap fun b =>
    if ((l[b]?).map (·.isIn)).getD false then
      let n := ((starts.find? fun x => decide (b < x)).getD l.length) - b
      some (b + c % n)
    else none

/-! ### Where courses fit (R14, R284, R286) -/

/-- The stations of a rectangle. -/
def rectOf (d r c w h : Nat) : List Nat :=
  (numsFrom 0 h).flatMap fun i => (numsFrom 0 w).map fun j => stationAt d (r + i) (c + j)

/-- The free rectangle of a die with the lowest row and then the lowest column of its upper-left station. -/
def State.findRect (s : State) (ctx d w h : Nat) (taken : Nat → Bool) : Option (List Nat) :=
  (numsFrom 0 (17 - h)).findSome? fun r =>
    (numsFrom 0 (17 - w)).findSome? fun c =>
      let l := rectOf d r c w h
      if l.all fun st => s.inSection ctx st && !taken st then some l else none

/-- One course on the lowest-numbered of some dies. -/
def State.findOn (s : State) (ctx w h : Nat) (dies : List Nat) (taken : Nat → Bool) : Option (List Nat) :=
  dies.findSome? fun d => s.findRect ctx d w h taken

/-- The k stages one after the other, each to the lowest-numbered of some dies that has room for it. -/
def State.findStages (s : State) (ctx w h : Nat) (dies : List Nat) : Nat → (Nat → Bool) → Option (List (List Nat))
  | 0, _ => some []
  | k + 1, taken =>
    match s.findOn ctx w h dies taken with
    | none => none
    | some l => (s.findStages ctx w h dies k fun st => taken st || l.contains st).map fun t => l :: t

/-- The stages of a pipeline: on the lowest-numbered die that holds them all, otherwise across the dies (R286). -/
def State.findPipe (s : State) (ctx w h k : Nat) (taken : Nat → Bool) : Option (List (List Nat)) :=
  [[0], [1], [2], [3], [0, 1, 2, 3]].findSome? fun dies => s.findStages ctx w h dies k taken

/-- Whether the shape of a launch fits its section (R14, R281). -/
def State.shapeFits (s : State) (ctx : Nat) (b : LBlk) : Bool :=
  decide (b.wm1 + 1 ≤ 16 - s.cfg.bridgeWidth) &&
  (s.findPipe ctx (b.wm1 + 1) (b.hm1 + 1) (if b.stages = 1 then 1 else b.stages) fun _ => false).isSome

/-- The most shared ways of a station of the section (R355). -/
def State.sharedMost (s : State) (ctx : Nat) : Nat := (s.sectionOf ctx).foldl (fun m st => max m (s.sharedWays st)) 0

/-! ### Binding (R250, R281) -/

/-- One element bound: an existing handle, or a proof to create on a die at a generation. -/
inductive Bound where
  | handle (h : Word)
  | create (die : Nat) (gen : BitVec 16)
  deriving DecidableEq, Repr

/-- The lowest-numbered die with a compute station of the section (R250). -/
def State.firstDie (s : State) (ctx : Nat) : Nat :=
  ((numsFrom 0 4).find? fun d => !(s.sectionOn ctx d).isEmpty).getD 0

/-- The elements of a binding table's words; a failure carries its code. SPAWN creates no proof (R304). -/
def State.bindEntries (u : UWho) (spawn : Bool) : List Word → State → URes (List Bound)
  | [], s => .ok [] s
  | e :: t, s =>
    let rest (b : Bound) (s : State) : URes (List Bound) :=
      (State.bindEntries u spawn t s).andThen fun l s => .ok (b :: l) s
    if bits e 63 62 = 0 then
      if spawn ∨ bits e 60 50 ≠ 0 ∨ bits e 47 16 ≠ 0 then .fail 0x275 0
      else rest (.create (if bit e 61 then bits e 49 48 else s.firstDie u.who.ctx) (BitVec.ofNat 16 (bits e 15 0))) s
    else if bits e 63 62 = 1 then rest (.handle e) s
    else if bits e 63 62 = 2 then
      if bits e 61 57 ≠ 0 ∨ bits e 2 0 ≠ 0 then .fail 0x275 0
      else
        (s.unitRead u (BitVec.ofNat 64 (bits e 56 3 * 8)) 8).andThen fun x s =>
          match x.2 with
          | some _ => .fail 0x1F0 0
          | none => if bits (wordOf x.1 0) 63 62 = 1 then rest (.handle (wordOf x.1 0)) s else .fail 0x275 0
    else .fail 0x275 0

/-- The words of a table's bytes. -/
def wordsOf (bs : List Byte) : Nat → Nat → List Word
  | 0, _ => []
  | n + 1, o => wordOf bs o :: wordsOf bs n (o + 8)

/-- Whether a port table is malformed: a channel descriptor with its port in [2:0] (R280), no port and no channel twice,
and no stage port of a pipeline. -/
def portsBad (stages : Nat) : List Word → Bool
  | [] => false
  | d :: t =>
    bits d 63 62 < 2 || portDescBad (d &&& ~~~7#64) || (decide (stages ≠ 1) && decide (6 ≤ bits d 2 0)) ||
      t.any (fun x => bits x 2 0 == bits d 2 0 || bits x 63 56 == bits d 63 56) || portsBad stages t

/-- Creating a proof (R249, R250): resident while the context and the grid have table entries left on the die, of the context's
quota there (R353). -/
def State.createProof (s : State) (ctx : Nat) (quota : Nat) (mine : List Nat) (die id : Nat) (gen : BitVec 16) : State :=
  let c := s.ctx ctx
  let res (f : Nat → Bool) : Nat := (s.proofs.filter fun e => e.1 / 2 ^ 20 == die && e.2.res && e.2.ctx == ctx && f e.1).length
  let qc := ((s.die die).ctxEntry ctx).quota.toNat
  let limit := if quota = 0 then qc else min quota qc
  let r := decide (res (fun _ => true) < qc) && decide (res (fun k => mine.contains k) < limit)
  s.putProof (proofKey die id) { world := c.world, res := r, ctx := ctx, gen := gen }

/-- The number of proofs on a die. -/
def State.proofsOn (s : State) (die : Nat) : Nat := (s.proofs.filter fun e => e.1 / 2 ^ 20 == die).length

/-- How creation goes: the handles in order, a full die, or IDs that the front end cannot have
chosen. -/
inductive Created where
  | ok (hs : List Word) (s : State)
  | full
  | bad

/-- Creating the proofs of a launch in list order, with the IDs that the front end chose. -/
def State.createAll (ctx quota : Nat) : List Bound → List Nat → List Nat → State → Created
  | [], ids, _, s => if ids.isEmpty then .ok [] s else .bad
  | .handle h :: t, ids, keys, s =>
    match State.createAll ctx quota t ids keys s with
    | .ok hs s => .ok (h :: hs) s
    | .full => .full
    | .bad => .bad
  | .create d gen :: t, ids, keys, s =>
    if 2 ^ 20 ≤ s.proofsOn d then .full
    else
      match ids with
      | [] => .bad
      | id :: ids =>
        if 2 ^ 20 ≤ id ∨ (s.proofGet (proofKey d id)).isSome then .bad
        else
          match State.createAll ctx quota t ids (keys ++ [proofKey d id]) (s.createProof ctx quota keys d id gen) with
          | .ok hs s => .ok (handleOf s.cfg.pkg d id gen :: hs) s
          | .full => .full
          | .bad => .bad

/-- Writing the created handles back into the binding table (R281). -/
def State.writeBack (u : UWho) (bind : Word) : Nat → List (Bound × Word) → State → URes Unit
  | _, [], s => .ok () s
  | i, (.handle _, _) :: t, s => State.writeBack u bind (i + 1) t s
  | i, (.create _ _, h) :: t, s =>
    (s.unitPut u (bind + BitVec.ofNat 64 (8 * i)) (bytesOf 8 h.toNat)).andThen fun _ s => State.writeBack u bind (i + 1) t s

/-- The list elements. -/
def elemsOf (b : LBlk) (hs : List Word) : List PElem :=
  hs.zipIdx.map fun e => { handle := e.1, isIn := bit b.inmask e.2, take := bit b.takemask e.2, first := bit b.decl e.2 }

/-- The keys of a grid's proofs of this package, each once. -/
def Grid.keys (g : Grid) (c : CfgTable) : List Nat :=
  g.proofs.foldl (fun l e => if handleOk c e.handle ∧ hPkg e.handle = c.pkg then addOnce l (hKey e.handle) else l) []

/-- Counting a grid among those that bound its proofs (R281). -/
def State.bindAll (s : State) (keys : List Nat) : State :=
  keys.foldl (fun s k => s.modProof k fun p => { p with binds := p.binds + 1 }) s

/-- A proof is freed: what waits for it meets NOPROOF (R259). -/
def State.freeProof (s : State) (k : Nat) : State :=
  match s.proofGet k with
  | none => s
  | some p =>
    let s := (s.modProof k fun p => { p with valid := false }).failWaiters k 3 p.waiters
    { s with proofs := tblDel s.proofs k }

/-- A grid has completed: a proof that no uncompleted grid binds is freed, and what waits for it meets NOPROOF
(R281, R259). -/
def State.unbindProofs (s : State) (keys : List Nat) : State :=
  keys.foldl (fun s k =>
    match s.proofGet k with
    | none => s
    | some p => if 1 < p.binds then s.modProof k fun p => { p with binds := p.binds - 1 } else s.freeProof k) s

/-! ### Acceptance (R281, R288, R304) -/

/-- What a launch gives beside its block (R277, R304). -/
structure LArgs where
  kblk : Word
  arg0 : Word
  arg1 : Word
  bind : Word
  crec : Word
  sig : Word
  launcher : Launcher
  pipe : Option Bool
  spawn : Bool
  ids : List Nat

/-- The context's next SERIAL: 0xFFFF is followed by 1 (R27). -/
def nextSerial (n : BitVec 16) : BitVec 16 := if n = 0xFFFF then 1 else n + 1

/-- The grid of an accepted launch. -/
def gridOfBlk (s : State) (ctx : Nat) (b : LBlk) (a : LArgs) (elems : List PElem) (ports : List Word) : Grid :=
  { st := .placing, ctx := ctx, world := (s.ctx ctx).world, serial := (s.ctx ctx).serial, entry := b.entry, arg0 := a.arg0,
    arg1 := a.arg1, wm1 := Fin.ofNat 16 b.wm1, hm1 := Fin.ofNat 16 b.hm1, strands := b.strands, stages := b.stages,
    courses := b.courses, allowance := b.allowance, priority := b.priority, ways := b.plate, mode := b.mode, seed := b.seed,
    pimg := b.pimg, plen := b.plen, quota := b.quota, proofs := elems,
    ports := ports.map fun d => (Fin.ofNat 8 (bits d 2 0), d &&& ~~~7#64), crec := a.crec, sig := a.sig, by_ := a.launcher,
    since := s.clock, accepted := s.clock }

/-- What of a block and its launch makes it BADLAUNCH besides R280's fields. -/
def State.launchBad (s : State) (ctx : Nat) (b : LBlk) (a : LArgs) : Bool :=
  decide (b.plate * 262144 < b.plen) || decide (16 - s.sharedMost ctx < b.plate) ||
    (b.nproof != 0 && a.bind == 0) || (b.nport != 0 && b.ports == 0) ||
    (match a.pipe with
      | some p => p != decide (b.stages ≠ 1)
      | none => false)

/-- Reading and accepting a launch: the grid's key, with the grid in PLACING. A failure carries the refusal's cause. -/
def State.acceptLaunch (s : State) (u : UWho) (a : LArgs) : URes (Option Nat) :=
  let ctx := u.who.ctx
  if a.kblk.toNat % 128 ≠ 0 ∨ a.bind.toNat % 8 ≠ 0 then .fail 0x275 0
  else
    (s.unitRead u a.kblk 128).andThen fun x s =>
      let b := LBlk.read x.1
      if x.2.isSome then .fail 0x1F0 a.kblk
      else if lblkBad x.1 ∨ s.launchBad ctx b a then .fail 0x275 a.kblk
      else
        (s.unitRead u a.bind (8 * b.nproof)).andThen fun y s =>
        (s.unitRead u b.ports (8 * b.nport)).andThen fun z s =>
          let ports := wordsOf z.1 b.nport 0
          if y.2.isSome ∨ z.2.isSome then .fail 0x1F0 (if y.2.isSome then a.bind else b.ports)
          else
            (State.bindEntries u a.spawn (wordsOf y.1 b.nproof 0) s).andThen fun es s =>
              if portsBad b.stages ports then .fail 0x275 b.ports
              else if !s.shapeFits ctx b then .fail 0x273 a.kblk
              else
                let key := gridKey ctx (s.ctx ctx).serial
                match State.createAll ctx b.quota es a.ids [] s with
                | .full => .fail 0x274 a.bind
                | .bad => .ok none s
                | .ok hs s =>
                  (State.writeBack u a.bind 0 (es.zip hs) s).andThen fun _ s =>
                    let g := gridOfBlk s ctx b a (elemsOf b hs) ports
                    let g : Grid := { g with bound := g.keys s.cfg }
                    let s : State := { s with grids := tblPut s.grids key g }
                    let s := s.bindAll g.bound
                    .ok (some key) (((s.modCtx ctx fun c => { c with serial := nextSerial c.serial }).unitEnd u.own).tick)

/-- The cause of a refusal: a launch address outside R37 is a malformed launch (log entry 16). -/
def refuseCode (c : Cause) : Cause := if c = 0 then 0x275 else c

/-! ### The launch unit (R304, R306) -/

/-- The station from which a die's launch unit makes its accesses: the issuing one stands for it. -/
def Req.unit (r : Req) (n : Nat) : UWho := { who := { ctx := r.ctx, world := r.world }, station := r.station, own := 2 ^ 16 + n }

/-- The status word of SPAWN and SPAWNL (R304). -/
def spawnStatus (refused : Bool) (c : Cause) (serial : BitVec 16) : VWord :=
  BitVec.ofNat 2048 (refused.toNat * 2 ^ 63 + c.toNat * 2 ^ 16 + serial.toNat)

/-- Answering a launch-unit request. -/
def State.spawnAnswer (s : State) (n : Nat) (r : Req) (v : VWord) : State :=
  ((s.unitEnd (r.unit n).own).delReq n).deliverTo r.res v

/-- SPAWN at the launch unit (R304). -/
def State.spawnAt (s : State) (n : Nat) (r : Req) : State :=
  let u := r.unit n
  let res : URes (Option Nat) :=
    (s.unitRead u r.gva 64).andThen fun x s =>
      if x.2.isSome then .fail 0x1F0 r.gva
      else
        let w := wordOf x.1
        if (w 32).toNat % 16 ≠ 0 ∨ (w 40).toNat % 8 ≠ 0 ∨ bits (w 56) 63 16 ≠ 0 then .fail 0x275 r.gva
        else s.acceptLaunch u { kblk := w 0, arg0 := w 8, arg1 := w 16, bind := w 24, crec := w 32, sig := w 40,
                                launcher := .spawn (w 48) (w 56), pipe := none, spawn := true, ids := [] }
  match res with
  | .ok (some g) s => s.spawnAnswer n r (spawnStatus false 0 (BitVec.ofNat 16 g))
  | .ok none s => s
  | .wait f => f s
  | .fail c _ => s.spawnAnswer n r (spawnStatus true (refuseCode c) 0)

/-- Whether a place of a list is at least as good for a SPAWNL.ANY as another: more free slots; with no free slot, a
shorter run queue; then the lower row and column (R306). -/
def State.freeSlots (s : State) (st : Nat) : Nat :=
  ((numsFrom 0 8).filter fun i => (s.slot (8 * st + i)).isNone && !(s.station st).disabled.getLsbD i).length

/-- The station with the best value of a measure, the first of equals. -/
def bestOf (f : Nat → Nat) : List Nat → Option Nat
  | [] => none
  | x :: t =>
    match bestOf f t with
    | none => some x
    | some y => if f y < f x then some y else some x

/-- The station that a launch unit chooses (R306). -/
def State.anyStation (s : State) (ctx d : Nat) : Option Nat :=
  let l := s.sectionOn ctx d
  let free := l.filter fun st => s.freeSlots st != 0
  if free.isEmpty then bestOf (fun st => (s.station st).runq.length) l else bestOf (fun st => 8 - s.freeSlots st) free

/-- The loose strands of a context that live on a die. -/
def State.looseOn (s : State) (ctx d : Nat) : Nat :=
  (s.strands.filter fun e => e.2.loose && e.2.ctx == ctx && dieOf (stationOf e.1) == d).length +
  (s.stations.map fun e => if dieOf e.1 = d then (e.2.runq.filter fun t => t.ctx == ctx).length else 0).sum +
  (s.transit.filter fun t => t.strand.ctx == ctx && dieOf t.dest == d).length +
  (s.saved.filter fun v => match v with
    | .slot _ st t _ => t.loose && t.ctx == ctx && dieOf st == d
    | .chord _ _ _ _ _ _ => false).length

/-- A new loose strand (R307). -/
def looseStrand (r : Req) (tag grid : Nat) (entry seed : Word) (xs : List Word) : Strand :=
  let mode : BitVec 5 := r.a.setWidth 5
  { tag := tag, ctx := r.ctx, world := r.world, priv := false, grid := grid, loose := true, index := 0, nm1 := 0,
    chordCsr := 0, courseCsr := 0, stageCsr := BitVec.ofNat 6 (r.b.toNat / 2 ^ 32), gridCsr := r.b.setWidth 23, pc := entry,
    x := Vector.ofFn fun i => if 1 ≤ i.val ∧ i.val ≤ 5 then { val := xs.getD (i.val - 1) 0 } else {},
    v := Vector.replicate 16 { xr := mode.getLsbD 1 }, mode := mode, seed := seed }

/-- SPAWNL at the launch unit (R306, R307): also for a grid that has passed to COMPLETING since the SPAWNL was issued, of which the
rules say nothing (DESIGN CHOICE; log entry 97). -/
def State.spawnlAt (s : State) (n : Nat) (r : Req) : State :=
  let u := r.unit n
  match s.unitRead u r.gva 64 with
  | .wait f => f s
  | .fail c _ => s.spawnAnswer n r (spawnStatus true (refuseCode c) 0)
  | .ok x s =>
    let refuse (c : Cause) : State := s.spawnAnswer n r (spawnStatus true c 0)
    let entry := wordOf x.1 0
    let place := wordOf x.1 8
    let any := bit place 63
    if x.2.isSome then refuse 0x1F0
    else if entry.toNat % 4 ≠ 0 ∨ bits place 62 42 ≠ 0 ∨ bits place 31 0 ≠ 0 ∨ (any ∧ bits place 41 32 ≠ 0) then refuse 0x275
    else
      match if any then s.anyStation r.ctx (dieOf r.station)
          else if s.inSection r.ctx (stationOfWord place) then some (stationOfWord place) else none with
      | none => refuse 0x275
      | some st =>
        if 4096 ≤ s.looseOn r.ctx (dieOf st) then refuse 0x276
        else
          let t := looseStrand r s.nextTag r.grid entry (wordOf x.1 16) (wordsOf x.1 5 24)
          let s := ({ s with nextTag := s.nextTag + 1 }).modGrid r.grid fun g => { g with loose := g.loose + 1 }
          (s.arrive st t).spawnAnswer n r (spawnStatus false 0 0)

/-- LAUNCH_UNIT_ACCEPT (R304, R306). -/
def execLaunchUnitAccept (req : Nat) (s : State) : Out :=
  .next (match s.req req with
    | none => s
    | some r =>
      match r.kind with
      | .spawn => s.spawnAt req r
      | .spawnl => s.spawnlAt req r
      | _ => s)

end Sys2Proof.Machine
end

