-- ==== Sys2Proof/Machine/HostQueue.lean ====
section
/-! DEFINITION. Host queues and their commands (R273 to R279, R282, R283, R439): the registers' writes, reading a
command, WAIT, and completion. -/

namespace Sys2Proof.Machine

/-! ### Queues (R273, R275) -/

/-- A queue, its function and its context. -/
def State.queue (s : State) (q : Nat) : HQueue := (tblGet s.queues q).getD {}
def State.setQueue (s : State) (q : Nat) (Q : HQueue) : State := { s with queues := tblPut s.queues q Q }
def State.queueAt (s : State) (q : Nat) : Nat × Nat := ((s.cfg.queueFunc.find? fun e => e.1 == q).map (·.2)).getD (0, 0)
def State.queueFunc (s : State) (q : Nat) : Nat := (s.queueAt q).1
def State.queueCtx (s : State) (q : Nat) : Nat := (s.queueAt q).2

/-- The package is up: boot step 7 is reached and nothing holds it (R438, R441). -/
def Boot.up (b : Boot) : Bool := b.step == 7 && b.halted.isNone && !b.trip && !b.off && !b.perst

/-- The number of ring slots. -/
def HQueue.size (Q : HQueue) : Nat := 2 ^ Q.log2.toNat

/-- IDLE or ACTIVE by the ring and the open buffers. -/
def HQueue.run (Q : HQueue) : QState := if Q.bufs.isEmpty ∧ Q.head = Q.tail then .idle else .active

/-- A queue fault (R275, R400): consumption stops; the record names the GVA of the command, or 0. -/
def State.queueFault (s : State) (q : Nat) (code : Cause) (idx addr : Word) : State :=
  (s.feRecord q code addr).setQueue q { s.queue q with st := .faulted, cause := code, faultidx := idx }

/-- QUEUE_TAIL_WRITE (R274): the differences are taken modulo 2^64. The commands are read once the inbound writes that precede it
are held (R201). -/
def execQueueTailWrite (q : Nat) (value : Word) (s : State) : Out :=
  .next (
    let Q := s.queue q
    if !s.boot.up || value == Q.tail then s
    else if Q.size < (value - Q.tail).toNat ∨ Q.size < (value - Q.head).toNat then
      let s := s.feRecord q 0x270 (BitVec.ofNat 64 q)
      s.setQueue q { Q with st := if Q.st = .disabled then .disabled else .faulted, cause := 0x270, faultidx := value }
    else s.setQueue q { Q with tail := value, tailMark := s.nextId, st := if Q.st = .idle then .active else Q.st })

/-- CONTROL.RESET on a queue: the CALLIBs of buffers that are given up go with them, and an outstanding WAIT no longer holds
the queue (log entry 45). -/
def HQueue.reset (Q : HQueue) : HQueue :=
  let R : HQueue := { Q with
    st := .disabled, head := Q.tail, wait := none, polled := false, bufs := []
    cmds := Q.cmds.filter fun c => !(Q.bufs.any fun b => b.cmd == c.1) }
  match Q.st with
  | .disabled => R
  | .faulted => R
  | _ => Q

/-- CONTROL.DISABLE on a queue. -/
def HQueue.disable (Q : HQueue) : HQueue :=
  match Q.st with
  | .idle => { Q with st := .disabled }
  | .active => { Q with st := .disabled }
  | .waiting => { Q with st := .disabled }
  | _ => Q

/-- A queue's context is of its function's world (R351). -/
def State.queueWorldOk (s : State) (q : Nat) : Bool :=
  (s.ctx (s.queueCtx q)).world == s.cfg.funcWorlds.getD (s.queueFunc q) false

/-- CONTROL.ENABLE on a queue (R273); one whose context is of another world than its function stays DISABLED (R351). -/
def State.enableQueue (s : State) (q : Nat) : State :=
  let Q := s.queue q
  if Q.st ≠ .disabled ∨ s.queueWorldOk q = false then s
  else if Q.log2.toNat < 6 ∨ 16 < Q.log2.toNat ∨ Q.base.toNat % 4096 ≠ 0 then s.queueFault q 0x272 Q.head 0
  else s.setQueue q { Q with st := Q.run }

/-- QUEUE_RESET (R273, R402). -/
def execQueueReset (q : Nat) (s : State) : Out := .next (if s.boot.up then s.setQueue q (s.queue q).reset else s)

/-- QUEUE_DISABLE (R273). -/
def execQueueDisable (q : Nat) (s : State) : Out := .next (if s.boot.up then s.setQueue q (s.queue q).disable else s)

/-- QUEUE_ENABLE (R273). -/
def execQueueEnable (q : Nat) (s : State) : Out := .next (if s.boot.up then s.enableQueue q else s)

/-! ### Reading a command (R274, R276, R278) -/

/-- The GVA of the next command, or none; the innermost open buffer stands first. -/
def HQueue.nextAddr (Q : HQueue) : Option Word :=
  match Q.bufs with
  | b :: _ => some (b.addr + BitVec.ofNat 64 (64 * b.next))
  | [] => if Q.head = Q.tail then none else some (Q.base + BitVec.ofNat 64 (64 * (Q.head.toNat % Q.size)))

/-- The ring index of the level-0 command under which the next command stands (R275). -/
def HQueue.ringIdx (Q : HQueue) : Word := if Q.bufs.isEmpty then Q.head else Q.head - 1

/-- Whether a queue consumes commands now: ACTIVE, or WAITING for a fence alone. -/
def HQueue.consumes (Q : HQueue) : Bool := Q.wait.isNone && (Q.st == .active || Q.st == .waiting)

/-- The queue's authority, its station, and its number for its accesses. -/
def State.queueWho (s : State) (q : Nat) : UWho :=
  { who := s.frontWho (s.queueCtx q), station := s.queueStation q, own := q }

/-- The commands in words: header, body, SIG, TLV. -/
def cmdOf (bs : List Byte) (Q : HQueue) : Cmd :=
  { op := bits (wordOf bs 0) 7 0, header := wordOf bs 0, body := wordsOf bs 5 8, sig := wordOf bs 48, tlv := wordOf bs 56,
    level := Q.bufs.length, ring := Q.ringIdx.toNat }

def Cmd.word (c : Cmd) (i : Nat) : Word := c.body.getD i 0
def Cmd.fence (c : Cmd) : Bool := bit c.header 8

/-- What R276 to R279 make BADCMD; so are a WAIT whose KIND is above 2, which no rule names (DEDUCED; log entry 95), and a LOADSHARD
whose SDESC is no multiple of 64, for which R411 names DESCBAD (DEDUCED; log entry 96). -/
def State.cmdBad (s : State) (q : Nat) (c : Cmd) : Bool :=
  let w := c.word
  bits c.header 63 27 != 0 || bits c.header 15 10 != 0 || c.sig.toNat % 8 != 0 ||
    (bit c.header 9 && decide ((if s.queueFunc q = 0 then 2048 else 256) ≤ bits c.header 26 16)) ||
    (match c.op with
      | 1 => (w 0).toNat % 128 != 0 || (w 3).toNat % 8 != 0 || (w 4).toNat % 16 != 0
      | 2 => (w 0).toNat % 128 != 0 || (w 3).toNat % 8 != 0 || (w 4).toNat % 16 != 0
      | 3 => (w 0).toNat % 64 != 0 || w 1 == 0 || decide (2 ^ 20 < (w 1).toNat) || w 2 != 0 || w 3 != 0 || w 4 != 0
      | 4 => w 0 != 0 || w 1 != 0 || w 2 != 0 || w 3 != 0 || w 4 != 0
      | 5 => w 3 != 0 || (w 4).toNat % 16 != 0 || decide (2 < (w 0).toNat) ||
          (w 0 == 0 && (decide (256 ≤ (w 1).toNat) || s.queueCtx (w 1).toNat != s.queueCtx q)) ||
          (w 0 == 1 && (w 1).toNat % 8 != 0)
      | 6 => w 3 != 0 || (w 4).toNat % 16 != 0
      | 7 => (w 0).toNat % 64 != 0 || w 1 != 0 || w 2 != 0 || w 3 != 0 || (w 4).toNat % 16 != 0
      | _ => true)

/-- Whether the commands that a fence waits for are complete: all but the CALLIBs that enclose it (R276, R278). -/
def HQueue.fenceOpen (Q : HQueue) : Bool := Q.cmds.all fun c => Q.bufs.any fun b => b.cmd == c.1

/-- Leaving the buffers that are read to their end. -/
def closeBufs : List IBuf → List IBuf
  | [] => []
  | b :: t => if b.next = b.count then closeBufs t else b :: t

/-- A command is consumed under the queue's next number: HEAD or the buffer's index goes on, the CALLIB that encloses it
counts it, and a buffer that it opens stands inside the one that holds it (R278). -/
def State.consumeOpen (s : State) (q : Nat) (c : Cmd) (opened : List IBuf) : State :=
  let s := s.unitEnd q
  let Q := s.queue q
  let n := Q.nextCmd
  let Q : HQueue := match Q.bufs with
    | [] => { Q with head := Q.head + 1, bufs := opened }
    | b :: t => { Q with
        bufs := closeBufs (opened ++ { b with next := b.next + 1 } :: t)
        cmds := tblMod Q.cmds b.cmd fun (x : Cmd) => { x with children := x.children ++ [n] } }
  let Q : HQueue := { Q with cmds := tblPut Q.cmds n c, nextCmd := n + 1 }
  s.setQueue q { Q with st := if Q.wait.isSome then .waiting else Q.run }

/-- A command that opens no buffer is consumed. -/
def State.consume (s : State) (q : Nat) (c : Cmd) : State := s.consumeOpen q c []

/-- Whether an inbound write of a function, numbered below a mark, is not yet held at its home (R201, R211). -/
def State.inboundDue (s : State) (func mark : Nat) : Bool :=
  s.reqs.any fun e => e.2.kind == .inWrite func && decide (e.2.order < mark)

/-- The front end reads the next command (R274): its bytes and whether they are poisoned. -/
def State.readCmd (s : State) (q : Nat) : Option (Word × URes (List Byte × Option Nat)) :=
  let Q := s.queue q
  if !s.boot.up || s.fw.swap.isSome || !Q.consumes || s.inboundDue (s.queueFunc q) Q.tailMark then none
  else Q.nextAddr.map fun a => (a, s.unitRead (s.queueWho q) a 64)

/-- The event of an operation: a well-formed command of that operation, whose fence is open, is performed by `f`, which
is given its number. -/
def State.cmdEvent (s : State) (q op : Nat) (f : Nat → Word → Cmd → State → State) : Out :=
  .next (match s.readCmd q with
    | none => s
    | some (_, .wait g) => g s
    | some (_, .fail _ _) => s
    | some (a, .ok x s') =>
      let Q := s.queue q
      let c := cmdOf x.1 Q
      if x.2.isSome ∨ c.op ≠ op then s
      else if s.cmdBad q c then (s.unitEnd q).queueFault q 0x272 Q.ringIdx a
      else if c.fence ∧ !Q.fenceOpen then s.setQueue q { Q with st := .waiting }
      else f Q.nextCmd a c s')

/-- BADCMD (R275, R276): an unassigned OP, poisoned bytes, or a command that cannot be read (log entry 16). -/
def execBadcmd (q : Nat) (s : State) : Out :=
  .next (match s.readCmd q with
    | none => s
    | some (_, .wait g) => g s
    | some (a, .fail c _) => (s.unitEnd q).queueFault q (if c = 0 then 0x272 else c) (s.queue q).ringIdx a
    | some (a, .ok x _) =>
      let Q := s.queue q
      let c := cmdOf x.1 Q
      if x.2.isSome then (s.unitEnd q).queueFault q 0x1F0 Q.ringIdx a
      else if c.op = 0 ∨ 7 < c.op then (s.unitEnd q).queueFault q 0x272 Q.ringIdx a
      else s)

/-! ### The commands -/

/-- LAUNCH and LAUNCHP: the launch is accepted or refused (R281). A refusal makes no fault report, so its completion
record names no address (R283). -/
def State.launchCmd (s : State) (q : Nat) (pipe : Bool) (ids : List Nat) (n : Nat) (c : Cmd) : State :=
  let a : LArgs := { kblk := c.word 0, arg0 := c.word 1, arg1 := c.word 2, bind := c.word 3, crec := c.word 4, sig := c.sig,
                     launcher := .queue q n, pipe := some pipe, spawn := false, ids := ids }
  match s.acceptLaunch (s.queueWho q) a with
  | .wait f => f s
  | .ok none _ => s
  | .ok (some g) s => s.consume q { c with grid := g }
  | .fail code _ => s.consume q { c with ready := true, refused := true, cause := refuseCode code, addr := 0 }

/-- LAUNCH (R277, R281). -/
def execLaunch (q : Nat) (ids : List Nat) (s : State) : Out := s.cmdEvent q 1 fun n _ c s => s.launchCmd q false ids n c

/-- LAUNCHP (R286). -/
def execLaunchp (q : Nat) (ids : List Nat) (s : State) : Out := s.cmdEvent q 2 fun n _ c s => s.launchCmd q true ids n c

/-- CALLIB (R278): at level 4 the queue faults with IBDEPTH. -/
def execCallib (q : Nat) (s : State) : Out :=
  s.cmdEvent q 3 fun n a c s =>
    if 4 ≤ c.level then (s.unitEnd q).queueFault q 0x271 (s.queue q).ringIdx a
    else
      s.consumeOpen q c [{ addr := c.word 0, count := (c.word 1).toNat, next := 0, cmd := n }]

/-- SIGNAL (R282). -/
def execSignal (q : Nat) (s : State) : Out := s.cmdEvent q 4 fun _ _ c s => s.consume q { c with ready := true }

/-- COPY (R277): performed by the copy engine of the queue's Bridge station, as a CPY. -/
def execCopy (q : Nat) (s : State) : Out :=
  s.cmdEvent q 6 fun n _ c s =>
    let len := (c.word 2).toNat
    match rangeBad s.cfg false (c.word 0) len, rangeBad s.cfg false (c.word 1) len with
    | some a, _ => (s.feRecord q 0x09A a).consume q { c with ready := true, fault := true, cause := 0x09A, addr := a }
    | none, some a => (s.feRecord q 0x09A a).consume q { c with ready := true, fault := true, cause := 0x09A, addr := a }
    | none, none =>
      let st := s.queueStation q
      if 16 ≤ (s.station st).cpy.queue.length then s
      else
        (s.consume q c).modStation st fun S => { S with cpy := { S.cpy with
          entered := S.cpy.entered + 1
          queue := S.cpy.queue ++ [{ n := S.cpy.entered, op := .cpy, tag := 0, grid := 0, ctx := s.queueCtx q, slot := 8 * st, pc := 0,
                                     desc := 0, src := c.word 0, dst := c.word 1, dig := 0, len := len, ssla := false, dsla := false,
                                     gsla := false, trap := false, act := .none, host := some (q, n) }] } }

/-! ### WAIT (R279) -/

/-- The number of a command's accesses. -/
def cmdOwn (q n : Nat) : Nat := 2 ^ 40 + n * 256 + q

/-- WAIT's timeline condition. -/
def State.timelineMet (s : State) (c : Cmd) : Bool := decide (0 ≤ ((s.queue (c.word 1).toNat).timeline - c.word 2).toInt)

/-- WAIT (R279). -/
def execWait (q : Nat) (s : State) : Out :=
  s.cmdEvent q 5 fun n _ c s =>
    let hold (s : State) : State :=
      let s := s.setQueue q { s.queue q with wait := some n, polled := false }
      s.consume q c
    if c.word 0 = 0 then (if s.timelineMet c then s.consume q { c with ready := true } else hold s)
    else if c.word 0 = 1 then hold s
    else
      let h := c.word 1
      match explicitBad s.cfg h with
      | some d => (s.feRecord q (proofCode 6 d) h).consume q { c with ready := true, fault := true, cause := proofCode 6 d, addr := h }
      | none =>
        let u := s.queueWho q
        let r : Req := { u.req .proofWait h with age := cmdOwn q n }
        hold (if hPkg h = s.cfg.pkg then s.addReq r else s.addAway r)

/-- The command that a queue's WAIT holds. -/
def HQueue.waiting (Q : HQueue) : Option (Nat × Cmd) := Q.wait.bind fun n => (tblGet Q.cmds n).map fun c => (n, c)

/-- A WAIT ends: consumption goes on. -/
def State.waitOver (s : State) (q n : Nat) (code : Cause) (addr : Word) : State :=
  let s := if code = 0 then s else s.feRecord q code addr
  let s := s.cmdReady q n code addr
  let Q : HQueue := { s.queue q with wait := none }
  s.setQueue q { Q with st := match Q.st with
    | .waiting => Q.run
    | .suspended 3 => .suspended (if Q.run = .idle then 1 else 2)
    | x => x }

/-- The outstanding WAITs that a RESET left behind, of a kind: a command already consumed goes on (R275). -/
def HQueue.leftWaits (Q : HQueue) (kind : Word) : List (Nat × Cmd) :=
  Q.cmds.filter fun e => e.2.op == 5 && !e.2.ready && Q.wait != some e.1 && e.2.word 0 == kind

/-- A WAIT that a RESET left behind ends. -/
def State.leftOver (s : State) (q n : Nat) (code : Cause) (addr : Word) : State :=
  (if code = 0 then s else s.feRecord q code addr).cmdReady q n code addr

/-- Polling the signal words of WAITs that a RESET left behind. -/
def State.pollLeft (s : State) (q : Nat) : List (Nat × Cmd) → State
  | [] => s
  | (n, c) :: t =>
    let u := { s.queueWho q with own := cmdOwn q n }
    match s.unitRead u (c.word 1) 8 with
    | .wait f => f s
    | .fail code a => (s.unitEnd u.own).leftOver q n (if code = 0 then 0x272 else code) a
    | .ok x s =>
      let s := s.unitEnd u.own
      if x.2.isSome then s.leftOver q n 0x1F0 (c.word 1)
      else if (wordOf x.1 0).toInt ≤ (c.word 2).toInt then s.leftOver q n 0 0
      else s.pollLeft q t

/-- The answer to a WAIT on a proof. -/
def State.waitReply (s : State) (q n : Nat) : Option (Nat × Req) :=
  s.reqs.find? fun e => e.2.kind == .proofWait && e.2.src == 6 && e.2.age == cmdOwn q n

/-- The first WAIT that a RESET left behind and whose condition holds. -/
def State.leftMet (s : State) (q : Nat) : State :=
  match ((s.queue q).leftWaits 0).find? fun e => s.timelineMet e.2 with
  | some (n, _) => s.leftOver q n 0 0
  | none =>
    match ((s.queue q).leftWaits 2).findSome? fun e => (s.waitReply q e.1).bind fun r =>
        match r.2.stage with
        | .replied ok code => some (e, r.1, ok, code)
        | _ => none with
    | none => s
    | some ((n, c), i, ok, code) => if ok then (s.delReq i).leftOver q n 0 0 else (s.delReq i).leftOver q n code (c.word 1)

/-- WAIT_SIGNAL_POLL (R279): the signal word as the front end reads it; one that cannot be read completes the WAIT with
FAULT (log entry 16). -/
def execWaitSignalPoll (q : Nat) (s : State) : Out :=
  .next (match (s.queue q).waiting with
    | none => if !s.boot.up then s else s.pollLeft q ((s.queue q).leftWaits 1)
    | some (n, c) =>
      if !s.boot.up then s
      else if c.word 0 ≠ 1 then s.pollLeft q ((s.queue q).leftWaits 1)
      else
        let u := { s.queueWho q with own := cmdOwn q n }
        match s.unitRead u (c.word 1) 8 with
        | .wait f => f s
        | .fail code a => (s.unitEnd u.own).waitOver q n (if code = 0 then 0x272 else code) a
        | .ok x s =>
          let s := s.unitEnd u.own
          if x.2.isSome then s.waitOver q n 0x1F0 (c.word 1)
          else if (wordOf x.1 0).toInt ≤ (c.word 2).toInt then s.setQueue q { s.queue q with polled := true }
          else s)

/-- WAIT_CONDITION_MET (R279, R210). -/
def execWaitConditionMet (q : Nat) (s : State) : Out :=
  .next (match (s.queue q).waiting with
    | none => s.leftMet q
    | some (n, c) =>
      if c.word 0 = 0 then (if s.timelineMet c then s.waitOver q n 0 0 else s.leftMet q)
      else if c.word 0 = 1 then (if (s.queue q).polled then s.waitOver q n 0 0 else s.leftMet q)
      else
        match s.waitReply q n with
        | none => s.leftMet q
        | some (i, r) =>
          match r.stage with
          | .replied true _ => (s.delReq i).waitOver q n 0 0
          | .replied false code => (s.delReq i).waitOver q n code (c.word 1)
          | _ => s.leftMet q)

/-! ### Completion (R282, R283) -/

/-- A completion record's word 0 (R283). -/
def crecWord (fault refused oor sat conf : Bool) (c : Cause) (serial : BitVec 16) : Word :=
  BitVec.ofNat 64 (2 ^ 63 + fault.toNat * 2 ^ 62 + refused.toNat * 2 ^ 61 + oor.toNat * 2 ^ 43 + sat.toNat * 2 ^ 42 +
    conf.toNat * 2 ^ 41 + c.toNat * 2 ^ 16 + serial.toNat)

/-- A completion in progress: either it waits, or the steps so far are done. -/
inductive Steps where
  | go (s : State)
  | wait (s : State)

/-- A step of a completion that failed is skipped with a record (R282). -/
def State.skipStep (s : State) (u : UWho) (code : Cause) (addr : Word) : State :=
  (s.unitEnd u.own).feRecordAt u.station (if code = 0 then 0x082 else code) addr

/-- The completion record. The context's flags go into a launch's record and are cleared. -/
def State.recordStep (s : State) (u : UWho) (crec : Word) (grid fault refused : Bool) (c : Cause) (serial : BitVec 16) (addr : Word) :
    Steps :=
  if crec = 0 then .go s
  else
    let x := s.ctx u.who.ctx
    let w := crecWord fault refused (grid && x.plateoor) (grid && x.amosat) (grid && x.amoconf) c serial
    match s.unitPut u crec (bytesOf 8 w.toNat ++ bytesOf 8 addr.toNat) with
    | .wait f => .wait (f s)
    | .fail code a => .go (s.skipStep u code a)
    | .ok lost s =>
      let s := s.unitEnd u.own
      .go (if lost then s.skipStep u 0x1E1 (blockOf crec)
        else if grid then s.modCtx u.who.ctx fun x => { x with oor := none, plateoor := false, amosat := false, amoconf := false } else s)

/-- The signal word. -/
def State.signalStep (s : State) (u : UWho) (sig : Word) : Steps :=
  if sig = 0 then .go s
  else
    match s.unitDecrement u sig with
    | .wait f => .wait (f s)
    | .fail code a => .go (s.skipStep u code a)
    | .ok lost s => .go (if lost then s.skipStep u 0x1E1 (blockOf sig) else s.unitEnd u.own)

/-- The timeline and the interrupt. -/
def State.timelineStep (s : State) (q : Nat) (c : Cmd) : State :=
  let Q := s.queue q
  let s := if c.tlv ≠ 0 ∧ 0 < (c.tlv - Q.timeline).toInt then s.setQueue q { Q with timeline := c.tlv } else s
  if bit c.header 9 then { s with pcie := s.pcie ++ [.msix (s.queueFunc q) (bits c.header 26 16)] } else s

/-- The shard whose loading a command is. -/
def State.shardOf (s : State) (q n : Nat) : Option (Nat × Shard) := s.shards.find? fun e => e.2.q == q && e.2.cmd == n

/-- STATE of a shard (R411). -/
def ShState.code : ShState → Nat
  | .loading => 1 | .checking => 2 | .valid => 3 | .withheld => 4 | .absent => 5

/-- STATUS of a shard descriptor (R411): DONE, STATE, the registry index and CAUSE. -/
def shardWord (done : Bool) (st : ShState) (i : Nat) (c : Cause) : Nat :=
  2 ^ 63 * done.toNat + st.code * 2 ^ 60 + i * 2 ^ 48 + c.toNat * 2 ^ 16

/-- The front end writes STATUS of a shard descriptor; a write that is refused is skipped with a record (log entry 84). -/
def State.statusPut (s : State) (u : UWho) (desc : Word) (w : Nat) : Steps :=
  match s.unitPut u (desc + 48) (bytesOf 8 w) with
  | .wait f => .wait (f s)
  | .fail code a => .go (s.skipStep u code a)
  | .ok lost s => .go (if lost then s.skipStep u 0x1E1 (blockOf (desc + 48)) else s.unitEnd u.own)

/-- A LOADSHARD's STATUS at its completion (R411). -/
def State.statusStep (s : State) (u : UWho) (q n : Nat) (c : Cmd) : Steps :=
  match if c.op = 7 then s.shardOf q n else none with
  | none => .go s
  | some (i, x) => s.statusPut u (c.word 0) (shardWord true x.st i c.cause)

/-- Whether the publication of a shard that a command loaded is still under way (R282, R412). -/
def State.shardPubDue (s : State) (q n : Nat) (c : Cmd) : Bool :=
  c.op == 7 && ((s.shardOf q n).map fun e =>
    s.reqs.any fun r => r.2.kind == .proofPub && r.2.src == 6 && r.2.gva == e.2.proof && r.2.ctx == e.2.ctx).getD false

/-- A step is taken once. -/
def State.cmdStep (q n i : Nat) (done : Nat) (f : State → Steps) (x : Steps) : Steps :=
  match x with
  | .wait s => .wait s
  | .go s =>
    if i < done then .go s
    else
      match f s with
      | .wait s => .wait s
      | .go s => .go { s with queues := tblMod s.queues q fun (Q : HQueue) =>
          { Q with cmds := tblMod Q.cmds n fun (c : Cmd) => { c with steps := i + 1 } } }

/-- COMMAND_COMPLETE (R282): the steps in their order, each taken once. -/
def execCommandComplete (q cmd : Nat) (s : State) : Out :=
  .next (
    let Q := s.queue q
    match tblGet Q.cmds cmd with
    | none => s
    | some c =>
      let done := if c.op = 3 then !(Q.bufs.any fun b => b.cmd == cmd) && !(c.children.any fun n => (tblGet Q.cmds n).isSome)
        else c.ready && !s.shardPubDue q cmd c
      if !done || !s.boot.up then s
      else
        let u := { s.queueWho q with own := cmdOwn q cmd }
        let isGrid := c.op = 1 ∨ c.op = 2
        let crec := if c.op = 3 ∨ c.op = 4 then 0 else c.word 4
        let serial := if c.refused then 0 else BitVec.ofNat 16 (if c.grid = 0 then 0 else c.grid)
        let x := State.cmdStep q cmd 0 c.steps (fun s => s.statusStep u q cmd c) (.go s)
        let x := State.cmdStep q cmd 1 c.steps
          (fun s => s.recordStep u crec isGrid c.fault c.refused c.cause serial c.addr) x
        let x := State.cmdStep q cmd 2 c.steps (fun s => s.signalStep u c.sig) x
        match x with
        | .wait s => s
        | .go s =>
          let s := (s.timelineStep q c).unitEnd u.own
          let Q := s.queue q
          let s := s.setQueue q { Q with cmds := tblDel Q.cmds cmd }
          if c.grid = 0 then s else { s with grids := tblDel s.grids c.grid })

end Sys2Proof.Machine
end

