-- ==== Sys2Proof/Machine/Place.lean ====
section
/-! DEFINITION. Courses, chords and grids from placement to completion (R71, R257, R284 to R289, R304, R367). -/

namespace Sys2Proof.Machine

/-! ### Placement (R284, R286, R71, R367) -/

/-- The cycles that a die's launch unit has counted since a moment (R284): more since an earlier one. -/
def State.unitCycles (s : State) (die since : Nat) : Nat := ((numsFrom since (s.clock - since)).map (Config.unitTicks die)).sum

/-- P_eff of a grid's next course on a die (R284). -/
def State.pEff (s : State) (die : Nat) (g : Grid) : Nat := g.priority - s.unitCycles die g.since / 2 ^ 16

/-- Whether a station cannot take a course. -/
def State.taken (s : State) (st : Nat) : Bool :=
  let S := s.station st
  S.chord.isSome || S.failed || S.testing || S.leaving || s.heldForRestore st

/-- Whether a spilled chord of a running context could return to a free station of a die: restores come first (R293). -/
def State.restoreDue (s : State) (die : Nat) : Bool :=
  s.saved.any fun v => match v with
    | .chord x c _ _ _ _ =>
      dieOf x == die && (s.station x).chord.isNone && !(s.station x).testing && !(s.station x).leaving &&
        !c.evict && ((s.gridOf c.grid).map fun g => s.inSection g.ctx x).getD false && !((s.gridOf c.grid).map fun g => (s.ctx g.ctx).suspended).getD true
    | .slot _ _ _ _ => false

/-- The rectangles of a grid's next placement: its next course, or every stage (R284, R286). -/
def State.placesOf (s : State) (g : Grid) (taken : Nat → Bool) : Option (List (List Nat)) :=
  if g.stages = 1 then (s.findOn g.ctx (g.wm1.val + 1) (g.hm1.val + 1) [0, 1, 2, 3] taken).map fun l => [l]
  else s.findPipe g.ctx (g.wm1.val + 1) (g.hm1.val + 1) g.stages taken

/-- Whether a grid has a course to place. -/
def State.wantsPlace (s : State) (g : Grid) : Bool :=
  g.st == .placing && decide (g.placed < g.courses) && !(s.ctx g.ctx).suspended

/-- The first grid of a list by P_eff, then by acceptance. -/
def firstByPeff (f : Grid → Nat) : List (Nat × Grid × List (List Nat)) → Option (Nat × Grid × List (List Nat))
  | [] => none
  | x :: t =>
    match firstByPeff f t with
    | none => some x
    | some y =>
      if f y.2.1 < f x.2.1 ∨ (f y.2.1 = f x.2.1 ∧ y.2.1.accepted < x.2.1.accepted) then some y else some x

/-- The placement that a die's launch unit makes next: among the courses that have room and whose lowest such die it
is (log entry 17). -/
def State.nextPlace (s : State) (die : Nat) : Option (Nat × Grid × List (List Nat)) :=
  firstByPeff (s.pEff die) (s.grids.filterMap fun e =>
    if s.wantsPlace e.2 then
      match s.placesOf e.2 s.taken with
      | some (l :: ls) => if l.head?.map dieOf = some die then some (e.1, e.2, l :: ls) else none
      | _ => none
    else none)

/-- The descriptors of a grid's station (R367). -/
def gridProt (ways : Nat) : Vector Word 16 :=
  if ways = 0 then Vector.replicate 16 0
  else (Vector.replicate 16 0).set 0 (BitVec.ofNat 64 (0xFC00000000000000 + (ways * 1024 - 1) * 2 ^ 32))

/-- The plate image written from SLA 0: a poisoned byte poisons its block (R71, R406). -/
def State.writeImage (s : State) (st : Nat) : Nat → List Byte → (Nat → Bool) → State
  | _, [], _ => s
  | off, b :: t, bad =>
    let s := s.homeWriteMask (.plate st off) [(true, b)]
    let s := if off % 64 = 0 then
        (match (Loc.plate st off).key with
          | some k => if bad (off / 64) then s.setPoison k 0 else if 64 ≤ (b :: t).length then s.clearPoison k else s
          | none => s) else s
    s.writeImage st (off + 1) t bad

/-- A station configured for a grid's first course there. -/
def State.configure (s : State) (st : Nat) (gk : Nat) (g : Grid) (image : List Byte) (bad : Nat → Bool) : State :=
  if (s.station st).lastGrid = gk then s
  else
    let s := s.modStation st fun S => { S with ways := g.ways, lastGrid := gk, prot := gridProt g.ways }
    s.writeImage st 0 image bad

/-- One arming registration (R257); a malformed handle is a deferred fault of the grid. -/
def State.register (gk : Nat) (g : Grid) (st : Nat) (s : State) (i : Nat) : State :=
  match if s.gridStopped gk then none else g.proofs[i]? with
  | none => s
  | some p =>
    if !handleOk s.cfg p.handle then s.faultDeferred gk 0x232 6 (8 * st) p.handle
    else
      let id := s.nextId
      let r : Req := { kind := if p.take then .armTake st else .armWait st, src := 6, gva := p.handle, grid := gk, ctx := g.ctx,
                       world := g.world, station := st, slot := 8 * st }
      let s := s.modStation st fun S => { S with chord := S.chord.map fun c => { c with regs := c.regs ++ [(id, i)] } }
      if hPkg p.handle = s.cfg.pkg then s.addReq r else s.addAway r

/-- The global chord number (R257). -/
def Grid.chordNo (g : Grid) (course x y : Nat) : Nat := course * ((g.hm1.val + 1) * (g.wm1.val + 1)) + y * (g.wm1.val + 1) + x

/-- The chord of a station, by its place in its course; without registrations it is armed at once (R285). A grid that a
registration has stopped places no more (R257). -/
def State.placeChord (gk : Nat) (g : Grid) (course prio : Nat) (image : List Byte) (bad : Nat → Bool) (s : State)
    (e : Nat × Nat) : State :=
  if s.gridStopped gk then s
  else
  let st := e.1
  let x := e.2 % (g.wm1.val + 1)
  let y := e.2 / (g.wm1.val + 1)
  let els := armElems g.proofs (g.chordNo course x y)
  let s := s.modStation st fun S => { S with chord := some {
    grid := gk, course := course, x := Fin.ofNat 16 x, y := Fin.ofNat 16 y, n := g.strands, prio := prio,
    st := if els.isEmpty then .armed s.clock else .pending } }
  let s := s.configure st gk g image bad
  els.foldl (State.register gk g st) s

/-- Placing courses on rectangles, the first with a given index. -/
def State.placeAll (gk : Nat) (g : Grid) (prio : Nat) (image : List Byte) (bad : Nat → Bool) (s : State) :
    Nat → List (List Nat) → State
  | _, [] => s
  | i, l :: t => State.placeAll gk g prio image bad (l.zipIdx.foldl (State.placeChord gk g i prio image bad) s) (i + 1) t

/-- The number of a grid's accesses. -/
def gridOwn (gk : Nat) : Nat := 2 ^ 60 + gk

/-- The launch unit's authority and station for a grid. -/
def State.gridWho (s : State) (gk : Nat) (g : Grid) : UWho :=
  { who := { ctx := g.ctx, world := g.world }, station := s.cfg.frontEnds.headD 31, own := gridOwn gk }

/-- Placing a grid's next courses on rectangles: the image is read with the context's authority, if a station needs
it (R71); an image that cannot be read ends the grid (log entry 16). -/
def State.placeGrid (s : State) (gk : Nat) (g : Grid) (prio : Nat) (rects : List (List Nat)) : State :=
  let fresh := rects.any fun l => l.any fun st => (s.station st).lastGrid != gk
  match if fresh ∧ g.pimg ≠ 0 then s.unitRead (s.gridWho gk g) g.pimg g.plen else .ok ([], none) s with
  | .wait f => f s
  | .fail c a => (s.unitEnd (gridOwn gk)).faultDeferred gk (if c = 0 then 0x275 else c) 6 (8 * s.cfg.frontEnds.headD 31) a
  | .ok x s' =>
   match s'.recallLines true ((rects.flatten.filter fun st => (s'.station st).lastGrid != gk && g.pimg != 0).flatMap fun st =>
       s'.guestRange (.plate st 0) g.plen).eraseDups with
   | some s'' => s''
   | none =>
    let bad (b : Nat) : Bool := x.2.isSome && (match s.unitPiece (s.gridWho gk g) (g.pimg + BitVec.ofNat 64 (64 * b)) 1 with
      | .ok y _ => y.2.isSome
      | .wait _ => false
      | .fail _ _ => false)
    let s := State.placeAll gk g prio x.1 bad s' g.placed rects
    let s := s.modGrid gk fun g =>
      let n := g.placed + rects.length
      { g with placed := n, since := s.clock, st := if g.st = .placing ∧ n = g.courses then .running else g.st }
    (s.unitEnd (gridOwn gk)).tick

/-- Whether a die of some stations has a spilled chord to restore, which comes before every placement there (R285, R293). -/
def State.restoreFirst (s : State) (rects : List (List Nat)) : Bool := rects.any fun l => l.any fun st => s.restoreDue (dieOf st)

/-- COURSE_PLACE (R284, R286). -/
def execCoursePlace (die : Nat) (s : State) : Out :=
  .next (if s.restoreDue die then s
    else
      match s.nextPlace die with
      | none => s
      | some (gk, g, rects) => if s.restoreFirst rects then s else s.placeGrid gk g (s.pEff die g) rects)

/-! ### Arming and dispatch (R285, R286) -/

/-- The station of a grid's chord by its number. -/
def State.chordAt (s : State) (gk no : Nat) : Option (Nat × Chord) :=
  match s.gridOf gk with
  | none => none
  | some g => s.stations.findSome? fun e => e.2.chord.bind fun c =>
      if c.grid = gk ∧ g.chordNo c.course c.x.val c.y.val = no then some (e.1, c) else none

/-- CHORD_ARMED (R285). -/
def execChordArmed (grid chord : Nat) (s : State) : Out :=
  .next (match s.chordAt grid chord with
    | none => s
    | some (st, c) =>
      if c.st = .pending ∧ c.regs = [] then
        (s.modStation st fun S => { S with chord := some { c with st := .armed s.clock } }).tick
      else s)

/-- The free slots of a station, enabled ones first. -/
def State.roomOf (s : State) (st : Nat) : List Nat :=
  let free := (numsFrom 0 8).filter fun i => (s.slot (8 * st + i)).isNone
  let on (i : Nat) : Bool := !(s.station st).disabled.getLsbD i
  ((free.filter on) ++ (if (s.station st).disabled = 0 then [] else free.filter fun i => !on i)).map fun i => 8 * st + i

/-- Whether one armed chord goes before another: P_eff, the cycle of arming, the later stage, the lower station. -/
def armedBefore (a b : Nat × Nat × Nat × Nat) : Bool :=
  decide (a.1 < b.1 ∨ (a.1 = b.1 ∧ (a.2.1 < b.2.1 ∨ (a.2.1 = b.2.1 ∧ (b.2.2.1 < a.2.2.1 ∨ (b.2.2.1 = a.2.2.1 ∧ a.2.2.2 < b.2.2.2))))))

/-- The first of a list of armed chords. -/
def firstArmed : List (Nat × Nat × Nat × Nat) → Option (Nat × Nat × Nat × Nat)
  | [] => none
  | x :: t =>
    match firstArmed t with
    | none => some x
    | some y => if armedBefore y x then some y else some x

/-- The armed chords of a die that have room: (P_eff, arming, stage, station). -/
def State.armedOn (s : State) (die : Nat) : List (Nat × Nat × Nat × Nat) :=
  s.stations.filterMap fun e => e.2.chord.bind fun c =>
    match c.st, s.gridOf c.grid with
    | .armed at_, some g =>
      if dieOf e.1 = die ∧ !(s.ctx g.ctx).suspended ∧ c.n ≤ (s.roomOf e.1).length ∧ !e.2.testing then
        some (c.prio, at_, if g.stages = 1 then 0 else c.course, e.1) else none
    | _, _ => none

/-- A chord's strand at its start (R285, R27). -/
def startStrand (gk : Nat) (g : Grid) (c : Chord) (gw : BitVec 23) (tag i : Nat) : Strand :=
  { tag := tag, ctx := g.ctx, world := g.world, priv := false, grid := gk, loose := false, index := Fin.ofNat 8 i,
    nm1 := Fin.ofNat 8 (c.n - 1)
    chordCsr := BitVec.ofNat 16 (g.hm1.val * 4096 + g.wm1.val * 256 + c.y.val * 16 + c.x.val)
    courseCsr := BitVec.ofNat 40 ((g.courses - 1) * 2 ^ 20 + c.course)
    stageCsr := BitVec.ofNat 6 ((g.stages - 1) * 8 + (if g.stages = 1 then 0 else c.course))
    gridCsr := gw, pc := g.entry
    x := Vector.ofFn fun j => if j.val = 1 then { val := g.arg0 } else if j.val = 2 then { val := g.arg1 } else {}
    v := Vector.replicate 16 { xr := g.mode.getLsbD 1 }
    mode := g.mode, seed := g.seed }

/-- The descriptors that a launch binds to a strand's ports: the port table, and R17's stage channels. -/
def Grid.portWords (g : Grid) (i : Nat) : List (Fin 8 × Word) :=
  let base := i * 2 ^ 56 + (g.allowance - 1) * 2 ^ 52
  g.ports ++ (if g.stages = 1 then [] else
    [(7, BitVec.ofNat 64 (3 * 2 ^ 62 + 5 * 2 ^ 59 + base)), (6, BitVec.ofNat 64 (2 * 2 ^ 62 + 4 * 2 ^ 59 + base))])

/-- Loading one strand into a slot and binding its ports. -/
def State.loadStrand (gk : Nat) (g : Grid) (c : Chord) (s : State) (e : Nat × Nat) : State :=
  let k := e.1
  let t := startStrand gk g c (gridWord s gk) s.nextTag e.2
  let s := ({ s with nextTag := s.nextTag + 1 }).setSlot k t
  let s := s.modStation (stationOf k) fun S => { S with chord := S.chord.map fun c =>
    { c with live := c.live ++ [t.tag], tags := c.tags ++ [t.tag] } }
  (g.portWords e.2).foldl (fun s p => s.bindChannel k p.1 p.2) s

/-- Strands that stand in disabled slots leave them for the save area (R299). -/
def State.leaveDisabled (s : State) (st : Nat) : State :=
  (numsFrom (8 * st) 8).foldl (fun s k =>
    if (s.station st).disabled.getLsbD (slotOf k) then
      match s.takeOut k with
      | some (t, s') => { s' with saved := s'.saved ++ [.slot 0 st t false] }
      | none => s
    else s) s

/-- Dispatching a station's chord: the engine at reset (R157), the acquire of R201, the strands. -/
def State.dispatch (s : State) (st : Nat) : State :=
  match (s.station st).chord with
  | none => s
  | some c =>
    match s.gridOf c.grid with
    | none => s
    | some g =>
      let c' : Chord := { c with
        st := .resident, dispatched := s.clock, live := [], tags := []
        yreg := Vector.replicate 16 {}, wreg := Vector.replicate 8 { xr := g.mode.getLsbD 1 } }
      let s := (s.modStation st fun S => { S with chord := some c', eng := {} }).acquireAll st
      let s := (((s.roomOf st).take c.n).zipIdx).foldl (State.loadStrand c.grid g c) s
      (s.leaveDisabled st).tick

/-- CHORD_DISPATCH (R201, R285, R286): what strands of other grids left in the station's write set is released first. -/
def execChordDispatch (die : Nat) (s : State) : Out :=
  .next (match firstArmed (s.armedOn die) with
    | none => s
    | some (_, _, _, st) => if s.writesHeld st .ring s.nextAge 0 then s.dispatch st else s.releaseAll st)

/-! ### The end of a chord (R289) -/

/-- CHORD_END (R289, R201, R230): entries and their actions are performed, and the writes are held. -/
def execChordEnd (station : Nat) (s : State) : Out :=
  .next (
    let S := s.station station
    match S.chord with
    | none => s
    | some c =>
      let busy := !S.eng.queue.isEmpty || !S.eng.handlerQ.isEmpty || S.eng.drain.isSome || S.eng.halted.isSome || S.eng.frozen.isSome ||
        s.reqs.any fun e => (e.2.kind == .proofPub && e.2.src == 2 && e.2.station == station) ||
          (e.2.kind.isStreamWrite && c.tags.contains e.2.tag)
      if c.st ≠ .ending ∨ busy then s
      else if !s.writesHeld station .ring c.mark 0 then s.mergeCovered station c.mark
      else
        (s.modStation station fun S => { S with chord := none }).modGrid c.grid fun g => { g with ended := g.ended + 1 })

/-! ### The end of a grid (R288, R304) -/

/-- The number of a grid's chords. -/
def Grid.chords (g : Grid) : Nat := g.courses * ((g.hm1.val + 1) * (g.wm1.val + 1))

/-- Whether a request only waits at its home: an ENQ or DEQ at its queue (R229), or an LRW in the slice's inbound queue (R228).
The end of its grid removes it. -/
def State.waitsAtHome (s : State) (n : Nat) (r : Req) : Bool :=
  (s.queueWaits.any (fun e => e.2.contains n) && !s.slotOwn n) ||
  match r.kind, r.stage with
  | .lrw, .inbound _ => true
  | _, _ => false

/-- Whether a request may wait at a home of another package, which removes it when it learns of the grid's end and then answers
(R228, R229). -/
def Req.waitsAway (r : Req) : Bool :=
  r.stage == .remote && r.b != 1 && (match r.kind with
    | .enq _ => true
    | .deq _ => true
    | .lrw => true
    | _ => false)

/-- Whether something of a grid is under way: a store, a request, a copy entry or a guest packet (R288). -/
def State.gridBusy (s : State) (gk : Nat) : Bool :=
  s.reqs.any (fun e => (e.2.grid == gk || e.2.writers.any fun w => w.2 == gk) && !s.waitsAtHome e.1 e.2 && !e.2.waitsAway) || s.guest.sent.any (fun p => p.grid == gk) ||
  s.stations.any fun e => e.2.stores.any (fun x => x.grid == gk) ||
    (s.copyItems e.1).any fun i => i.grid == gk

/-- The releases of a grid's stations: their lines are merged. -/
def State.gridRelease (s : State) (gk : Nat) : State :=
  (s.stations.filter fun e => e.2.stores.any fun x => x.grid == gk).foldl (fun s e => s.releaseAll e.1) s

/-- A halt or a freeze of a copy engine ends with the grid it belongs to (R174, R241, R369). -/
def Station.unhalt (S : Station) (gk : Nat) : Station :=
  { S with cpy := { S.cpy with
    halted := if S.cpy.haltGrid = gk then none else S.cpy.halted
    frozen := if S.cpy.frozenGrid = gk then none else S.cpy.frozen } }

/-- A grid's reservations are freed and its waiting requests removed without effect (R227, R229). -/
def State.endWaits (s : State) (gk : Nat) : State :=
  let gone := s.reqs.filter fun e => e.2.grid == gk && s.waitsAtHome e.1 e.2
  let dead := gone.filterMap (·.2.res) ++
    s.resv.flatMap fun e => (e.2.waiters.filter fun w => w.grid == gk).filterMap (·.res)
  let s := s.dropReqs (gone.map (·.1))
  let s : State := { s with results := s.results.filter fun e => !dead.contains e.1 }
  s.resvEnd gk (s.resv.map (·.1))

/-- A grid has reached DONE or FAULTED: its reservations, waits and proofs are given up, and its host command is over. No station
remembers it: another grid may have its SERIAL (R27, R71). -/
def State.gridOver (s : State) (gk : Nat) (g : Grid) (st : GridState) : State :=
  let s := ((s.endWaits gk).unbindProofs g.bound).modGrid gk fun g => { g with st := st, bound := [] }
  let s : State := { s with stations := s.stations.map fun e =>
    let S := e.2.unhalt gk
    (e.1, { S with lastGrid := if S.lastGrid = gk then 0 else S.lastGrid }) }
  match g.by_ with
  | .queue q n => s.cmdReady q n g.cause g.addr
  | .spawn _ _ => s

/-- A step of a spawned grid's completion, taken once. -/
def State.gridStep (gk i done : Nat) (f : State → Steps) (x : Steps) : Steps :=
  match x with
  | .wait s => .wait s
  | .go s =>
    if i < done then .go s
    else
      match f s with
      | .wait s => .wait s
      | .go s => .go (s.modGrid gk fun g => { g with steps := i + 1 })

/-- The launch unit's steps at the completion of a spawned grid, then the publication of DONEH, whose failure is a deferred fault
of the grid; the grid is gone when the publication is made (R304). -/
def State.spawnOver (s : State) (gk : Nat) (g : Grid) : State :=
  match g.by_ with
  | .queue _ _ => s
  | .spawn doneh donec =>
    let u := s.gridWho gk g
    let x := State.gridStep gk 0 g.steps
      (fun s => s.recordStep u g.crec true (g.st == .faulted) false g.cause g.serial g.addr) (.go s)
    let x := State.gridStep gk 1 g.steps (fun s => s.signalStep u g.sig) x
    match x with
    | .wait s => s
    | .go s =>
      let s := s.unitEnd u.own
      if doneh = 0 then { s with grids := tblDel s.grids gk }
      else if 3 ≤ g.steps then
        if s.reqs.any fun e => e.2.kind == .proofPub && e.2.grid == gk then s else { s with grids := tblDel s.grids gk }
      else
        let s := s.modGrid gk fun g => { g with steps := 3 }
        match explicitBad s.cfg doneh with
        | some d => s.faultDeferred gk (proofCode 6 d) 6 (8 * u.station) doneh
        | none =>
          s.addReq { kind := .proofPub, src := 6, gva := doneh, b := donec, grid := gk, ctx := g.ctx, world := g.world,
                     station := u.station, slot := 8 * u.station }

/-- GRID_COMPLETE (R227, R229, R288, R282, R304): the homes of the ring's other packages are told of the end, and answer what
waits there, before the grid is DONE. -/
def execGridComplete (grid : Nat) (s : State) : Out :=
  .next (match s.gridOf grid with
    | none => s
    | some g =>
      match g.st with
      | .running =>
        if g.placed = g.courses ∧ g.ended = g.chords ∧ g.loose = 0 then
          (s.gridRelease grid).modGrid grid fun g => { g with st := .completing }
        else s
      | .completing =>
        if s.gridBusy grid then s.gridRelease grid
        else if decide (1 < s.cfg.ringN) && !g.told then (s.tellEnd grid false).modGrid grid fun g => { g with told := true }
        else if s.reqs.any fun e => e.2.grid == grid && e.2.waitsAway then s
        else s.gridOver grid g .done
      | .done => s.spawnOver grid g
      | _ => s)

/-- A descriptor of which the guest's cache holds the line is not written before the guest has given it up (R213). -/
def State.recallDescs (s : State) (l : List GSent) : Option State :=
  s.recallLines true ((l.flatMap fun e => s.guestLines e.desc 64 true).eraseDups)

/-- A packet is final: DONE of its queue's descriptor rises by 1, and the package that enqueued it learns of it, with the code of
its fault (R206, R265, R269). -/
def State.packetFinal (s : State) (e : GSent) (code : Cause := 0) (tell : Bool := true) : State :=
  let s := s.setDone e.desc (BitVec.ofNat 64 (s.homeNat (e.desc.plus 32) 8) + 1)
  let s := match e.from_ with
    | some f => if tell then s.reply f 0 code else s
    | none => s
  let s : State := { s with awayEnded := s.awayEnded.filter fun g => g != e.grid || s.guest.sent.any fun x => x != e && x.grid == g }
  { s with guest := { s.guest with
      sent := s.guest.sent.filter fun x => x != e
      pkts := s.guest.pkts.filter fun p => !(p.gqn == e.gqn && p.seq.toNat == e.seq)
      returned := s.guest.returned.filter fun p => !(p.gqn == e.gqn && p.seq.toNat == e.seq) } }

/-- Whether a packet has been delivered and not returned. -/
def Guest.delivered (g : Guest) (e : GSent) : Bool :=
  g.pkts.any fun p => p.gqn == e.gqn && p.seq.toNat == e.seq && p.st == .delivered

/-- Whether delivered packets of a grid wait for a frozen guest, of which only a reset makes them final (R409). -/
def State.frozenPackets (s : State) (gk : Nat) : Bool :=
  s.guest.st == .frozen && s.guest.sent.any fun e => e.grid == gk && s.guest.delivered e

/-- The guest's delivered packets of an ended grid are discarded, with CANCEL; a later answer is ignored (R269). -/
def State.cancelPackets (s : State) (gk : Nat) : State :=
  (s.guest.sent.filter fun e => e.grid == gk && s.guest.delivered e).foldl (fun s e =>
    let q : Word := BitVec.ofNat 64 e.seq
    let s := s.packetFinal e
    { s with guest := { s.guest with
        ignored := s.guest.ignored ++ [(e.gqn, q)], out := s.guest.out ++ [.cancel e.gqn q] } }) s

/-- The stations of an ended grid are free. -/
def State.freeStations (s : State) (gk : Nat) : State :=
  { s with stations := s.stations.map fun e =>
      match e.2.chord with
      | some c => if c.grid = gk then (e.1, { e.2 with chord := none }) else e
      | none => e }

/-- GRID_FAULTED (R288, R269, R369, R409): the stop completes once the write sets are merged; an inspection hold delays it, and so
do the packets that a frozen guest holds. The publication of a complete packet is not the grid's (R271). -/
def execGridFaulted (grid : Nat) (s : State) : Out :=
  .next (match s.gridOf grid with
    | none => s
    | some g =>
      match g.st, s.recallDescs (s.guest.sent.filter fun e => e.grid == grid && s.guest.delivered e) with
      | .ending, some s' => s'
      | .ending, none =>
        if g.hold || s.frozenPackets grid then s
        else if s.reqs.any (fun e => e.2.grid == grid && !(e.2.kind == .proofPub && e.2.src == 7)) || s.stations.any fun e => e.2.stores.any fun x => x.grid == grid then
          s.gridRelease grid
        else ((s.cancelPackets grid).freeStations grid).gridOver grid g .faulted
      | .faulted, _ => s.spawnOver grid g
      | _, _ => s)

end Sys2Proof.Machine
end

