-- ==== Sys2Proof/Machine/Spill.lean ====
section
/-! DEFINITION. Spills and restores of slots and chords, time-slicing and thermal control (R178, R201, R291 to R295, R299,
R380, R441). -/

namespace Sys2Proof.Machine

/-- Whether the spill engine may take a strand where it stands: a release it has begun and an MLDW in progress finish first
(R178, R294). -/
def Strand.spillable (t : Strand) : Bool :=
  match t.hold with
  | .release _ _ _ _ => false
  | .mldw l => !l.started
  | _ => true

/-! ### One slot (R292, R380) -/

/-- The first spill tag not in use from a number on. -/
def State.freeTag (s : State) (n : Nat) : Nat → Nat
  | 0 => n % 65536
  | fuel + 1 => if s.spilledAs (n % 65536) then s.freeTag (n + 1) fuel else n % 65536

/-- SPLS: the strand of slot k is saved under a tag, which the request's destination takes. -/
def State.spillFor (s : State) (k n : Nat) (r : Req) : State :=
  match s.slot k with
  | none => (s.delReq n).deliverTo r.res ((BitVec.allOnes 64).setWidth 2048)
  | some t =>
    if !t.spillable then s
    else
      match s.takeOut k with
      | none => s
      | some (u, s) =>
        let tag := s.freeTag (Config.spillTag n).toNat (s.saved.length + 1)
        let s : State := { s with saved := s.saved ++ [.slot tag (stationOf k) u true] }
        (s.delReq n).deliverTo r.res (BitVec.ofNat 2048 tag)

/-- The strand that firmware spilled under a tag, with its station. -/
def Saved.byTag (tag : Nat) : Saved → Option (Nat × Strand)
  | .slot g st t fw => if fw = true ∧ g = tag then some (st, t) else none
  | .chord _ _ _ _ _ _ => none

/-- A strand from the save area takes a slot: a loose strand performs the acquire of R201. -/
def State.putBack (s : State) (k : Nat) (t : Strand) : State :=
  (if t.loose then s.acquireAll (stationOf k) else s).seat k t

/-- Whether a strand may return to a station: a chord strand to that of its resident chord, a context's loose strand to a compute
station of its section, and firmware to a Bridge station (R13; log entry 19). -/
def State.mayReturn (s : State) (st from_ : Nat) (t : Strand) : Bool :=
  if t.loose then (if t.ctx = 64 then isBridge s.cfg st else s.inSection t.ctx st)
  else from_ == st && ((s.station st).chord.map fun c => c.live.contains t.tag).getD false

/-- SPLR: the strand of a tag returns once the slot is free, its context runs, and the slot's station is one that it may stand on.
A loose strand takes the slot that SPLR names even on another station than it left, whose STATION it then reads (log entry
19). -/
def State.restoreFor (s : State) (k n : Nat) (r : Req) : State :=
  if (s.slot k).isSome then s
  else
    match s.saved.findSome? (Saved.byTag r.b.toNat) with
    | none => (s.delReq n).deliverTo r.res 0
    | some (st, t) =>
      if (s.ctx t.ctx).suspended || !s.mayReturn (stationOf k) st t then s
      else
        let s : State := { s with saved := s.saved.filter fun v => (v.byTag r.b.toNat).isNone }
        ((s.putBack k t).delReq n).deliverTo r.res 1

/-- The oldest SPLS or SPLR for a slot. -/
def State.spillReq (s : State) (k : Nat) : Option (Nat × Req) :=
  s.reqs.find? fun e => (e.2.kind == .spls || e.2.kind == .splr) && e.2.a.toNat == k

/-- A chord strand that stands in a disabled slot leaves it for the save area (R299). -/
def State.sliceOut (s : State) (k : Nat) : State :=
  match s.takeOut k with
  | some (t, s) => { s with saved := s.saved ++ [.slot 0 (stationOf k) t false] }
  | none => s

/-- SLOT_SPILL (R292, R294): what SPLS and SPLR asked for, or what a disabled slot needs. -/
def execSlotSpill (slot : Nat) (s : State) : Out :=
  .next (match s.spillReq slot with
    | some (n, r) => if r.kind = .spls then s.spillFor slot n r else s.restoreFor slot n r
    | none =>
      match s.slot slot with
      | none => s
      | some t =>
        if (s.station (stationOf slot)).disabled.getLsbD (slotOf slot) && !t.loose && t.spillable then s.sliceOut slot else s)

/-! ### A whole chord (R293) -/

/-- A strand of a station's chord that is spilled alone. -/
def Saved.alone (st : Nat) : Saved → Option Strand
  | .slot _ x t fw => if x = st ∧ t.loose = false ∧ fw = false then some t else none
  | .chord _ _ _ _ _ _ => none

/-- The slots of a station that hold strands of its chord. -/
def State.chordSlots (s : State) (st : Nat) : List Nat :=
  (s.strands.filter fun e => stationOf e.1 == st && !e.2.loose).map (·.1)

/-- Saved entries go back ahead of those that have entered since. -/
def CopyEngine.join (a b : CopyEngine) : CopyEngine :=
  { b with
    entered := max a.entered b.entered
    queue := a.queue ++ b.queue
    handlerQ := a.handlerQ ++ b.handlerQ
    halted := if a.halted.isSome then a.halted else b.halted
    haltGrid := if a.halted.isSome then a.haltGrid else b.haltGrid
    frozen := if a.frozen.isSome then a.frozen else b.frozen
    frozenGrid := if a.frozen.isSome then a.frozenGrid else b.frozenGrid }

/-- Whether a request carries data of a station's copy engine for an entry. -/
def State.copyReq (s : State) (st : Nat) (r : Req) : Bool :=
  (match r.kind with
    | .copyRead _ => true
    | .copyWrite => true
    | _ => false) && r.station == st && (s.copyItems st).any fun i => i.n == r.age

/-- Whether the completion action of a drain of a station is not yet performed: on its way to its proof's home, or held there for its
generation (R178, R254). -/
def State.drainAction (s : State) (st : Nat) : Bool :=
  s.reqs.any fun e => e.2.kind == .proofPub && e.2.src == 2 && e.2.station == st

/-- Whether an access of such an entry is outside the package, whose answer the entry must see. -/
def State.copyAway (s : State) (st : Nat) : Bool :=
  s.reqs.any fun e => s.copyReq st e.2 && (match e.2.stage with
    | .remote => true
    | .hostOut _ => true
    | _ => false)

/-- Saving a station's chord with its strands and the station's engines, whose accesses that wait are made afresh; every clean copy is
discarded (R201, R293). -/
def State.saveChord (s : State) (st : Nat) (c : Chord) : State :=
  let x := (s.chordSlots st).foldl (fun (x : State × List (Nat × Strand)) k =>
    match x.1.takeOut k with
    | some (t, s) => (s, x.2 ++ [(slotOf k, t)])
    | none => x) (s, [])
  let s := x.1.dropReqs ((x.1.reqs.filter fun e => x.1.copyReq st e.2).map (·.1))
  let ts := x.2 ++ (s.saved.filterMap (Saved.alone st)).map fun t => (0, t)
  let S := s.station st
  let s : State := { s with
    saved := (s.saved.filter fun v => (v.alone st).isNone) ++ [.chord st { c with st := .spilled } ts
      { eng := S.eng, cpy := S.cpy } S.ways S.prot] }
  (s.modStation st fun S => { S with eng := {}, cpy := { entered := S.cpy.entered }, chord := none, same := [] }).acquireAll st

/-- Saving the first loose strand of a suspended context that stands on a station, or any of a station that leaves its section; when
none is left there, the station leaves (R354). -/
def State.saveLoose (s : State) (st : Nat) : State :=
  let S := s.station st
  match s.strands.find? fun e => stationOf e.1 == st && e.2.loose && decide (e.2.ctx < 64) &&
      ((s.ctx e.2.ctx).suspended || S.leaving) && e.2.spillable with
  | some (k, _) => s.sliceOut k
  | none => if !S.leaving then s else if s.mayLeave st then s.left st else s.releaseAll st

/-- CHORD_SPILL (R178, R201, R293 to R295, R354): for a rescue, a suspended context or a station that leaves its section, once every strand may be taken, no drain is
being written or has its action outstanding, no access of the copy engine is outside the package, and the write set is at its
homes; then the loose strands. SPILLFAIL (R398) has no condition in the rules, and a spill never fails (log entry 88). -/
def execChordSpill (station : Nat) (s : State) : Out :=
  .next (
    let S := s.station station
    match S.chord.filter fun c => c.st == .resident && (c.evict || S.leaving || ((s.gridOf c.grid).map fun g => (s.ctx g.ctx).suspended).getD false) with
    | none => s.saveLoose station
    | some c =>
      let ready := (s.chordSlots station).all fun k => ((s.slot k).map fun t => t.spillable).getD true
      if !ready || (S.eng.drain.isSome && S.eng.frozen.isNone) || s.drainAction station ||
          s.copyAway station then s
      else if !s.writesHeld station .ring s.nextAge 0 then s.releaseAll station
      else s.saveChord station c)

/-- What a chord's save image holds. -/
structure ChordImage where
  c : Chord
  ts : List (Nat × Strand)
  eng : Engines
  ways : Nat
  prot : Vector Word 16

/-- The image of a chord that waits for a station. -/
def Saved.image (st : Nat) : Saved → Option ChordImage
  | .slot _ _ _ _ => none
  | .chord x c ts eng ways prot => if x = st then some ⟨c, ts, eng, ways, prot⟩ else none

/-- The plate ways that were saved with a chord are written back (R291). -/
def State.putPlate (s : State) (st : Nat) (e : Engines) : State :=
  match e.plate with
  | none => s
  | some (cells, marks) =>
    let base := 2 ^ 52 + st * 2 ^ 23
    { s with
      mem := cells.foldl (fun m c => memSet m (base + c.1) c.2) (s.mem.filter fun c => !keyInPlate st c.1)
      poison := marks.foldl (fun m b => tblPut m (base / 64 + b.1) b.2) (s.poison.filter fun b => !keyInPlate st (b.1 * 64)) }

/-- A loose strand that was saved when its station left the section, and may return. -/
def State.looseDue (s : State) (st : Nat) : Option Strand :=
  s.saved.findSome? fun v => match v with
    | .slot _ x t fw =>
      if x = st ∧ t.loose = true ∧ fw = false ∧ t.ctx < 64 ∧ (s.ctx t.ctx).suspended = false ∧ s.inSection t.ctx st = true then some t else none
    | .chord _ _ _ _ _ _ => none

/-- Its return. -/
def State.looseBack (s : State) (st : Nat) : State :=
  match s.looseDue st with
  | none => s
  | some t =>
    let keep : Saved → Bool
      | .slot _ _ u _ => u.tag != t.tag
      | .chord _ _ _ _ _ _ => true
    ({ s with saved := s.saved.filter keep } : State).arrive st t

/-- CHORD_RESTORE (R201, R291, R293): a spilled chord returns to its station, when that is free and of its context's section and what
others wrote there is released, unless a rescue wants it. A loose strand saved with its station returns too. -/
def execChordRestore (station : Nat) (s : State) : Out :=
  .next (match s.saved.findSome? (Saved.image station) with
    | none => s.looseBack station
    | some i =>
      let S := s.station station
      let stopped := ((s.gridOf i.c.grid).map fun g => (s.ctx g.ctx).suspended).getD true
      let room := s.roomOf station
      let out := ((s.gridOf i.c.grid).map fun g => !s.inSection g.ctx station).getD true
      if i.c.evict || S.chord.isSome || S.testing || S.failed || S.leaving || stopped || out || decide (room.length < i.ts.length) then s
      else if !s.writesHeld station .ring s.nextAge 0 then s.releaseAll station
      else
        let s : State := { s with saved := s.saved.filter fun v => (v.image station).isNone }
        let s := (s.modStation station fun S => { S with
          chord := some { i.c with st := .resident }, eng := i.eng.eng, cpy := i.eng.cpy.join S.cpy, ways := i.ways, prot := i.prot, lastGrid := i.c.grid }).acquireAll station
        let s := s.putPlate station i.eng
        let s := (room.zip (i.ts.map (·.2))).foldl (fun s e => s.seat e.1 e.2) s
        (s.leaveDisabled station).tick)

/-! ### Time-slicing and thermal control (R299, R441) -/

/-- The oldest strand of a station's resident chord that is time-sliced out. -/
def State.slicedOut (s : State) (st : Nat) : Option Strand :=
  if ((s.station st).chord.map fun c => c.st == .resident).getD false then s.saved.findSome? (Saved.alone st) else none

/-- How long a strand counts as having run: one in CBAR longer than every other (R312). -/
def Strand.ranFor (t : Strand) : Nat :=
  match t.hold with
  | .cbar _ => t.ran + 2 ^ 40
  | _ => t.ran

/-- The slot whose strand has run longest, among those of a list. -/
def longest : List (Nat × Strand) → Option (Nat × Strand)
  | [] => none
  | e :: rest =>
    match longest rest with
    | none => some e
    | some x => if e.2.ranFor < x.2.ranFor then some x else some e

/-- A time-sliced strand returns to a slot. -/
def State.sliceIn (s : State) (k : Nat) (t : Strand) : State :=
  let s : State := { s with saved := s.saved.filter fun v => (v.alone (stationOf k)).map (·.tag) != some t.tag }
  s.seat k t

/-- TIMESLICE_ROTATE (R299, R310, R312): a strand that is out returns to a free enabled slot, or takes the place of the
strand that has run longest, once that has been in its slot for 4,096 cycles. -/
def execTimesliceRotate (station : Nat) (s : State) : Out :=
  .next (match s.slicedOut station with
    | none => s
    | some t =>
      if (s.ctx t.ctx).suspended then s
      else
        match s.freeSlotOf station with
        | some k => s.sliceIn k t
        | none =>
          match longest (s.strands.filter fun e => stationOf e.1 == station && !e.2.loose && e.2.spillable) with
          | none => s
          | some (k, u) => if u.ranFor < 4096 then s else (s.sliceOut k).sliceIn k t)

/-- The enabled slots of a station. -/
def Station.enabled (S : Station) : Nat := ((numsFrom 0 8).filter fun i => !S.disabled.getLsbD i).length

/-- THERMAL_SLOT_CHANGE (R299, R441): a slot of a station over its limit is disabled while another stays enabled, and its
strand leaves it: a loose strand for the cooler station, a chord strand for the save area. A slot is enabled again when
the station is below its limit. During a swap of firmware the settings stay (R419). -/
def execThermalSlotChange (slot : Nat) (disable : Bool) (cooler : Nat) (s : State) : Out :=
  .next (
    let st := stationOf slot
    let S := s.station st
    let i := slotOf slot
    if disable then
      let t? := s.slot slot
      let free := (t?.map fun t => t.spillable && (!t.loose || t.ctx == 64 || s.inSection t.ctx cooler)).getD true
      if s.fw.swap.isSome || !(S.hot || s.powerOver) || S.disabled.getLsbD i || decide (S.enabled < 2) || !free then s
      else
        let s := s.modStation st fun S => { S with disabled := S.disabled ||| BitVec.ofNat 8 (2 ^ i) }
        match t? with
        | none => s
        | some t =>
          if !t.loose then s.sliceOut slot
          else
            let mark := s.nextAge
            match s.takeOut slot with
            | none => s
            | some (u, s) =>
              let s := s.releaseAll st
              { s with transit := s.transit ++ [{ strand := u, dest := cooler, migrate := false, gva := 0, src := st, mark := mark }] }
    else if s.fw.swap.isSome || S.hot || s.powerOver then s
    else s.modStation st fun S => { S with disabled := S.disabled &&& ~~~(BitVec.ofNat 8 (2 ^ i)) })

/-- THERMAL_THRESHOLD (R441): a station's sensor is over its limit from 100 degrees until it reads less than 95; the package's power is
over its limit above `powerLimit`. -/
def execThermalThreshold (station : Nat) (reading : Reading) (s : State) : Out :=
  .next (match reading with
    | .celsius t => s.modStation station fun S => { S with hot := decide (100 ≤ t) || (S.hot && decide (95 ≤ t)) }
    | .watts w => { s with powerOver := decide (s.powerLimit < w) })

end Sys2Proof.Machine
end

