-- ==== Sys2Proof/Machine/WaitFor.lean ====
section
/-! DEFINITION. The wait-for table (R297), the rescue of courses (R296) and the detection of deadlock (R298). -/

namespace Sys2Proof.Machine

/-! ### Parties and waits (R297)

A party is a number: eight times what identifies it, plus its kind: 0 a strand by tag, 1 a matrix engine and 2 a copy engine
by station, 3 a guest packet by queue and sequence number, 4 a chord that is not yet dispatched by station, 5 a grid with
an unplaced course, 6 what no entry of the table stands for: an event that will come by itself. A party waits on conditions, each
with the parties that can end it; it is stuck when all of one condition's parties are. A party without conditions is not
waiting. -/

def pStrand (tag : Nat) : Nat := 8 * tag
def pEngine (st : Nat) : Nat := 8 * st + 1
def pCopy (st : Nat) : Nat := 8 * st + 2
def pPacket (gqn seq : Nat) : Nat := 8 * (gqn * 2 ^ 64 + seq) + 3
def pChord (st : Nat) : Nat := 8 * st + 4
def pGrid (g : Nat) : Nat := 8 * g + 5

def pFree : Nat := 6

/-- A list of parties, or the free one when there is none. -/
def orFree : List Nat → List Nat
  | [] => [pFree]
  | l => l

/-- A condition that nothing in the table has to end. -/
def freeCond : List (List Nat) := [[pFree]]

/-- Whether a grid declares a proof out and is not over. -/
def State.declaresOut (s : State) (pkg key : Nat) (g : Grid) : Bool :=
  (g.st == .accepted || g.st == .placing || g.st == .running || g.st == .completing) && pkg == s.cfg.pkg &&
  g.proofs.any fun e => !e.isIn && hKey e.handle == key && hPkg e.handle == s.cfg.pkg

/-- Whether a chord is placed and not yet dispatched. -/
def Chord.waits (c : Chord) : Bool :=
  match c.st with
  | .pending => true
  | .armed _ => true
  | .resident => false
  | .spilled => false
  | .ending => false
  | .ended => false

/-- The parties of a grid. -/
def State.gridParties (s : State) (gk : Nat) (g : Grid) : List Nat :=
  ((s.allStrands.filter fun t => t.grid == gk).map fun t => pStrand t.tag) ++
  (s.stations.flatMap fun e =>
    let mine := (e.2.chord.map fun c => c.grid == gk).getD false
    (if mine && (!e.2.eng.queue.isEmpty || !e.2.eng.handlerQ.isEmpty || e.2.eng.drain.isSome) then [pEngine e.1] else []) ++
    (if (e.2.cpy.queue ++ e.2.cpy.handlerQ).any fun i => i.grid == gk then [pCopy e.1] else []) ++
    (if mine && (e.2.chord.map Chord.waits).getD false then [pChord e.1] else [])) ++
  ((s.guest.sent.filter fun p => p.grid == gk).map fun p => pPacket p.gqn p.seq) ++
  (if g.placed < g.courses then [pGrid gk] else [])

/-- The parties that can end a wait on a proof. When no party of a grid that is not over declares it out, a launch to come, a shard
or a completion may publish it (log entry 20). -/
def State.proofCond (s : State) (h : Word) : List Nat :=
  match (s.grids.filter fun e => s.declaresOut (hPkg h) (hKey h) e.2).flatMap fun e => s.gridParties e.1 e.2 with
  | [] => [pFree]
  | l => l

/-- Every strand of a context, and its grids with courses to place, whose strands are still to come. -/
def State.ctxParties (s : State) (c : Nat) : List Nat :=
  ((s.allStrands.filter fun t => t.ctx == c).map fun t => pStrand t.tag) ++
    (s.grids.filter fun e => e.2.ctx == c && s.wantsPlace e.2).map fun e => pGrid e.1

/-- Whether a station's matrix engine has something to do, so that it can end a wait. -/
def Engine.busy (g : Engine) : Bool := !g.queue.isEmpty || !g.handlerQ.isEmpty || g.drain.isSome || g.loading.isSome

/-- The strands of a strand's chord, and its engine when it has entries. -/
def State.chordParties (s : State) (t : Strand) : List Nat :=
  match s.chordStation t.tag with
  | none => []
  | some st =>
    (if (s.station st).eng.busy then [pEngine st] else []) ++ (match (s.station st).chord with
      | some c => c.live.map pStrand
      | none => [])

/-- What can end a wait for a strand at a place of a grid: the strand, its chord before the dispatch, or the placement of its
course. One that has ended is named by none. -/
def State.standParty (s : State) (t : Strand) (p : Nat × Nat × Nat) (idx : Nat) : Nat :=
  match s.allStrands.find? fun u => u.standsAt t p idx with
  | some u => pStrand u.tag
  | none =>
    let course := if p.2.2 = t.stage then t.course else p.2.2
    match s.stations.find? fun e => (e.2.chord.map fun c => c.grid == t.grid && c.course == course && c.x.val == p.1 &&
        c.y.val == p.2.1 && c.waits).getD false with
    | some e => pChord e.1
    | none => if ((s.gridOf t.grid).map fun g => decide (g.placed ≤ course)).getD false then pGrid t.grid else pFree

/-- The partner of a channel (R297). -/
def State.partner (s : State) (t : Strand) (q : Fin 8) : Nat :=
  match t.ports[q] with
  | .channel c =>
    match c.peer with
    | some (u, _) => pStrand u
    | none =>
      match t.neighbour (chDir c) (chPartner c) with
      | none => pFree
      | some p => s.standParty t p (chPartner c)
  | .stream _ => pFree
  | .unbound => pFree

/-- A wait at a port. -/
def State.portCond (s : State) (t : Strand) (q : Fin 8) : List (List Nat) := [[s.partner t q]]

/-- The holders of reserved words of a slice: any of them frees a record that an LRW in the inbound queue waits for (R228). -/
def State.sliceHolders (s : State) (home : Nat) : List Nat :=
  (s.resv.filter fun e => keyHome e.1 == home).map fun e => pStrand e.2.holder

/-- What can end the wait for a result: the holder of an LRW's word, the strands of the context for an ENQ or DEQ, with the packets
that stand in a guest queue; any other result comes by itself (R297). -/
def State.resultCond (s : State) (n : Nat) (x : PRes) : List Nat :=
  if x.ready then [pFree]
  else
    match s.resv.find? fun e => e.2.waiters.any fun w => w.res == some n with
    | some e => [pStrand e.2.holder]
    | none =>
      match s.reqs.find? fun e => e.2.res == some n with
      | none => [pFree]
      | some (i, r) =>
        match r.kind, r.stage with
        | .lrw, .inbound l =>
          (match l.key.bind (tblGet s.resv) with
            | some h => [pStrand h.holder]
            | none => s.sliceHolders ((l.key.map keyHome).getD 1024))
        | _, .translated l =>
          if s.queueWaits.any fun e => e.2.contains i then
            s.ctxParties r.ctx ++ (if r.kind.isEnq && s.enqToGuest r then
              (s.guest.sent.filter fun p => p.desc == l).map fun p => pPacket p.gqn p.seq else [])
          else [pFree]
        | _, _ => [pFree]

/-- The conditions of a list of results: all of them are waited for. -/
def State.resultConds (s : State) (l : List (Nat × PRes)) : List (List Nat) :=
  match l with
  | [] => freeCond
  | l => l.map fun e => s.resultCond e.1 e.2

/-- Whether a result of a strand is for the register that UCAUSE's KIND and REG name; a shared register's may be a sibling's. -/
def State.resultFor (s : State) (t : Strand) (kind reg : Nat) (x : PRes) : Bool :=
  let mate := ((s.chordStation t.tag).bind fun st => (s.station st).chord.map fun c => c.tags.contains x.tag).getD false
  match x.dst with
  | .s r => kind == 1 && reg == r.code && (x.tag == t.tag || (Opnd.shared (.s r) && mate))
  | .v r => kind == 2 && reg == r.code && (x.tag == t.tag || (Opnd.shared (.v r) && mate))
  | .none => false

/-- The conditions of a strand that waits for a register. -/
def State.regConds (s : State) (t : Strand) (kind reg : Nat) : List (List Nat) :=
  s.resultConds (s.results.filter fun e => s.resultFor t kind reg e.2)

/-- The conditions of the engine queues, packets and stream words that QFENCE or PRPUB waits for. -/
def State.fenceConds (s : State) (t : Strand) (st : Nat) (m : BitVec 4) (cmark mmark rmark : Nat) : List (List Nat) :=
  (if m.getLsbD 0 && !s.copyDone st cmark then [[pCopy st]] else []) ++
  (if m.getLsbD 1 && !s.engDone st t mmark then [[pEngine st]] else []) ++
  (if m.getLsbD 2 && !s.guestDone st rmark then
    ((s.guest.sent.filter fun p => p.station == st && decide (p.id < rmark)).map fun p => [pPacket p.gqn p.seq]) else []) ++
  freeCond

/-- Whether a strand can end its own wait (R297). -/
def Strand.selfWakes (t : Strand) : Bool := t.timer.arm || (t.umask.getLsbD 0 && t.utvec != 0)

/-- The station of a strand that holds a slot. -/
def State.stationOfTag (s : State) (tag : Nat) : Nat := ((s.slotOfTag tag).map stationOf).getD 1024

/-- The strands of the station that holds a message back (R313); where it has none, one that comes. -/
def State.mailParties (s : State) (tag : Nat) : List Nat :=
  match s.stations.find? fun e => e.2.mheld.any fun m => m.1 == tag with
  | none => [pFree]
  | some e =>
    orFree <| ((s.strands.filter fun x => stationOf x.1 == e.1).map fun x => pStrand x.2.tag) ++ (e.2.runq.map fun t => pStrand t.tag) ++
      (match e.2.chord with
        | some c => if c.waits then [pChord e.1] else c.live.map pStrand
        | none => [])

/-- What a HELD strand waits for; nothing for a strand that is not HELD or whose wait is not entered: one at the pager (R290,
R297). -/
def State.strandConds (s : State) (t : Strand) : List (List Nat) :=
  let st := s.stationOfTag t.tag
  let conds : List (List Nat) := match t.hold with
    | .none => []
    | .source kind reg => (match portOfCode kind reg with
        | some q => s.portCond t q
        | none => s.regConds t kind reg)
    | .issue .plain => freeCond
    | .issue .results => s.resultConds (s.results.filter fun e => e.2.tag == t.tag && e.2.dst.own)
    | .issue (.reg kind reg) => s.regConds t kind reg
    | .issue .engine => [s.chordParties t]
    | .issue .copy => [pCopy st :: s.chordParties t]
    | .issue (.port q) => s.portCond t q
    | .release _ _ _ _ => freeCond
    | .proof n =>
      (match s.req n with
        | some r => if (match r.stage with | .replied _ _ => true | _ => false) then freeCond else [s.proofCond r.gva]
        | none => freeCond)
    | .prpub m c mm r _ _ _ => s.fenceConds t st m c mm r
    | .mldw l => if l.started then freeCond else [[pEngine st]]
    | .mwait _ => [[pEngine st]]
    | .qfence m c mm r => s.fenceConds t st m c mm r
    | .msend => [s.mailParties t.tag]
    | .sleep => [s.ctxParties t.ctx]
    | .cbar _ => [s.chordParties t]
    | .punbind q => s.portCond t q
    | .pskip q _ => s.portCond t q
    | .dtinv _ _ => freeCond
    | .fetch _ => []
  match conds with
  | [] => []
  | l => if t.selfWakes then freeCond else l

/-- Whether a grid's next course has room somewhere in its section. -/
def State.hasRoom (s : State) (g : Grid) : Bool := (s.placesOf g s.taken).isSome

/-- The entries of the table, and what can end no wait: frozen masters, whose one condition is empty (R368), and courses
that have no room. -/
def State.waitTable (s : State) : List WaitEntry :=
  (s.allStrands.filterMap fun t =>
    if t.frozen.isSome then some { who := pStrand t.tag, grid := t.grid, conds := [[]] }
    else
      match s.strandConds t with
      | [] => none
      | l => some { who := pStrand t.tag, grid := t.grid, conds := l }) ++
  (s.stations.flatMap fun e =>
    let g := (e.2.chord.map fun c => c.grid).getD 0
    (if e.2.eng.frozen.isSome then [({ who := pEngine e.1, grid := g, conds := [[]] } : WaitEntry)]
      else match e.2.eng.halted with
        | some t => [{ who := pEngine e.1, grid := g, conds := [[pStrand t]] }]
        | none => []) ++
    (if e.2.cpy.frozen.isSome then [({ who := pCopy e.1, grid := e.2.cpy.frozenGrid, conds := [[]] } : WaitEntry)]
      else match e.2.cpy.halted with
        | some t => [{ who := pCopy e.1, grid := e.2.cpy.haltGrid, conds := [[pStrand t]] }]
        | none => []) ++
    (match e.2.chord with
      | some c =>
        let conds := c.regs.filterMap fun r => (s.req r.1).map fun (q : Req) => s.proofCond q.gva
        if c.st == .pending && !conds.isEmpty then [({ who := pChord e.1, grid := c.grid, conds := conds } : WaitEntry)] else []
      | none => [])) ++
  (s.guest.sent.filterMap fun p =>
    if s.guest.st = .frozen then some { who := pPacket p.gqn p.seq, grid := p.grid, conds := [[]] }
    else match s.guest.pkts.find? fun x => x.gqn == p.gqn && x.st == .waiting with
    | none => none
    | some x =>
      if x.seq.toNat = p.seq then
        ((s.req x.req).map fun (q : Req) => s.proofCond q.gva).map fun c => { who := pPacket p.gqn p.seq, grid := p.grid, conds := [c] }
      else if s.guest.pkts.any fun y => y.gqn == p.gqn && y.seq.toNat == p.seq then none
      else some { who := pPacket p.gqn p.seq, grid := p.grid, conds := [[pPacket x.gqn x.seq.toNat]] }) ++
  (s.grids.filterMap fun e =>
    if e.2.st = .placing ∧ e.2.placed < e.2.courses ∧ s.hasRoom e.2 = false then
      let holders := s.stations.flatMap fun x =>
        if s.inSection e.2.ctx x.1 then
          (match x.2.chord with
            | some c =>
              if c.waits then [pChord x.1]
              else orFree (c.live.map pStrand ++ if x.2.eng.busy then [pEngine x.1] else [])
            | none => [])
        else []
      some { who := pGrid e.1, grid := e.1, conds := [holders] }
    else none)

/-- Whether an entry is stuck within a set of parties. -/
def WaitEntry.stuck (e : WaitEntry) (set : List Nat) : Bool := e.conds.any fun c => c.all fun p => set.contains p

/-- The largest set of entries in which every party that can end a wait is itself waiting in the set. -/
def stuckSet : Nat → List WaitEntry → List WaitEntry
  | 0, l => l
  | fuel + 1, l =>
    let set := l.map (·.who)
    let l' := l.filter fun e => e.stuck set
    if l'.length = l.length then l else stuckSet fuel l'

/-- Every grid of a list takes DEADLOCK. -/
def State.reportDeadlock (s : State) (die : Nat) (grids : List Nat) : State :=
  grids.foldl (fun s g => s.faultDeferred g 0x2B0 6 (8 * (256 * die + 15)) 0) s

/-- WAITFOR_WALK (R298): a set of entries that was stuck at the walker's last walk, and still is with each of them unchanged, is a
deadlock. -/
def execWaitforWalk (die : Nat) (s : State) : Out :=
  .next (
    if s.fw.swap.isSome then s else
    let table := s.waitTable
    let now := stuckSet (table.length + 1) table
    let w := s.walkers[(Fin.ofNat 4 die)]
    let both := now.filter fun e => w.last.contains e
    let dead := stuckSet (both.length + 1) both
    let grids := (dead.filter fun e => e.conds != [[]]).foldl (fun l e => addOnce l e.grid) []
    let s : State := { s with walkers := s.walkers.set (Fin.ofNat 4 die) { last := now, passes := w.passes + 1 } }
    s.reportDeadlock die grids)

/-! ### Rescue (R296) -/

/-- Whether a station could take a course once some chords have been spilled for it. -/
def State.takenFor (s : State) (free : List Nat) (st : Nat) : Bool :=
  let S := s.station st
  S.failed || S.testing || (!free.contains st && (S.chord.isSome || s.heldForRestore st))

/-- A grid's next course on one die; a pipeline's stages are placed together. -/
def State.placesOn (s : State) (die : Nat) (g : Grid) (taken : Nat → Bool) : Option (List (List Nat)) :=
  if g.stages = 1 then (s.findOn g.ctx (g.wm1.val + 1) (g.hm1.val + 1) [die] taken).map fun l => [l] else s.placesOf g taken

/-- Whether a chord strand of the context on the die is held waiting on a proof that a grid with courses to place declares out, or
on a channel, queue, reservation or barrier that only that grid's chords can end: it goes on when the course is placed, and by
nothing else, since every other party to the wait is itself waiting for that (R296). -/
def State.awaits (s : State) (die ctx gk : Nat) (g : Grid) : Bool :=
  let others := s.waitTable.filter fun e => e.who != pGrid gk
  let stuck (l : List WaitEntry) : List Nat := (stuckSet (l.length + 1) l).map (·.who)
  let dead := stuck others
  let behind := stuck ({ who := pGrid gk, grid := gk, conds := [[]] } :: others)
  s.strands.any fun e => dieOf (stationOf e.1) == die && e.2.ctx == ctx && !e.2.loose &&
    ((match e.2.hold with
      | .proof n => (match s.req n with
          | some r => (match r.stage with
              | .replied _ _ => false
              | _ => true) && s.declaresOut (hPkg r.gva) (hKey r.gva) g
          | none => false)
      | _ => false) ||
     (behind.contains (pStrand e.2.tag) && !dead.contains (pStrand e.2.tag)))

/-- The grid of a context whose unplaced course a resident chord waits for, by P_eff and acceptance. -/
def State.wanted (s : State) (die ctx : Nat) : Option (Nat × Grid) :=
  let l := s.grids.filter fun e => e.2.ctx == ctx && s.wantsPlace e.2 && (s.placesOn die e.2 s.taken).isNone && s.awaits die ctx e.1 e.2
  (firstByPeff (s.pEff die) (l.map fun e => (e.1, e.2, []))).map fun x => (x.1, x.2.1)

/-- Whether every strand of a station's chord is HELD by a condition of the table. -/
def State.chordHeld (s : State) (c : Chord) : Bool :=
  c.live.all fun tag => match s.findTag tag with
    | some t => !(s.strandConds t).isEmpty
    | none => false

/-- A course that a rescue may spill: its grid, index, stations and dispatch time. -/
structure Victim where
  grid : Nat
  course : Nat
  sts : List Nat
  at_ : Nat
  deriving DecidableEq, Repr

/-- The courses that a rescue may spill on a die, the youngest first. -/
def insertVictim (v : Victim) : List Victim → List Victim
  | [] => [v]
  | x :: t => if x.at_ < v.at_ then v :: x :: t else x :: insertVictim v t

/-- The courses of a context on a die whose chords are all resident and HELD; pipelines are never chosen. -/
def State.victims (s : State) (die ctx : Nat) : List Victim :=
  let heads := s.stations.filterMap fun e => e.2.chord.bind fun c =>
    if dieOf e.1 = die ∧ c.x.val = 0 ∧ c.y.val = 0 then some (c.grid, c.course) else none
  let vs := heads.filterMap fun h =>
    match s.gridOf h.1 with
    | none => none
    | some g =>
      let mine := s.stations.filter fun e => (e.2.chord.map fun c => c.grid == h.1 && c.course == h.2).getD false
      let ok := g.ctx == ctx && g.stages == 1 && mine.length == (g.hm1.val + 1) * (g.wm1.val + 1) &&
        mine.all fun e => match e.2.chord with
          | some c => c.st == .resident && s.chordHeld c
          | none => false
      if ok then some ({ grid := h.1, course := h.2, sts := mine.map (·.1),
                         at_ := mine.foldl (fun m e => max m ((e.2.chord.map (·.dispatched)).getD 0)) 0 } : Victim) else none
  vs.foldr insertVictim []

/-- The stations to spill: the fewest of the youngest courses that make room. -/
def State.rescueSet (s : State) (die : Nat) (g : Grid) : List Victim → List Nat → Option (List Nat)
  | [], _ => none
  | v :: t, acc =>
    let acc := acc ++ v.sts
    if (s.placesOn die g (s.takenFor acc)).isSome then some acc else s.rescueSet die g t acc

/-- The chords of some stations are to be spilled. -/
def State.evict (s : State) (sts : List Nat) : State :=
  sts.foldl (fun s st => s.modStation st fun S => { S with chord := S.chord.map fun c => { c with evict := true } }) s

/-- No chord of a die is wanted by a rescue any longer. -/
def State.unevict (s : State) (die : Nat) : State :=
  { s with
    stations := s.stations.map fun e =>
      if dieOf e.1 = die then (e.1, { e.2 with chord := e.2.chord.map fun c => { c with evict := false } }) else e
    saved := s.saved.map fun v => match v with
      | .slot a b t c => .slot a b t c
      | .chord st c ts e w p => .chord st (if dieOf st = die then { c with evict := false } else c) ts e w p }

/-- The stations of a die whose spilled chords a rescue holds back. -/
def State.evicted (s : State) (die : Nat) : List Nat :=
  s.saved.filterMap fun v => match v with
    | .slot _ _ _ _ => none
    | .chord st c _ _ _ _ => if dieOf st = die ∧ c.evict = true then some st else none

/-- A launch unit's memory. -/
def State.setRescue (s : State) (die : Nat) (r : Rescue) : State := { s with rescue := s.rescue.set (Fin.ofNat 4 die) r }

/-- A rescue in progress: when the spills are done, the course is placed. -/
def State.rescueGoesOn (s : State) (die gk : Nat) : State :=
  let r := s.rescue[(Fin.ofNat 4 die)]
  let finish (s : State) : State := (s.unevict die).setRescue die { r with target := none }
  let spilling := s.stations.any fun e => dieOf e.1 == die && (e.2.chord.map (·.evict)).getD false
  if spilling then s
  else
    match s.gridOf gk with
    | none => finish s
    | some g =>
      if !s.wantsPlace g then finish s
      else
        match s.placesOn die g (s.takenFor (s.evicted die)) with
        | none => finish s
        | some rects =>
          if s.restoreFirst rects then s else
          let s' := s.placeGrid gk g (s.pEff die g) rects
          if ((s'.gridOf gk).map (·.placed)).getD 0 = g.placed then s' else finish s'

/-- RESCUE_CHECK (R296): the contexts in want, and for the first that was in want at the last check too, the rescue. -/
def execRescueCheck (die : Nat) (s : State) : Out :=
  .next (
    let r := s.rescue[(Fin.ofNat 4 die)]
    match r.target with
    | some gk => s.rescueGoesOn die gk
    | none =>
      let due := (numsFrom 0 64).filter fun c => (s.wanted die c).isSome
      let s := s.setRescue die { r with seen := due.foldl (fun m c => m + 2 ^ c) 0 }
      let rescue? := due.findSome? fun c =>
        if r.seen.testBit c then
          (s.wanted die c).bind fun e => (s.rescueSet die e.2 (s.victims die c) []).map fun sts => (e.1, sts)
        else none
      match rescue? with
      | none => s
      | some (gk, sts) =>
        let r' := s.rescue[(Fin.ofNat 4 die)]
        (s.evict sts).setRescue die { r' with target := some gk })

end Sys2Proof.Machine
end

