-- ==== Sys2Proof/Machine/Guest.lean ====
section
/-! DEFINITION. The guest: its packets, its parking, its translations and coherent requests, and its reset (R213, R267 to
R271, R300, R372 to R374, R407 to R410, R436). -/

namespace Sys2Proof.Machine

/-! ### Messages -/

/-- AUX of a record about a packet (R400). -/
def guestAux (gqn : Nat) (seq : Word) : Word := BitVec.ofNat 64 (gqn * 2 ^ 32 + seq.toNat % 2 ^ 32)

/-- A message from the guest: while its reset is under way it is a protocol violation (R410); a frozen guest is answered nothing
(R368, R409). -/
def State.fromGuest (s : State) (aux : Word) (f : State → State) : State :=
  match s.guest.st with
  | .absent => s
  | .offline => s
  | .frozen => s
  | .resetting => s.freezeGuest 0x339 0 aux
  | .online => f s

/-- A protocol violation (R271, R300, R408). -/
def State.violation (s : State) (aux : Word) (addr : Word := 0) : State := s.freezeGuest 0x339 addr aux

/-- A message to the guest. -/
def State.tell (s : State) (m : ToGuest) : State := { s with guest := { s.guest with out := s.guest.out ++ [m] } }

/-- The context that owns a guest queue. -/
def State.queueOwner (s : State) (gqn : Nat) : Option Nat := (s.ctxs.find? fun e => (tblGet e.2.guestQueues gqn).isSome).map (·.1)

/-! ### Packets (R267 to R271) -/

/-- A packet's bytes: words and flags. -/
def pktWord (b : BitVec 512) (off : Nat) : Word := b.extractLsb' (8 * off) 64
def pktPub (b : BitVec 512) : Bool := b.getLsbD 16
def pktWait (b : BitVec 512) : Bool := b.getLsbD 17

/-- The checks of R270 that need no home: the detail of class 8 that a packet fails with. The rules give VER and the reserved
FLAGS bits no code; they take BADARG, as a reserved bit of DONEC does (log entry 85). -/
def packetBad (c : CfgTable) (b : BitVec 512) : Option Nat :=
  if (b.extractLsb' 24 8).toNat ≠ 1 ∨ (b.extractLsb' 18 6).toNat ≠ 0 ∨ bits (pktWord b 16) 63 16 ≠ 0 then some 4
  else
    match if pktPub b then explicitBad c (pktWord b 8) else none with
    | some d => some d
    | none => if pktWait b then explicitBad c (pktWord b 24) else none

/-- Whether a packet's grid has ended; of a grid of another package, its homes here have been told. -/
def State.gridGone (s : State) (gk : Nat) : Bool :=
  if 2 ^ 32 ≤ gk then s.awayEnded.contains gk else
  match s.gridOf gk with
  | none => true
  | some g => g.st == .ending || g.st == .faulted

/-- A packet that the guest returned and that is not delivered again yet, with the bytes it was delivered with (R300). -/
def Guest.kept (g : Guest) (e : GSent) : Option Pkt := g.returned.find? fun p => p.gqn == e.gqn && p.seq.toNat == e.seq

/-- Where a guest queue's descriptor stands: that of the packets under way, or the one the front end created (R265). -/
def State.guestDesc (s : State) (gqn : Nat) : Option Loc :=
  match s.guest.sent.find? fun e => e.gqn == gqn && !s.guest.delivered e && (s.guest.kept e).isNone with
  | some e => some e.desc
  | none => (s.ctxs.findSome? fun e => tblGet e.2.guestQueues gqn).map (Loc.lp6 0)

/-- The packet at a queue's head as its slot gives it, where the descriptor was rewritten (R265): its grid is in CTXTAG. -/
def State.taggedPacket (s : State) (gqn : Nat) (d : Loc) (q : QDesc) : Option GSent :=
  match s.translate { ctx := bits q.ctl 60 55, world := bit q.ctl 61 } (q.slot q.head) .read with
  | .ok l _ =>
    let tag := s.homeNat (l.plus 4) 4
    some { gqn := gqn, seq := q.head.toNat, grid := gridKey (tag % 64) (BitVec.ofNat 16 (tag / 65536)), ctx := tag % 64,
           world := tag / 64 % 2 = 1, station := 1024, id := 0, desc := d }
  | .notPresent => none
  | .fault _ => none
  | .refused _ => none

/-- The packet a queue delivers next: the first of those returned, or the one at HEAD of its descriptor as it now stands (R265,
R300). -/
def State.nextPacket (s : State) (gqn : Nat) : Option GSent :=
  match s.guest.sent.find? fun e => e.gqn == gqn && (s.guest.kept e).isSome with
  | some e => some e
  | none =>
    match s.guestDesc gqn with
    | none => none
    | some d =>
      let q := s.qdesc d
      if q.empty || !q.valid || !q.guestq then none
      else
        match s.guest.sent.find? fun e => e.gqn == gqn && e.desc == d && e.seq == q.head.toNat with
        | some e => if s.guest.delivered e then none else some e
        | none => s.taggedPacket gqn d q

/-- A packet is tracked from its ENQ on, and one that a rewritten descriptor names from here on. -/
def State.track (s : State) (e : GSent) : State :=
  if s.guest.sent.contains e then s else { s with guest := { s.guest with sent := s.guest.sent ++ [e] } }

/-- The dequeue of a packet at the head, which lets waiting ENQs go on (R266). -/
def State.dequeue (s : State) (e : GSent) : State :=
  if (s.guest.kept e).isSome then s
  else
    let s := s.setHead e.desc (BitVec.ofNat 64 (e.seq + 1))
    let key := e.desc.key.getD 0
    s.serveQueue key (((tblGet s.queueWaits key).getD []).length + 1)

/-- The interface as it reads a slot of a queue: with the owner's rights (R266). -/
def State.guestUnit (s : State) (e : GSent) : UWho :=
  let q := s.qdesc e.desc
  { who := { ctx := bits q.ctl 60 55, world := bit q.ctl 61 }, station := 0, own := 2 ^ 80 + e.gqn }

/-- A packet's bytes and whether they are poisoned: those it was returned with, or its slot's, read as a request of its own, which
the slot access of an ENQ in progress delays (R266, R300). -/
def State.packetBytes (s : State) (e : GSent) : URes (BitVec 512 × Bool) :=
  match s.guest.kept e with
  | some p => .ok (p.bytes, false) s
  | none =>
    if s.slotBusy (e.desc.key.getD 0) s.nextId then .wait id
    else
      let q := s.qdesc e.desc
      let u := s.guestUnit e
      (s.unitPiece u (q.slot (BitVec.ofNat 64 e.seq)) 64).andThen fun x s => .ok (BitVec.ofNat 512 (ofBytes x.1), x.2.isSome) (s.unitEnd u.own)

/-- A packet is final by a fault: its grid takes the code, in its own package (R269). -/
def State.packetFault (s : State) (e : GSent) (code : Cause) : State :=
  let s := s.packetFinal e code
  if e.from_.isSome then s else s.faultGrid e.grid code 1 4 0 0 0 (guestAux e.gqn (BitVec.ofNat 64 e.seq))

/-- A packet that fails: it is dequeued without delivery, and its grid takes a code. The pending TAKE stays for the packet behind
it: the rule does not say that a packet which is not delivered uses it up (log entry 86). -/
def State.failPacket (s : State) (e : GSent) (code : Cause) : State :=
  ((s.dequeue e).dropReqs ((s.guest.pkts.filter fun p => p.gqn == e.gqn && p.seq.toNat == e.seq && p.st == .waiting).map (·.req))).packetFault
    e code

/-- Whether a TAKE of the queue is pending and a packet more can be tracked (R268). -/
def Guest.mayDeliver (g : Guest) (gqn : Nat) : Bool :=
  g.takes.contains gqn && decide ((g.pkts.filter fun p => p.st == .delivered).length < 256)

/-- Delivery of a packet to a TAKE, while fewer than 256 are tracked. -/
def State.deliverPacket (s : State) (e : GSent) (b : BitVec 512) : State :=
  let seq : Word := BitVec.ofNat 64 e.seq
  if !s.guest.mayDeliver e.gqn then s
  else
    let s := s.dequeue e
    let mine (p : Pkt) : Bool := p.gqn == e.gqn && p.seq == seq
    let s := s.dropReqs ((s.guest.pkts.filter fun p => mine p && p.st == .waiting).map (·.req))
    let g := s.guest
    { s with guest := { g with
        takes := g.takes.erase e.gqn
        pkts := (g.pkts.filter fun p => !mine p) ++ [{ gqn := e.gqn, seq := seq, bytes := b, st := .delivered }]
        returned := g.returned.filter fun p => !mine p
        out := g.out ++ [.packet e.gqn seq b] } }

/-- The registration of a packet's wait (R269). -/
def State.waitPacket (s : State) (e : GSent) (b : BitVec 512) : State :=
  let h := pktWord b 24
  let id := s.nextId
  let r : Req := { kind := .proofWait, src := 7, gva := h, grid := e.grid, ctx := e.ctx, world := e.world, station := e.station,
                   slot := 8 * e.station, age := e.id }
  let s := if hPkg h = s.cfg.pkg then s.addReq r else s.addAway r
  { s with guest := { s.guest with
      pkts := s.guest.pkts ++ [{ gqn := e.gqn, seq := BitVec.ofNat 64 e.seq, bytes := b, st := .waiting, req := id }] } }

/-- A packet's slot that cannot be read: a refusal freezes the guest, and anything else fails the packet (R266, R368). -/
def State.slotFails (s : State) (e : GSent) (code : Cause) (addr : Word) : State :=
  let s := s.unitEnd (s.guestUnit e).own
  let c := causeOf (code.toNat / 64) 7 (code.toNat % 8)
  if code.toNat / 64 = 5 then s.freezeGuest c addr (guestAux e.gqn (BitVec.ofNat 64 e.seq)) else s.failPacket e (if code.toNat / 64 = 6 then c else code)

/-- The next packet of a queue with a pending TAKE, as its slot gives it now: one that declares a wait registers it, by its handle
alone, unless it has `waited` already; any other is dequeued, checked and delivered (R269, R270). -/
def State.takePacket (s : State) (e : GSent) (waited : Bool) : State × Bool :=
  match s.packetBytes e with
  | .wait f => (f s, false)
  | .fail code a => (s.slotFails e code a, true)
  | .ok (b, bad) s =>
    let s := s.track e
    if (s.guest.kept e).isSome then (s.deliverPacket e b, true)
    else if bad then (s.failPacket e 0x1F8, true)
    else if pktWait b && !waited then
      match explicitBad s.cfg (pktWord b 24) with
      | some det => (s.failPacket e (proofCode 7 det), true)
      | none => (s.waitPacket e b, false)
    else
      match packetBad s.cfg b with
      | some det => (s.failPacket e (proofCode 7 det), true)
      | none => (s.deliverPacket e b, true)

/-- A queue's packets, as far as they can go (R269), behind a slot access in progress (R266): a packet of an ended grid is discarded at the head, of an OFFLINE guest too
(R410); one that waits goes on when its proof is published, and a TAKE that is pending takes the next. Packets of a context of the
other world are not served (R351; log entry 77). -/
def State.guestServe (gqn : Nat) : Nat → State → State
  | 0, s => s
  | fuel + 1, s =>
    if s.guest.st ≠ .online ∧ s.guest.st ≠ .offline then s
    else
      match s.nextPacket gqn with
      | none => s
      | some e =>
        match s.recallDescs [e] with
        | some s' => s'
        | none =>
        if (s.guest.kept e).isNone && s.slotBusy (e.desc.key.getD 0) s.nextId then s
        else if s.gridGone e.grid then
          let reqs := (s.guest.pkts.filter fun p => p.gqn == e.gqn && p.seq.toNat == e.seq && p.st == .waiting).map (·.req)
          State.guestServe gqn fuel (((s.dequeue e).dropReqs reqs).packetFinal e)
        else if s.guest.st ≠ .online ∨ (s.ctx e.ctx).suspended ∨ e.world ≠ s.cfg.guestWorld then s
        else
          match s.guest.pkts.find? fun p => p.gqn == e.gqn && p.seq.toNat == e.seq with
          | some p =>
            match (s.req p.req).map fun (r : Req) => r.stage with
            | some (.replied true _) =>
              if !s.guest.mayDeliver gqn then s
              else
                let r := s.takePacket e true
                if r.2 then State.guestServe gqn fuel r.1 else r.1
            | some (.replied false code) => State.guestServe gqn fuel (s.failPacket e code)
            | _ => s
          | none =>
            if !s.guest.mayDeliver gqn then s
            else
              let r := s.takePacket e false
              if r.2 then State.guestServe gqn fuel r.1 else r.1

/-- Every queue with a pending TAKE, after a packet has become final. -/
def State.guestServeAll (s : State) : State :=
  (s.guest.takes.foldl (fun l q => addOnce l q) []).foldl (fun s q => State.guestServe q (s.guest.sent.length + 1) s) s

/-- GUEST_TAKE (R268, R269, R300). -/
def execGuestTake (gqn : Nat) (s : State) : Out :=
  .next (s.fromGuest (guestAux gqn 0) fun s =>
    if ((s.queueOwner gqn).map fun c => (s.ctx c).parked).getD false then s.violation (guestAux gqn 0)
    else
      let s : State := { s with guest := { s.guest with takes := s.guest.takes ++ [gqn] } }
      State.guestServe gqn (s.guest.sent.length + 1) s)

/-- GUEST_WAITH_SATISFIED (R269): the interface goes on with a queue: a WAITING packet whose wait is answered, or a TAKE that
is pending. -/
def execGuestWaithSatisfied (gqn : Nat) (s : State) : Out := .next (State.guestServe gqn (s.guest.sent.length + 1) s)

/-- An answer about a delivered packet: one of an ended grid that was cancelled is accepted and ignored; one for a packet
that is not delivered, or of a parked context, is a violation (R269, R271, R300). -/
def State.answered (s : State) (gqn : Nat) (seq : Word) (f : GSent → Pkt → State → State) : State :=
  s.fromGuest (guestAux gqn seq) fun s =>
    let g := s.guest
    if g.ignored.contains (gqn, seq) then { s with guest := { g with ignored := g.ignored.erase (gqn, seq) } }
    else
      match g.pkts.find? fun p => p.gqn == gqn && p.seq == seq && p.st == .delivered,
          g.sent.find? fun e => e.gqn == gqn && e.seq == seq.toNat with
      | some p, some e =>
        if (s.ctx e.ctx).parked then s.violation (guestAux gqn seq)
        else
          match s.recallDescs [e] with
          | some s' => s'
          | none => f e p s
      | _, _ => s.violation (guestAux gqn seq)

/-- GUEST_DONE (R269, R271): the packet is complete, and a PUB packet's proof is published for its grid. -/
def execGuestDone (gqn : Nat) (seq : Word) (s : State) : Out :=
  .next (s.answered gqn seq fun e p s =>
    let s := s.packetFinal e (tell := !pktPub p.bytes)
    let s := if !pktPub p.bytes then s
      else
        let h := pktWord p.bytes 8
        let r : Req := { kind := .proofPub, src := 7, gva := h, b := pktWord p.bytes 16, grid := e.grid, ctx := e.ctx, world := e.world,
                         station := e.station, slot := 8 * e.station, age := e.id, back := e.from_ }
        s.addReq r
    s.guestServeAll)

/-- GUEST_FAULT (R408): the grid takes the class and detail with source guest; classes 0, 12 and 15 are a violation. -/
def execGuestFault (gqn : Nat) (seq : Word) (cause : Cause) (s : State) : Out :=
  .next (s.answered gqn seq fun e _ s =>
    let cls := cause.toNat / 64
    if cls = 0 ∨ cls = 12 ∨ cls = 15 then s.violation (guestAux gqn seq)
    else (s.packetFault e (causeOf cls 7 (cause.toNat % 8))).guestServeAll)

/-- GUEST_RETURN (R300): a delivered packet of a context that is being pre-empted goes back ahead of those behind it. -/
def execGuestReturn (gqn : Nat) (seq : Word) (s : State) : Out :=
  .next (s.answered gqn seq fun e p s =>
    if !s.guest.preempting.contains e.ctx then s.violation (guestAux gqn seq)
    else
      { s with guest := { s.guest with pkts := s.guest.pkts.filter fun x => x != p, returned := s.guest.returned ++ [p] } })

/-! ### Parking (R300) -/

/-- PREEMPT: the registrations of the context's WAITING packets are removed. Without a guest that holds anything the context
is parked at once. -/
def State.preempt (s : State) (c : Nat) : State :=
  if s.guest.st ≠ .online ∧ s.guest.st ≠ .frozen then s.modCtx c fun x => { x with parked := true }
  else
    let own (p : Pkt) : Bool := p.st == .waiting && s.guest.sent.any fun e => e.gqn == p.gqn && e.seq == p.seq.toNat && e.ctx == c
    let s := s.dropReqs ((s.guest.pkts.filter own).map (·.req))
    { s with guest := { s.guest with
        pkts := s.guest.pkts.filter fun p => !own p
        preempting := addOnce s.guest.preempting c
        out := s.guest.out ++ [.preempt c] } }

/-- RESUME. -/
def State.unpark (s : State) (c : Nat) : State :=
  let s := s.modCtx c fun x => { x with parked := false }
  if s.guest.st = .online ∨ s.guest.st = .frozen then s.tell (.resume c) else s

/-- PARKED (R300): accepted once every delivered packet of the context is answered. -/
def execParked (ctx : Nat) (s : State) : Out :=
  .next (s.fromGuest 0 fun s =>
    let holds := s.guest.pkts.any fun p => p.st == .delivered && s.guest.sent.any fun e => e.gqn == p.gqn && e.seq == p.seq.toNat && e.ctx == ctx
    if !s.guest.preempting.contains ctx || holds then s
    else
      ({ s with guest := { s.guest with preempting := s.guest.preempting.erase ctx } } : State).modCtx ctx fun x => { x with parked := true })

/-- PARKLATE (R300): the deadline passes without PARKED. -/
def execParklate (ctx : Nat) (s : State) : Out :=
  .next (if s.guest.preempting.contains ctx && s.guest.st == .online then s.freezeGuest 0x338 0 0 else s)

/-! ### Translations and coherent requests (R372 to R374) -/

/-- Whether a context of the guest's world holds a packet in DELIVERED state. -/
def State.guestMay (s : State) (c : Nat) : Bool :=
  (s.ctxWho c).world == s.cfg.guestWorld &&
  s.guest.pkts.any fun p => p.st == .delivered && s.guest.sent.any fun e => e.gqn == p.gqn && e.seq == p.seq.toNat && e.ctx == c

/-- TRQ (R372): the owning die translates it like any request; TRS follows when it succeeds. -/
def execTrq (ctx : Nat) (gva : Word) (write : Bool) (s : State) : Out :=
  .next (s.fromGuest 0 fun s =>
    if !s.guestMay ctx || !gvaOk s.cfg gva || gvaPkg gva != s.cfg.pkg then s.tell (.trsStatus (gvaPage gva) true)
    else
      s.addReq { kind := .trq, src := 7, ctx := ctx, world := s.cfg.guestWorld, gva := gva, b := if write then 1 else 0,
                 station := gvaDie gva * 256, slot := gvaDie gva * 2048 })

/-- INVACK (R374): it answers its INV while the guest is frozen too, and in a reset no INV is left to answer. -/
def execInvack (inv : Nat) (s : State) : Out :=
  .next { s with guest := { s.guest with invs := s.guest.invs.filter fun i => i.id != inv } }

/-- INVLATE (R374): the guest is frozen, and what waits for the INVACK goes on. -/
def execInvlate (inv : Nat) (s : State) : Out :=
  .next (if s.guest.invs.any fun i => i.id == inv then
      ({ s with guest := { s.guest with invs := s.guest.invs.filter fun i => i.id != inv } } : State).freezeGuest 0x33A 0 0
    else s)

/-- The location of a guest-port address (R372, R360). -/
def guestLoc (a : Word) : Option (Nat × Nat × Loc) :=
  let die := bits a 51 50
  let off := bits a 15 0
  match bits a 49 48 with
  | 1 =>
    let st := stationAt die (bits a 43 40) (bits a 39 36)
    let o := bits a 21 16 * 2 ^ 16 + off
    some (die, 1, if bit a 22 then .shared st o else .plate st o)
  | 2 => some (die, 2, .lp6 die (bits a 47 16 * 2 ^ 16 + off))
  | _ => none

/-- The access of a request class, when it needs a right, and whether the class is one of R373's. -/
def guestNeeds : GuestClass → Option Access
  | .rdCurr => some .read
  | .rdShared => some .read
  | .rdOwn => some .write
  | .rdOwnNoData => some .write
  | .itoMWr => some .write
  | .wrCur => some .write
  | .dirtyEvict => some .write
  | .cleanEvict => none
  | .cleanEvictNoData => none
  | .cacheFlushed => none
  | .other => none

/-- Whether a directory entry gives a right. -/
def DirEntry.gives (e : DirEntry) : Option Access → Bool
  | some .read => e.r
  | some .write => e.w
  | _ => true

/-- A line the guest's cache holds with ownership, holds without it, or holds no longer (R213). -/
def State.guestOwns (s : State) (line : Nat) : State :=
  { s with guest := { s.guest with owned := addOnce s.guest.owned line, shared := s.guest.shared.filter fun x => x != line } }
def State.guestShares (s : State) (line : Nat) : State :=
  { s with guest := { s.guest with owned := s.guest.owned.filter fun x => x != line, shared := addOnce s.guest.shared line } }
def State.guestDrops (s : State) (line : Nat) : State :=
  { s with guest := { s.guest with
      owned := s.guest.owned.filter fun x => x != line, shared := s.guest.shared.filter fun x => x != line } }

/-- A whole line that the guest writes, held when its home accepts it (R213). -/
def State.guestPut (s : State) (l : Loc) (data : BitVec 512) : State :=
  ((s.writeBlock l ((bytesOf 64 data.toNat).map fun b => (true, b))).1).tick

/-- Performing a coherent request on the line at a location (R213, R373). -/
def State.coherent (s : State) (cls : GuestClass) (l : Loc) (data : BitVec 512) : State :=
  let line := l.key.getD 0 / 64
  let value : ToGuest := .data (BitVec.ofNat 512 (s.homeNat l 64)) (s.readPoison l 64).isSome
  match cls with
  | .rdCurr => s.tell value
  | .rdShared => (s.tell value).guestShares line
  | .rdOwn => (s.tell value).guestOwns line
  | .rdOwnNoData => s.guestOwns line
  | .itoMWr => s.guestPut l data
  | .wrCur => s.guestPut l data
  | .dirtyEvict => (s.guestPut l data).guestDrops line
  | .cleanEvict => s.guestDrops line
  | .cleanEvictNoData => s.guestDrops line
  | .cacheFlushed => { s with guest := { s.guest with owned := [], shared := [] } }
  | .other => s

/-- The line of a location. -/
def Loc.line : Loc → Loc
  | .lp6 d pa => .lp6 d (pa / 64 * 64)
  | .plate st o => .plate st (o / 64 * 64)
  | .shared st o => .shared st (o / 64 * 64)
  | .pcie x => .pcie x

/-- GUEST_COHERENT_REQUEST (R213, R365, R371, R373, R374): the directory's entries, those of an INV not yet answered among
them, then the region table with GUEST = 1, then the firewall, which drops what it does not pass. A frozen guest's requests are
performed as refusals (R368), so nothing is done. -/
def execGuestCoherentRequest (cls : GuestClass) (addr : Word) (data : BitVec 512) (s : State) : Out :=
  .next (s.fromGuest 0 fun s =>
    if cls = .other then s.violation 0
    else if cls = .cacheFlushed then s.coherent cls (.pcie 0) data
    else
      let frame := addr &&& 0xFFFFFFFFFFFF0000#64
      let es := (s.guest.dir ++ s.guest.invs.flatMap (·.old)).filter fun e => e.frame == frame
      match guestLoc addr, es with
      | some (die, kind, l), _ :: _ =>
        let live := es.filter fun e => !(s.ctx e.ctx).parked
        if live.isEmpty then s.violation 0 frame
        else
          let a := guestNeeds cls
          let who (e : DirEntry) : Who := { ctx := e.ctx, world := s.cfg.guestWorld, guest := true }
          match live.find? fun e => e.gives a && (s.die die).regionHas (who e) (a.getD .locate) kind (bits addr 47 16) with
          | none => s.freezeGuest 0x33B frame 0
          | some e =>
            if !s.fwPass (who e) 0 die (fun _ => l.line.home die) then s.freezeGuest 0x2F0 frame 0
            else
              (s.noteGvaOor e.ctx (BitVec.ofNat 64 (e.page * 2 ^ 16 + bits addr 15 6 * 64)) l.line 64).coherent cls l.line data
      | _, _ => s.freezeGuest 0x33B frame 0)

/-- What a snoop leaves in the guest's cache (R373). -/
def State.snooped (s : State) (line : Nat) : Snoop → State
  | .data => if s.guest.owned.contains line then s.guestShares line else s
  | .inv => s.guestDrops line
  | .cur => s

/-- GUEST_SNOOP_RESPONSE (R213, R373): the guest answers a snoop, with the line's data if it changed it. -/
def execGuestSnoopResponse (snoop : Nat) (reply : SnoopReply) (s : State) : Out :=
  .next (match s.guest.snoops.find? fun p => p.1 == snoop with
    | none => s
    | some (_, line, kind) =>
      let s : State := { s with guest := { s.guest with snoops := s.guest.snoops.filter fun p => p.1 != snoop } }
      let s := match reply with
        | .noData => s
        | .data d => s.guestPut (keyLoc (line * 64)) d
      s.snooped line kind)

/-! ### Reset and loss of the link (R406, R410, R436) -/

/-- A guest reset, steps 1 to 3 of R410. Nothing of a context that is being pre-empted then remains in the guest, and a
TRQ that is outstanding is answered after the reset (DEDUCED; log entry 21). -/
def State.guestReset (s : State) (cause : Cause) : State :=
  let s := (s.guest.sent.filter s.guest.delivered).foldl (fun s e =>
    s.packetFault e 0x33D) s
  let s := s.guest.preempting.foldl (fun s c => s.modCtx c fun x => { x with parked := true }) s
  let g := s.guest
  { s with guest := { g with
      st := .resetting, lastCause := cause, resets := g.resets + 1, takes := [], ignored := [], dir := [], invs := [], owned := [],
      shared := [], snoops := [], preempting := [] } }

/-- GUEST_RESET (R410): GCTL.RESET, which restores cut rails first. -/
def execGuestReset (s : State) : Out :=
  .next (if s.guest.st = .frozen ∨ s.guest.st = .online ∨ s.guest.st = .offline then
      ({ s with guest := { s.guest with railsCut := false } } : State).guestReset 0x33D
    else s)

/-- READY (R410): the guest is ONLINE, and is told of every queue that holds packets; at any other time it is a violation. -/
def execReady (s : State) : Out :=
  .next (match s.guest.st with
    | .resetting =>
      if s.guest.railsCut then s
      else
        let s : State := { s with guest := { s.guest with st := .online } }
        let queues := s.guest.sent.foldl (fun (l : List GSent) e => if l.any fun x => x.gqn == e.gqn then l else l ++ [e]) []
        queues.foldl (fun s e => s.tell (.notice e.gqn (s.qdesc e.desc).tail)) s
    | .online => s.violation 0
    | .offline => s.violation 0
    | .frozen => s
    | .absent => s)

/-- READY_TIMEOUT (R410). -/
def execReadyTimeout (s : State) : Out :=
  .next (if s.guest.st = .resetting then { s with guest := { s.guest with st := .offline } } else s)

/-- A failed Capo link (R406): the event's record, then a guest reset. -/
def State.linkDown (s : State) : State :=
  if s.guest.st = .absent then s
  else (s.addRecord 0 { s.slotRecord 0 0x33C 4 7 0 0 0 0 with gridw := 0 }).guestReset 0x33C

/-- LINKDOWN (R406). -/
def execLinkdown (s : State) : Out := .next s.linkDown

/-- GUEST_RAIL_OVERLOAD (R436): both rails are cut and the link drops. -/
def execGuestRailOverload (s : State) : Out :=
  .next (if s.guest.st = .absent then s else ({ s with guest := { s.guest with railsCut := true } } : State).linkDown)

end Sys2Proof.Machine
end

