-- ==== Sys2Proof/Machine/Ctx.lean ====
section
/-! DEFINITION. Contexts: creation and destruction, suspension, resumption and migration of a section, and the end of an
inspection hold (R250, R295, R316, R354, R369, R402, R412). -/

namespace Sys2Proof.Machine

/-! ### Stations that change hands (R354, R402) -/

/-- Whether a context exists. -/
def State.hasCtx (s : State) (c : Nat) : Bool := (tblGet s.ctxs c).isSome

/-- Whether a context exists and the host may manage it: secure firmware manages the others (R354). -/
def State.managed (s : State) (c : Nat) : Bool := ((tblGet s.ctxs c).map fun x => !x.world).getD false

/-! ### SUSPEND (R295, R354) -/

/-- Whether a grid key belongs to a context. -/
def State.gridIn (s : State) (c gk : Nat) : Bool := ((s.gridOf gk).map fun g => g.ctx == c).getD false

/-- Whether every part of a context is out of its stations and the guest has parked. -/
def State.suspendedWhole (s : State) (c : Nat) : Bool :=
  !(s.strands.any fun e => e.2.ctx == c) && !(s.transit.any fun t => t.strand.ctx == c) &&
  !(s.stations.any fun e => match e.2.chord with
    | some x => s.gridIn c x.grid && (x.st == .resident || x.st == .ending)
    | none => false) &&
  (s.sectionOf c).all (fun st => s.writesHeld st .ring s.nextAge 0) && (s.ctx c).parked

/-- The queues of a context stop consuming. -/
def State.suspendQueues (s : State) (c : Nat) : State :=
  { s with queues := s.queues.map fun e =>
      if s.queueCtx e.1 = c then
        (match e.2.st with
          | .idle => (e.1, { e.2 with st := .suspended 1 })
          | .active => (e.1, { e.2 with st := .suspended 2 })
          | .waiting => (e.1, { e.2 with st := .suspended 3 })
          | _ => e)
      else e }

/-- SUSPEND: the command, and its progress to the moment when it is complete. -/
def State.suspendCtx (s : State) (c : Nat) : State :=
  if !s.hasCtx c then s
  else
    let x := s.ctx c
    if x.busy then
      if x.op ≠ .suspend then s
      else if s.suspendedWhole c then s.modCtx c fun x => { x with status := 2, busy := false, op := .none }
      else (s.sectionOf c).foldl (fun s st => s.releaseAll st) s
    else
      let s := (s.modCtx c fun x => { x with suspended := true, busy := true, op := .suspend }).suspendQueues c
      if x.parked then s else s.preempt c

/-- SUSPEND (R295, R354), of a secure context by secure firmware. -/
def execSuspend (ctx : Nat) (s : State) : Out := .next (s.suspendCtx ctx)

/-! ### RESUME -/

/-- The dies of a context's section. -/
def State.sectionDies (s : State) (c : Nat) : List Nat := (numsFrom 0 4).filter fun d => !(s.sectionOn c d).isEmpty

/-- The invalidation that a resumption begins with. -/
def State.resumeBegin (s : State) (c : Nat) : State :=
  let x := (s.sectionDies c).foldl (fun (x : State × List Nat × List Nat) d =>
    let r := x.1.invalidate { die := d, ctx := some c, page := none }
    (r.1, x.2.1 ++ r.2.1, x.2.2 ++ r.2.2)) (s, [], [])
  x.1.modCtx c fun y => { y with busy := true, op := .resume, waitInvs := x.2.1, waitReqs := x.2.2 }

/-- A loose strand in the save area of a context. -/
def Saved.looseOf (c : Nat) : Saved → Option (Nat × Strand)
  | .slot _ st t fw => if t.loose = true ∧ t.ctx = c ∧ fw = false then some (st, t) else none
  | .chord _ _ _ _ _ _ => none

/-- The queues of a context go back to their states. -/
def State.resumeQueues (s : State) (c : Nat) : State :=
  { s with queues := s.queues.map fun e =>
      if s.queueCtx e.1 = c then
        (match e.2.st with
          | .suspended was => (e.1, { e.2 with st := if was = 3 then .waiting else e.2.run })
          | _ => e)
      else e }

/-- The end of a resumption: queues, the guest, loose strands; chords return by CHORD_RESTORE. -/
def State.resumeEnd (s : State) (c : Nat) : State :=
  let loose := s.saved.filterMap (Saved.looseOf c)
  let s := ((s.modCtx c fun x => { x with suspended := false, busy := false, op := .none, status := 1, waitInvs := [], waitReqs := [] }).resumeQueues
    c).unpark c
  let s : State := { s with saved := s.saved.filter fun v => (v.looseOf c).isNone }
  loose.foldl (fun s e => s.arrive e.1 e.2) s

/-- RESUME: the command, and its progress. -/
def State.resumeCtx (s : State) (c : Nat) : State :=
  if !s.hasCtx c then s
  else
    let x := s.ctx c
    let s := if x.busy then s else s.resumeBegin c
    let x := s.ctx c
    if x.op = .resume ∧ s.invDone x.waitInvs x.waitReqs = true then s.resumeEnd c else s

/-- CTX_RESUME (R295, R354). -/
def execCtxResume (ctx : Nat) (s : State) : Out := .next (s.resumeCtx ctx)

/-! ### MIGRATE -/

/-- The station at an offset. -/
def shiftStation (arg : Word) (st : Nat) : Nat := stationAt (dieOf st + bits arg 25 24) (rowOf st + bits arg 19 16) (colOf st + bits arg 11 8)

/-- A station of a section moves; every other stays. -/
def movedTo (arg : Word) (sect : List Nat) (st : Nat) : Nat := if sect.contains st then shiftStation arg st else st

/-- A key in the ways of a moved station. -/
def movedKey (arg : Word) (sect : List Nat) (key : Nat) : Nat :=
  if 2 ^ 52 ≤ key ∧ (key - 2 ^ 52) % 2 ^ 23 < 2 ^ 22 then
    2 ^ 52 + movedTo arg sect ((key - 2 ^ 52) / 2 ^ 23) * 2 ^ 23 + (key - 2 ^ 52) % 2 ^ 23
  else key

/-- A location in the ways of a moved station. -/
def movedLoc (arg : Word) (sect : List Nat) : Loc → Loc
  | .plate st off => .plate (movedTo arg sect st) off
  | .lp6 d pa => .lp6 d pa
  | .shared st off => .shared st off
  | .pcie a => .pcie a

/-- A request of the context follows its station. -/
def movedReq (arg : Word) (sect : List Nat) (r : Req) : Req :=
  { r with
    station := movedTo arg sect r.station
    slot := 8 * movedTo arg sect (r.slot / 8) + r.slot % 8
    kind := match r.kind with
      | .armWait st => .armWait (movedTo arg sect st)
      | .armTake st => .armTake (movedTo arg sect st)
      | k => k
    stage := match r.stage with
      | .translated l => .translated (movedLoc arg sect l)
      | .inbound l => .inbound (movedLoc arg sect l)
      | x => x }

/-- A save image of the context follows its station. -/
def movedSaved (arg : Word) (sect : List Nat) : Saved → Saved
  | .slot g st t fw => .slot g (movedTo arg sect st) t fw
  | .chord st c ts e w p => .chord (movedTo arg sect st) c ts e w p

/-- What moves from a station to the corresponding one. -/
def Station.movedFrom (dst src : Station) : Station :=
  { dst with
    chord := src.chord, runq := src.runq, mailbox := src.mailbox, mheld := src.mheld, mrecv := src.mrecv, rq := src.rq, cpy := src.cpy
    sfu := src.sfu, ways := src.ways, prot := src.prot, lastGrid := src.lastGrid }

/-- Whether a context's section may move: every target is a compute station that is free, or its own, and of no other
section. -/
def State.mayMove (s : State) (c : Nat) (arg : Word) (sect : List Nat) : Bool :=
  let x := s.ctx c
  x.suspended && x.status != 1 &&
  sect.all fun st =>
    let t := shiftStation arg st
    !isBridge s.cfg t && (sect.contains t || !(s.taken t || s.strands.any fun e => stationOf e.1 == t)) && !(s.station t).failed &&
      !(s.ctxs.any fun e => e.1 != c && s.inSection e.1 t)

/-- DTSECT rewritten on every die. -/
def State.setSection (s : State) (c : Nat) (sts : List Nat) : State :=
  (numsFrom 0 4).foldl (fun s d =>
    let mask := (sts.filter fun st => dieOf st == d).foldl (fun m st => m ||| BitVec.ofNat 256 (2 ^ (st % 256))) (0 : BitVec 256)
    s.modDie d fun x => { x with ctxTab := tblPut x.ctxTab c { x.ctxEntry c with sect := mask } }) s

/-- The section's stations and plates move; what a target's ways held before is gone. -/
def State.moveSection (s : State) (c : Nat) (arg : Word) (sect : List Nat) : State :=
  let old := sect.map fun st => (st, s.station st)
  let hit (key : Nat) : Bool := sect.any fun st => keyInPlate (shiftStation arg st) key
  let cells := s.mem.filter fun e => sect.any fun st => keyInPlate st e.1
  let marks := s.poison.filter fun e => sect.any fun st => keyInPlate st (e.1 * 64)
  let s := sect.foldl (fun s st => (s.clearStation st).modStation st fun S => { S with mheld := [] }) s
  let s := old.foldl (fun s e => s.modStation (shiftStation arg e.1) fun S => S.movedFrom e.2) s
  let s : State := { s with
    mem := cells.foldl (fun m e => memSet m (movedKey arg sect e.1) e.2) (s.mem.filter fun e => !hit e.1)
    poison := marks.foldl (fun m e => tblPut m (movedKey arg sect (e.1 * 64) / 64) e.2) (s.poison.filter fun e => !hit (e.1 * 64))
    reqs := s.reqs.map fun e => if e.2.ctx = c then (e.1, movedReq arg sect e.2) else e
    resv := s.resv.foldl (fun m e => tblPut m (movedKey arg sect e.1) e.2) []
    queueWaits := s.queueWaits.foldl (fun m e => tblPut m (movedKey arg sect e.1) e.2) []
    atomics := s.atomics.foldl (fun m e => tblPut m (movedKey arg sect e.1) e.2) []
    saved := s.saved.map (movedSaved arg sect)
    guest := { s.guest with
      owned := s.guest.owned.map fun x => movedKey arg sect (x * 64) / 64
      shared := s.guest.shared.map fun x => movedKey arg sect (x * 64) / 64
      snoops := s.guest.snoops.map fun x => (x.1, movedKey arg sect (x.2.1 * 64) / 64, x.2.2) } }
  s.setSection c (sect.map (shiftStation arg))

/-- MIGRATE of a section: refused with error 2 and nothing moved, or MOVED. -/
def State.migrateCtx (s : State) (c : Nat) (arg : Word) : State :=
  if !s.hasCtx c || (s.ctx c).busy then s
  else
    let sect := s.sectionOf c
    if s.mayMove c arg sect then (s.moveSection c arg sect).modCtx c fun x => { x with status := 3 }
    else s.modCtx c fun x => { x with error := 2 }

/-- CTX_MIGRATE (R354). -/
def execCtxMigrate (ctx : Nat) (arg : Word) (s : State) : Out := .next (s.migrateCtx ctx arg)

/-! ### RELEASE (R369) -/

/-- The grids that a context's inspection holds. -/
def State.releaseCtx (s : State) (c : Nat) : State :=
  if !s.hasCtx c || (s.ctx c).busy then s
  else
    (s.grids.filter fun e => e.2.ctx == c && e.2.hold).foldl (fun s e => (s.modGrid e.1 fun g => { g with hold := false }).stopGrid e.1) s

/-- RELEASE (R354, R369). -/
def execRelease (ctx : Nat) (s : State) : Out := .next (s.releaseCtx ctx)

/-! ### Creation and destruction (R250, R353, R402, R412) -/

/-- The quotas that the live contexts hold on a die (R250, R353). -/
def State.quotasOn (s : State) (d : Nat) : Nat :=
  ((s.die d).ctxTab.map fun e => if s.hasCtx e.1 then e.2.quota.toNat else 0).sum

/-- The descriptor of a guest queue of a context, as the front end writes it (R265). -/
def guestDescBytes (ctx : Nat) (world : Bool) (q : GuestQueue) : List Byte :=
  bytesOf 8 q.base.toNat ++
    bytesOf 8 (2 ^ 63 + 2 ^ 62 + world.toNat * 2 ^ 61 + ctx % 64 * 2 ^ 55 + q.gqn % 64 * 2 ^ 32 + q.log2cap % 32) ++ bytesOf 48 0

/-- CONTEXT_CREATION (R250, R265, R353): refused when the quotas of the live contexts on a die would exceed 16,384, or when a
station is no free compute station. The world is the context-table entry's. The descriptors of its guest queues are created on
die 0. -/
def execContextCreation (ctx quota : Nat) (stations : List Nat) (guestQueues : List GuestQueue) (s : State) : Out :=
  .next (
    let free (st : Nat) : Bool := decide (st < 1024) && !isBridge s.cfg st && !s.taken st && !(s.ctxs.any fun e => s.inSection e.1 st)
    if 64 ≤ ctx ∨ s.hasCtx ctx ∨ (numsFrom 0 4).any (fun d => decide (16384 < s.quotasOn d + quota)) ∨ stations.any (fun st => !free st) then s
    else
      let world := match stations with
        | st :: _ => ((s.die (dieOf st)).ctxEntry ctx).world
        | [] => ((s.die 0).ctxEntry ctx).world
      let x : Context := { world := world, quota := quota, guestQueues := guestQueues.map fun q => (q.gqn, q.pa) }
      let s : State := { s with ctxs := tblPut s.ctxs ctx x }
      let s := s.setSection ctx stations
      let s := (numsFrom 0 4).foldl (fun s d => s.modDie d fun x =>
        { x with ctxTab := tblPut x.ctxTab ctx { x.ctxEntry ctx with quota := BitVec.ofNat 15 quota } }) s
      guestQueues.foldl (fun s q => (s.writeBlock (.lp6 0 q.pa) ((guestDescBytes ctx world q).map fun b => (true, b))).1) s)

/-- The grids of a context are stopped and their guest packets cancelled. -/
def State.stopCtx (s : State) (c : Nat) : State :=
  (s.grids.filter fun e => e.2.ctx == c).foldl (fun s e => (s.stopGrid e.1).cancelPackets e.1) s

/-- The tables without a context. -/
def State.dropCtx (s : State) (c : Nat) : State :=
  let gone := (s.reqs.filter fun e => e.2.ctx == c).map (·.1)
  let s := s.dropReqs gone
  let s := ((s.proofs.filter fun e => e.2.ctx == c).map (·.1)).foldl (fun s k => s.freeProof k) s
  { s with
    ctxs := tblDel s.ctxs c
    grids := s.grids.filter fun e => e.2.ctx != c
    queues := s.queues.filter fun e => s.queueCtx e.1 != c
    shards := s.shards.filter fun e => e.2.ctx != c
    dies := s.dies.map fun d => { d with
      tlb := d.tlb.filter fun e => e.ctx != c
      svcq := d.svcq.filter fun q => q.ctx != c
      ctxTab := tblMod d.ctxTab c fun e => { e with sect := 0, quota := 0 } }
    guest := { s.guest with
      sent := s.guest.sent.filter fun p => p.ctx != c
      dir := s.guest.dir.filter fun e => e.ctx != c
      preempting := s.guest.preempting.erase c } }

/-- CONTEXT_DESTRUCTION (R402, R409, R412): its grids stop, its writes reach their homes, and the packets that a frozen guest holds
become final by a reset; then its queues, proofs, shards, section and save area are gone. -/
def execContextDestruction (ctx : Nat) (s : State) : Out :=
  .next (if !s.hasCtx ctx then s
    else if s.grids.any fun e => e.2.ctx == ctx && s.frozenPackets e.1 then s
    else
      let s := s.stopCtx ctx
      let sect := s.sectionOf ctx
      if sect.all fun st => s.writesHeld st .ring s.nextAge 0 then
        let s := s.dropCtx ctx
        sect.foldl (fun s st => (s.clearStation st).modStation st fun S => { S with mheld := [] }) s
      else sect.foldl (fun s st => s.releaseAll st) s)

end Sys2Proof.Machine
end

