-- ==== Sys2Proof/Machine/Boundary.lean ====
section
/-! DEFINITION. What crosses the package's edge: PCIe requests and completions, the String, the mesh and die links, power,
reset and boot (R211, R214, R245, R246, R402, R406, R430 to R434, R438 to R443). -/

namespace Sys2Proof.Machine

/-! ### Inbound requests (R211, R432) -/

/-- The PCIe controller's attach station (R442). -/
def attachStation (c : CfgTable) : Nat := if c.bridgeHigh then 15 else 0

/-- A function's window. -/
def State.window (s : State) (f : Nat) : Window := (tblGet s.windows f).getD {}

/-- The pieces of n bytes at an address, each within a 64-byte line. -/
def linePieces : Nat → Word → Nat → List (Word × Nat)
  | 0, _, _ => []
  | fuel + 1, a, n =>
    if n = 0 then []
    else
      let k := min n (64 - a.toNat % 64)
      (a, k) :: linePieces fuel (a + BitVec.ofNat 64 k) (n - k)

/-- Whether a function's window translates: it is valid, and its context's world is the function's. -/
def State.windowOk (s : State) (f : Nat) : Bool :=
  let w := s.window f
  w.valid && (s.ctxWho w.ctx.toNat).world == s.cfg.funcWorlds.getD f false

/-- A request at the window's address, in its context's authority. -/
def State.inboundReq (s : State) (f : Nat) (k : ReqKind) (a : Word) : Req :=
  let c := (s.window f).ctx.toNat
  { kind := k, ctx := c, world := (s.ctxWho c).world, gva := a, src := 5, station := attachStation s.cfg, slot := 8 * attachStation s.cfg }

/-- The code with which a window that does not translate freezes its function (R370, R398, R432): one of the listed codes of class
5 from an inbound client (log entry 23). -/
def windowCause (f : Nat) : Cause := causeOf 5 5 (([0, 1, 2, 3, 5, 6] : List Nat)[Config.windowDetail f % 6]?.getD 0)

/-- INBOUND_WRITE (R211, R406, R430 to R432): a posted write at a BAR2 offset, as one request for each line it touches, in order; a
frozen path drops it, and so does a device that does not support it or whose BAR2 ends before it. -/
def execInboundWrite (func off : Nat) (bytes : List Byte) (attr : WriteTlp) (s : State) : Out :=
  .next (
    let a := (s.window func).base + BitVec.ofNat 64 off
    if !s.boot.up || attr.unsupported || decide (2 ^ s.cfg.barLog2 < off + bytes.length) || (s.window func).frozen.isSome then s
    else if !s.windowOk func || !gvaOk s.cfg a then s.freezeFunc (gvaDie a) func (windowCause func) a
    else
      ((linePieces (bytes.length + 1) a bytes.length).foldl (fun (x : State × List Byte) p =>
        let o := p.1.toNat % 64
        let r : Req := { x.1.inboundReq func (.inWrite func) p.1 with
          gva := BitVec.ofNat 64 (p.1.toNat / 64 * 64)
          mask := BitVec.ofNat 64 ((2 ^ p.2 - 1) * 2 ^ o)
          data := BitVec.ofNat 512 (ofBytes (x.2.take p.2) * 2 ^ (8 * o))
          bad := attr.poisoned
          b := if attr.relaxed then 1 else 0 }
        (x.1.addReq r, x.2.drop p.2)) (s, bytes)).1)

/-- INBOUND_READ (R211, R430 to R432, R438): a read at a BAR2 offset, completed line by line; a frozen path answers Unsupported
Request, as does a read that the device does not support or that passes BAR2's end; a halted boot's recovery answers zero. -/
def execInboundRead (func off : Nat) (size : ReadTlp) (s : State) : Out :=
  .next (
    let n := size.bytes
    let a := (s.window func).base + BitVec.ofNat 64 off
    if !s.boot.up then (if s.boot.recovery then { s with pcie := s.pcie ++ [.completion func n 0 .success] } else s)
    else if size.unsupported || decide (2 ^ s.cfg.barLog2 < off + n) || (s.window func).frozen.isSome then s.completeUR func n
    else if !s.windowOk func || !gvaOk s.cfg a then (s.freezeFunc (gvaDie a) func (windowCause func) a).completeUR func n
    else (linePieces (n + 1) a n).foldl (fun s p => s.addReq (s.inboundReq func (.inRead func p.2) p.1)) s)

/-! ### Ends of reads outside the package (R246, R443) and answers over the String (R214) -/

/-- Bytes that arrive for a copy engine's entry: of the source, or of CPYS's expected digest once the source is whole. -/
def State.copyFeed (s : State) (r : Req) (bs : List Byte) : State :=
  match s.cpyHead r.station with
  | none => s
  | some i =>
    if i.n ≠ r.age then s
    else if i.op = .cpys ∧ i.len ≤ i.got.length then s.cpySet r.station { i with dgot := i.dgot ++ bs }
    else s.cpySet r.station { i with got := i.got ++ bs }

/-- A copy engine's access failed: its entry stops. -/
def State.copyFails (s : State) (r : Req) (code : Cause) : State :=
  match s.cpyHead r.station with
  | none => s
  | some i => if i.n = r.age then s.cpyFail r.station i code r.gva else s

/-- A completed write of a copy engine's entry at another package. -/
def State.copyPut (s : State) (r : Req) : State :=
  match s.cpyHead r.station with
  | none => s
  | some i =>
    let n := ((numsFrom 0 64).filter fun j => r.mask.getLsbD j).length
    if i.n = r.age then s.cpySet r.station { i with put := i.put + n } else s

/-- Lines of a read-stream word reach its port. -/
def State.feedPort (s : State) (r : Req) (q : Fin 8) (pos : Nat) (v : VWord) (bad : Bool) : State :=
  s.modTag r.tag fun t => t.putLines q pos v r.b.toNat bad

/-- The end of a non-posted read to the PCIe link; the read of another package is answered there. -/
def State.hostReadEnd (s : State) (n : Nat) (r : Req) (bad : Bool) (data : VWord) : State :=
  let w := s.fillSpan r
  let line := BitVec.ofNat 512 (data.toNat % 2 ^ (8 * w.2) * 2 ^ (8 * w.1))
  match r.from_ with
  | some f => (s.delReq n).reply f (if r.kind.isFill then line.setWidth 2048 else data) (if bad then poisonCode 0 0 else 0) 3
  | none =>
  match r.kind with
  | .fill _ => s.feedFill n r line (if bad then some 0 else none)
  | .streamRead q pos => (s.delReq n).feedPort r q pos data bad
  | .copyRead k =>
    let s := s.delReq n
    if bad then s.copyFails r (poisonCode 3 0) else s.copyFeed r (bytesOf k data.toNat)
  | .unitRead => s.modReq n fun (r : Req) => { r with stage := .replied true (if bad then 0x1F0 else 0), data := data.setWidth 512 }
  | .inRead f k => { s.delReq n with pcie := s.pcie ++ [.completion f k data (if bad then .poisoned else .success)] }
  | _ => s.delReq n

/-- Whether a request waits for the PCIe link. -/
def Req.atHost (r : Req) : Bool :=
  match r.stage with
  | .hostOut _ => true
  | _ => false

/-- HOST_READ_COMPLETION (R246). -/
def execHostReadCompletion (req : Nat) (status : CplStatus) (data : BitVec 2048) (s : State) : Out :=
  .next (match s.req req with
    | none => s
    | some r => if r.atHost then s.hostReadEnd req r (status != .success) data else s)

/-- Whether the function that sends a request has Completion Timeout Disable set (R443): bit 4 of Device Control 2 (log entry 55). -/
def State.waitsForever (s : State) (r : Req) : Bool :=
  let f := ((s.die (gvaDie r.gva)).ctxEntry r.ctx).func.toNat
  ((tblGet s.cfgSpace (f * 4096 + Config.devControl2 f)).getD 0).getLsbD 4

/-- COMPLETION_TIMEOUT (R246, R443). -/
def execCompletionTimeout (req : Nat) (s : State) : Out :=
  .next (match s.req req with
    | none => s
    | some r => if r.atHost && !s.waitsForever r then s.hostReadEnd req r true 0 else s)

/-- A slot access of a queue operation ends at another package: the operation goes on, and then those behind it (R266). -/
def State.slotDone (s : State) (n p : Nat) (wr : Bool) (data : VWord) (poison : Option Nat) : State :=
  let s := s.delReq n
  match s.req p with
  | none => s
  | some x =>
    match x.stage with
    | .translated l =>
      let q := s.qdesc l
      let key := l.key.getD 0
      let s := if wr then
          s.enqDone p x l q
        else s.deqDone p x l q (data.toNat % 2 ^ 512) poison
      s.serveQueue key (((tblGet s.queueWaits key).getD []).length + 1)
    | _ => s

/-- The home in another package gave up a wait, and the strand's trap is taken; a strand that has no trap to take any more sends
the wait again (R260). -/
def State.withdrawn (s : State) (tag n : Nat) : State :=
  match s.slotOfTag tag with
  | none => s.dropReqs [n]
  | some k =>
    match s.slot k with
    | none => s
    | some t =>
      if t.hold ≠ .proof n then s
      else
        match s.pendingTrap k t with
        | some code => (s.modReq n fun (r : Req) => { r with stage := .toDtu }).boundaryTrap k t code
        | none => s.sendAway n

/-- Sat64 clamped a far atomic's sum at another package: the context's AMOSAT, and the strand's MSTICKY.SAT when x[d] is written
(R224). -/
def State.remoteClamp (s : State) (r : Req) (sat : Bool) : State :=
  if sat then
    let s := s.modCtx r.ctx fun c => { c with amosat := true }
    match r.res with
    | some i => s.modResult i fun x => { x with setSat := true }
    | none => s
  else s

/-- A request that another package has performed: its data reaches what waits for it. `poison` is a class 7 answer's kind, and
`kind` the kind of the line's page (R212). -/
def State.remoteDone (s : State) (n : Nat) (r : Req) (data : VWord) (poison : Option Nat) (kind : Fin 4) : State :=
  let line : BitVec 512 := data.setWidth 512
  let give (s : State) : State :=
    match r.res, poison with
    | some i, some k => s.deliverPoison i (poisonCode r.kind.poisonSrc k)
    | some i, none => s.deliver i data
    | none, some k => s.faultDeferred r.grid (poisonCode 4 k) 5 r.slot r.gva
    | none, none => s
  match r.kind with
  | .fill pf =>
    if kind = 3 then if pf then s.delReq n else s.feedFill n r line poison
    else if pf && poison.isSome then s.delReq n
    else
      let s := if r.install then s.install r.station (r.gva.toNat / 64) line poison else s
      (s.learnKind r.station (gvaPage r.gva) kind).feedLine n r line poison
  | .merge => s.delReq n
  | .streamRead q pos => (s.delReq n).feedPort r q pos data poison.isSome
  | .streamWrite _ => s.delReq n
  | .kindQuery => (s.delReq n).learnKind r.station (gvaPage r.gva) kind
  | .copyRead k =>
    let s := s.delReq n
    match poison with
    | some p => s.copyFails r (poisonCode 3 p)
    | none => s.copyFeed r (bytesOf k data.toNat)
  | .copyWrite => (s.delReq n).copyPut r
  | .slotOp p wr => s.slotDone n p wr data poison
  | .unitRead => s.modReq n fun (r : Req) => { r with stage := .replied true (if poison.isSome then 0x1F0 else 0), data := line }
  | .unitWrite => s.modReq n fun (r : Req) => { r with stage := .replied true 0 }
  | .fetch =>
    let entry : BitVec 512 × Bool := (line, poison.isSome)
    let s := s.delReq n
    let s := if r.install then s.modStation r.station fun S => { S with icache := tblPut S.icache (r.gva.toNat / 64) entry } else s
    s.modTag r.tag fun t => { t with hold := .none }
  | .inRead f k =>
    { s.delReq n with pcie := s.pcie ++ [.completion f k data (if poison.isSome then .poisoned else .success)] }
  | .inWrite _ => s.delReq n
  | .trq => s.delReq n
  | .migrate => s.delReq n
  | .spawn => s.delReq n
  | .spawnl => s.delReq n
  | .spls => s.delReq n
  | .splr => s.delReq n
  | .proofPub => s.proofAnswer n true 0 (data.setWidth 64)
  | .proofWait => s.proofAnswer n true 0 (data.setWidth 64)
  | .proofTake => s.proofAnswer n true 0 (data.setWidth 64)
  | .proofTest => s.proofAnswer n true 0 (data.setWidth 64)
  | .proofRead => s.proofAnswer n true 0 (data.setWidth 64)
  | .proofAdvance => if r.src = 6 then s.delReq n else s.proofAnswer n true 0 (data.setWidth 64)
  | .prarm => s.proofAnswer n true 0 (data.setWidth 64)
  | .armWait _ => s.proofAnswer n true 0 0
  | .armTake _ => s.proofAnswer n true 0 0
  | .withdraw m => if data = 0 then s.delReq n else (s.delReq n).withdrawn r.tag m
  | .amo _ _ => (give (s.delReq n)).remoteClamp r (kind == 1)
  | .lrw => give (s.delReq n)
  | .sch => give (s.delReq n)
  | .rrel => give (s.delReq n)
  | .enq _ =>
    if kind = 2 ∨ kind = 3 then s.modReq n fun (r : Req) => { r with gq := some (kind == 3) }
    else if kind = 1 then (give s).modReq n fun (r : Req) => { r with res := none, gq := some true, b := 1 }
    else give (s.delReq n)
  | .deq _ => give (s.delReq n)
  | .dtu => give (s.delReq n)

/-- A write at another package took its place over a block that was lost (R215): what made it is done, and its grid, or the unit
that made it, learns of it. -/
def State.remoteLost (s : State) (n : Nat) (r : Req) (data : VWord) (kind : Fin 4) : State :=
  match r.kind with
  | .unitWrite => s.modReq n fun (r : Req) => { r with stage := .replied true 0x1E1 }
  | .slotOp _ _ => s.remoteDone n r data none kind
  | .copyWrite => (s.remoteDone n r data none kind).faultDeferred r.grid 0x1E1 5 r.slot (blockOf r.gva)
  | _ => (s.delReq n).faultWriters r 0x1E1 5 (blockOf r.gva)

/-- A request that another package has not performed, by the class of its code: the fault of a packet that its guest queue took
(R269); a refusal freezes the master with its own source
(R368, R370), a proof's code is the operation's answer (R259), poison travels as data (R406), and any other is a deferred fault. -/
def State.remoteFails (s : State) (n : Nat) (r : Req) (data : VWord) (code : Cause) (kind : Fin 4) : State :=
  let cls := code.toNat / 64
  let det := code.toNat % 8
  let own : Cause := causeOf cls r.src det
  if r.kind.isEnq ∧ r.b = 1 then (s.delReq n).faultGrid r.grid code 1 4 r.slot 0 r.gva 0
  else if code = 0x1E1 then s.remoteLost n r data kind
  else if cls = 5 ∧ det ≠ 4 then s.refuseReq n r own
  else if cls = 11 then s.refuseReq n r code
  else if cls = 7 ∧ code ≠ 0x1E8 then s.remoteDone n r data (some (if det = 2 then 1 else 0)) kind
  else if cls = 8 then s.proofAnswer n false det 0
  else
    let code := if cls = 6 then own else code
    match r.kind with
    | .copyRead _ => (s.delReq n).copyFails r code
    | .copyWrite => (s.delReq n).copyFails r code
    | _ => s.faultReq n r code

/-- The kind of the request that stands at this package for one of another (R214, R258); none for a DTU operation, which the
model leaves out (log entry 69). -/
def flitKind (q : FlitReq) : Option ReqKind :=
  match q.op with
  | .write m => some (if m then .merge else .copyWrite)
  | .fill pf => some (.fill pf)
  | .read n => some (.copyRead n)
  | .fetch => some .fetch
  | .kindQuery => some .kindQuery
  | .atomic op dbl => some (.amo op dbl)
  | .lrw => some .lrw
  | .sch => some .sch
  | .rrel => some .rrel
  | .enq nw => some (.enq nw)
  | .deq nw => some (.deq nw)
  | .publish => some .proofPub
  | .wait => some .proofWait
  | .take => some .proofTake
  | .test => some .proofTest
  | .readGen => some .proofRead
  | .advance => some .proofAdvance
  | .check => some .prarm
  | .armWait => some (.armWait 1024)
  | .armTake => some (.armTake 1024)
  | .withdraw => none
  | .gridEnd _ => none
  | .dtu => none

/-- The station that a request of another package comes from, as `Req.from_` numbers it. -/
def flitFrom (q : FlitReq) : Nat := 1024 * q.pkg + q.station

/-- The number of a grid of another package: distinct from every grid here, with its SERIAL in the low bits. -/
def flitGrid (q : FlitReq) : Nat := 2 ^ 32 * (1 + q.pkg) + q.grid % 2 ^ 32

/-- The request that stands at this package for one of another: its strand's tag is made distinct from every tag here. -/
def flitReq (q : FlitReq) (k : ReqKind) : Req :=
  { kind := k, grid := flitGrid q, station := 1024, slot := 8 * 1024, tag := 2 ^ 64 * (1 + flitFrom q) + q.tag, ctx := q.ctx, world := q.world, gva := q.gva,
    a := if k = .proofPub then 0 else q.a, b := q.b, mask := q.mask, data := q.data, bad := q.poisoned, from_ := some (flitFrom q, q.id) }

/-- A wait or take of another package is given up at its home, if it has not been answered (R260). -/
def State.giveUp (s : State) (q : FlitReq) : State :=
  match s.reqs.find? fun e => e.2.from_ == some (flitFrom q, q.a.toNat) with
  | some e => (s.dropReqs [e.1]).reply (flitFrom q, q.id) 1 0
  | none => s.reply (flitFrom q, q.id) 0 0

/-- A grid of another package has ended (R227, R229, R252, R288): what its station's requests wait for here is given up, and so is,
after a fault, what else of them would not be carried on; its reservations are freed. The end of a grid that completed comes
after its queue operations, as far as they do not wait. -/
def State.endAway (s : State) (q : FlitReq) (faulted : Bool) : State :=
  let g := flitGrid q
  let mine := s.reqs.filter fun e => e.2.from_.map (·.1) == some (flitFrom q) && e.2.grid == g && e.2.kind.isQueueOp
  let waits := mine.filter fun e => s.waitsAtHome e.1 e.2
  if faulted then
    let gone := (s.reqs.filter fun e => e.2.from_.map (·.1) == some (flitFrom q) && e.2.grid == g &&
      (!e.2.survives || e.2.stage.parked)).map (·.1)
    let s := (s.dropReqs gone).resvEnd g (s.resv.map (·.1))
    if s.guest.sent.any fun e => e.grid == g then { s with awayEnded := addOnce s.awayEnded g } else s
  else if waits.length < mine.length then s
  else
    let s := waits.foldl (fun s e => match e.2.from_ with
      | some f => s.reply f 0 0
      | none => s) (s.dropReqs (waits.map (·.1)))
    s.resvEnd g (s.resv.map (·.1))

/-- STRING_FLIT_ARRIVE (R214, R258): a request of another package goes to the owning DTU or the proof's home, in order; an answer
ends the request that waits for it. -/
def execStringFlitArrive (flit : Flit) (s : State) : Out :=
  .next (if s.eastDown && s.westDown then s else match flit with
    | .request q =>
      match flitKind q with
      | some k => s.addReq (flitReq q k)
      | none =>
        match q.op with
        | .withdraw => s.giveUp q
        | .gridEnd faulted => s.endAway q faulted
        | _ => s
    | .reply n data code kind =>
      match s.req n with
      | none => s
      | some r =>
        if r.stage ≠ .remote then s
        else if code = 0 then s.remoteDone n r data none kind else s.remoteFails n r data code kind)

/-! ### Paths between dies (R11) -/

/-- The die crossings from one die to another: the first changes the column and the second the row. -/
def dieRoute (a b : Nat) : List (Nat × Nat) :=
  let via := 2 * (a / 2) + b % 2
  (if a = via then [] else [(a, via)]) ++ (if via = b then [] else [(via, b)])

/-- The pairs of stations at which a path between two stations leaves a die and enters the next: those of fewest hops, and of
these the lowest logical row, then the lowest logical column. -/
def crossings (x y : Nat) : List (Nat × Nat) :=
  let a := dieOf x
  let b := dieOf y
  let via := 2 * (a / 2) + b % 2
  let down := decide (a / 2 < b / 2)
  let right := decide (a % 2 < b % 2)
  let row := if via = b then min (rowOf x) (rowOf y) else if down then rowOf x else 0
  let enter := if right then 0 else 15
  let col := if a = via then min (colOf x) (colOf y) else if right then 0 else colOf y
  (if a = via then [] else [(stationAt a row (15 - enter), stationAt via row enter)]) ++
    (if via = b then [] else [(stationAt via (if down then 15 else 0) col, stationAt b (if down then 0 else 15) col)])

/-- The hops of a path, counted on each die from where it enters to where it leaves (R11, R44). -/
def pathHops (x y : Nat) : Nat :=
  let r := (crossings x y).foldl (fun (p : Nat × Nat) c => (p.1 + hops p.2 c.1, c.2)) (0, x)
  r.1 + hops r.2 y

/-! ### Links (R406) -/

/-- The die whose RAS block counts a link's events: the one that sends first, and for a String port the die it leaves from (R15). -/
def Link.die : Link → Nat
  | .mesh d _ => d
  | .dieLink a _ => a
  | .string east => if east then 1 else 2
  | .capo => 0

/-- MESH_FLIT_RETRY (R406): the failed flits are counted; a mesh link that fails 16 retries of one flit moves to its spare
wires. -/
def execMeshFlitRetry (link : Link) (fails : Nat) (s : State) : Out :=
  .next (s.modDie (Link.die link) fun d =>
    { d with linkrty := d.linkrty + BitVec.ofNat 64 fails, lanespare := if 16 ≤ fails then d.lanespare + 1 else d.lanespare })

/-- LINK_RETRAIN_COMPLETE (R406): traffic that waited goes on, and none is lost. -/
def execLinkRetrainComplete (_link : Link) (s : State) : Out := .next s

/-- The die where traffic for a ring position reaches its String port (R15). -/
def State.portDie (s : State) (pkg : Nat) : Nat := if Config.routeEast s.cfg.ringN s.cfg.pkg pkg then 1 else 2

/-- The dies between which a request of this package travels (R11): from its station, or its String port, to its home's die or a
String port. -/
def State.endDies (s : State) (r : Req) : Nat × Nat :=
  (match r.from_ with
    | some f => s.portDie (f.1 / 1024)
    | none => dieOf r.station,
   if r.ringDest ≠ s.cfg.pkg then s.portDie r.ringDest else if (ReqKind.access r).isSome then gvaDie r.gva else hDie r.gva)

/-- Whether a request is on its way from its owning die to the PCIe controller's attach station on die 0, or waits for its
completion, which comes through it (R442). -/
def Req.toAttach (r : Req) : Bool :=
  match r.stage with
  | .hostOut _ => true
  | .translated (.pcie _) => true
  | _ => false

/-- Whether a request or its answer travels over a link (R11, R15, R442). -/
def State.travels (s : State) (r : Req) (l : Link) : Bool :=
  let e := s.endDies r
  let path := dieRoute e.1 e.2 ++ dieRoute e.2 e.1 ++ (if r.toAttach then dieRoute e.2 0 ++ dieRoute 0 e.2 else [])
  match l with
  | .mesh d _ => e.1 == d || e.2 == d || (r.toAttach && d == 0) || path.any fun c => c.1 == d || c.2 == d
  | .dieLink a b => path.contains (a, b) || path.contains (b, a)
  | .string east => r.stage == .remote && Config.routeEast s.cfg.ringN s.cfg.pkg r.ringDest == east
  | .capo => r.kind.isTrq

/-- Requests that a failed link loses (R406). -/
def State.loseReqs (s : State) (reqs : List Nat) : State :=
  reqs.foldl (fun s n => match s.req n with
    | some r => s.faultReq n r (causeOf 14 r.src 1)
    | none => s) s

/-- The record of a link's loss, on which management resets the die or the package (R403). -/
def State.linkRecord (s : State) (l : Link) : State :=
  let d := Link.die l
  s.addRecord d { s.slotRecord (2048 * d) (causeOf 14 5 1) 4 7 0 0 0 0 with gridw := 0, link := some l }

/-- LINK_FAIL (R403, R406): a link with no spares left; the requests in flight on it are lost, and each grid that had one takes
LINKFAIL with the requester's source. A String port that fails breaks the ring: what waits for an answer across the break takes
LINKFAIL, and so does what is sent across it from then on. -/
def execLinkFail (link : Link) (reqs : List Nat) (s : State) : Out :=
  .next (match link with
    | .capo => s.linkDown
    | .string east =>
      let s : State := { s with eastDown := s.eastDown || east, westDown := s.westDown || !east }
      (s.loseReqs ((s.reqs.filter fun e => s.travels e.2 (.string east)).map (·.1))).linkRecord (.string east)
    | l => (s.loseReqs (reqs.filter fun n => ((s.req n).map fun r => s.travels r l).getD false)).linkRecord l)

/-! ### Retirement (R401, R415, R416) -/

/-- RASVEC's interrupt on a change of UECNT or REPAIR. -/
def State.rasChange (s : State) (d : Nat) : State :=
  let v := (s.die d).rasvec
  if v.getLsbD 15 then { s with pcie := s.pcie ++ [.msix 0 (v.toNat % 2048)] } else s

/-- Whether a row's spare is in use. -/
def Die.spareUsed (d : Die) (row : Nat) : Bool := d.repair.getLsbD (32 + row)

/-- REPAIR takes a value (R401). -/
def State.setRepair (s : State) (d : Nat) (w : Word) : State :=
  if (s.die d).repair = w then s else (s.modDie d fun x => { x with repair := w }).rasChange d

/-- The number of the physical slice at a logical station's place: 17 in each row (R415). -/
def CfgTable.physical (c : CfgTable) (st : Nat) : Nat :=
  17 * (st / 16) + colOf st + (if c.shift.getD (st / 16) 16 ≤ colOf st then 1 else 0)

/-- SRAM rows of a slice are replaced by spare ones, of which it has 64 (R415); REPAIR[15:0] counts them and saturates (R401). -/
def State.spareRows (s : State) (st rows : Nat) : State :=
  let p := s.cfg.physical st
  let used := (tblGet s.sliceRows p).getD 0
  let n := min rows (64 - used)
  if n = 0 then s
  else
    let w := (s.die (dieOf st)).repair
    ({ s with sliceRows := tblPut s.sliceRows p (used + n) } : State).setRepair (dieOf st)
      ((w &&& ~~~0xFFFF#64) ||| BitVec.ofNat 64 (min 0xFFFF (bits w 15 0 + n)))

/-- Every context whose section holds a station is to be moved by management (R416), and is suspended now unless a command on it is in
progress. -/
def State.suspendAt (s : State) (st : Nat) : State :=
  (s.ctxs.filter fun e => s.inSection e.1 st).foldl (fun s e =>
    let s := s.modCtx e.1 fun x => { x with evacuate := true }
    if (s.ctx e.1).busy then s else s.suspendCtx e.1) s

/-- A failed station is retired: its row shifts to the spare, or it is marked FAILED and its contexts are suspended. -/
def State.retire (s : State) (st : Nat) : State :=
  let d := dieOf st
  let row := rowOf st
  let set (i : Nat) (s : State) : State := s.setRepair d ((s.die d).repair ||| BitVec.ofNat 64 (2 ^ i))
  if (s.die d).spareUsed row then set (16 + row) ((s.modStation st fun S => { S with failed := true }).suspendAt st)
  else set (32 + row) { s with cfg := { s.cfg with shift := listSet s.cfg.shift (16 * d + row) (colOf st) } }

/-! ### Package reset and boot (R402, R434, R438, R441) -/

/-- Exactly one package of the ring is its head (R434). -/
def CfgTable.oneHead (c : CfgTable) : Bool := c.otherHeads + c.ringHead.toNat == 1

/-- A package whose every volatile part is lost: the configuration flash, the image slots, and what the world outside will do
are left. The ring is as it is cabled when it has one head; otherwise the package is a ring of one, and its String ports are down
(R434). -/
def State.dark (s : State) (b : Boot) : State :=
  { State.reset with
    agenda := s.agenda
    cfg := { s.cfg with
      ringN := if s.cfg.oneHead then s.cfg.wiredN else 1
      pkg := if !s.cfg.oneHead || s.cfg.ringHead then 0 else s.cfg.wiredPkg }
    eastDown := !s.cfg.oneHead
    westDown := !s.cfg.oneHead
    fw := { s.fw with busy := false, cause := 0, src := 0, len := 0, trialTime := 17166, copying := false, swap := none, handover := [] }
    boot := b }

/-- PACKAGE_RESET (R438): PERST# is asserted, or power is applied; after THERMTRIP only power's removal ends the reset. -/
def execPackageReset (s : State) : Out :=
  .next (if s.boot.trip then s else s.dark { step := 0, perst := true })

/-- THERMTRIP (R441). -/
def execThermtrip (s : State) : Out := .next (if s.boot.off then s else s.dark { step := 0, trip := true })

/-- POWER_REMOVAL (R441). -/
def execPowerRemoval (s : State) : Out := .next (s.dark { step := 0, off := true })

/-- RING_TOKEN_TIMEOUT (R434): the package boots as a ring of one, and its String ports stay down until the next package reset. -/
def execRingTokenTimeout (s : State) : Out :=
  .next (if s.boot.perst then { s with cfg := { s.cfg with ringN := 1, pkg := 0 }, eastDown := true, westDown := true } else s)

/-- The slots whose images the boot tries, in order (R418): the ACTIVE one, then the STANDBY one. -/
def Firmware.bootOrder (f : Firmware) : List (Fin 2) :=
  let slots : List (Fin 2) := [0, 1]
  (slots.filter fun i => f.slot[i] = .active) ++ slots.filter fun i => f.slot[i] = .standby

/-- The boot tries images in order (R417, R438): one whose signatures fail, or whose version is below the package's minimum, is
INVALID with its cause; the slot that is loaded, if there is one. -/
def Firmware.bootTry (f : Firmware) (ok : Vector Bool 2) : List (Fin 2) → Firmware × Option (Fin 2)
  | [] => (f, none)
  | i :: l =>
    if ok[i] && decide (f.minSvn ≤ f.svns[i]) then (f, some i)
    else ({ f with slot := f.slot.set i .invalid, cause := if ok[i] then 0x373 else 0x370 } : Firmware).bootTry ok l

/-- Boot step 7 (R438), with a slot's image running: the guest's reset signal is released. -/
def State.booted (s : State) (i : Fin 2) : State :=
  { s with
    boot := {}
    fw := { s.fw with run := i }
    guest := { s.guest with st := if s.cfg.guestPresent then .resetting else .absent } }

/-- A hardware event that ends no grid is recorded (R400), with a code that the event's place has in R398 (log entry 80). -/
def State.hwRecord (s : State) (d : Nat) (code : Cause) (master : Fin 8) (addr : Word) : State :=
  s.addRecord d { s.slotRecord (2048 * d) code 4 master 0 0 addr 0 with gridw := 0 }

/-- A failed station whose slice fails too is retired: where no spare is left, the state that the die shares is lost, and management
resets the die (R402, R416). -/
def State.retireSlice (s : State) (st : Nat) : State :=
  (if (s.die (dieOf st)).spareUsed (rowOf st) then s.hwRecord (dieOf st) (causeOf 14 4 0) 5 (BitVec.ofNat 64 (stationWord st)) else s).retire st

/-- REPAIR's rows whose spare the table's shift points use. -/
def shiftRows (shift : List Nat) (d : Nat) : Word :=
  ((numsFrom 0 16).filter fun r => decide (shift.getD (16 * d + r) 16 < 16)).foldl (fun w r => w ||| BitVec.ofNat 64 (2 ^ (32 + r))) 0

/-- Boot step 3 (R415, R416, R438): the table's shift points are applied, spares replace the SRAM rows that fail, and each station
that fails its self-test is retired. -/
def State.bootTests (s : State) (found : BootCheck) : State :=
  let c := s.cfg.tableShift
  let s : State := { s with
    cfg := { s.cfg with shift := c }
    dies := Vector.ofFn fun d => { s.dies[d] with repair := shiftRows c d.val } }
  let s := found.rows.foldl (fun s e => s.spareRows e.1 e.2) s
  found.failed.foldl (fun s st => if found.slices.contains st then s.retireSlice st else s.retire st) s

/-- A halt of the boot at a step (R438): after step 1 the boot ROM enters recovery, and FWSTAT holds the cause. -/
def State.bootHalt (s : State) (n : Nat) (c : Cause) : State :=
  { s with boot := { step := n, halted := some c, recovery := decide (1 < n) }, fw := { s.fw with cause := c } }

/-- Boot step 6 with a slot's image loaded (R438, R439): the role map is applied, and a table that breaks its rules or the limits of
R440 halts the boot (log entry 90). -/
def State.bootRoles (s : State) (i : Fin 2) : State := if s.cfg.rolesOk && s.cfg.limitsOk then s.booted i else s.bootHalt 6 0x374

/-- PERST_DEASSERTION (R438): the boot runs to step 7, or halts with the step and cause of the failure. -/
def execPerstDeassertion (found : BootCheck) (lp6Ok : Bool) (images : Vector Bool 2) (s : State) : Out :=
  .next (
    if !s.boot.perst then s
    else if !found.clocks then s.bootHalt 1 0
    else if !found.table then s.bootHalt 2 0x371
    else
      let s := s.bootTests found
      if !lp6Ok || !s.cfg.sharesOk then s.bootHalt 4 0x374
      else
        let r := s.fw.bootTry images s.fw.bootOrder
        let s : State := { s with fw := r.1 }
        match r.2 with
        | none => s.bootHalt 5 (if r.1.cause = 0 then 0x370 else r.1.cause)
        | some i => s.bootRoles i)

/-- CONFIGURATION_REQUEST (R438): until step 7 it is to be retried; in recovery the physical function alone answers. What the
configuration registers hold is PCIe's, and the model keeps what is written. -/
def execConfigurationRequest (req : CfgReq) (s : State) : Out :=
  .next (
    let b := s.boot
    let funcs := if b.recovery then 1 else s.cfg.funcWorlds.length
    let answer (s : State) (o : PcieOut) : State := { s with pcie := s.pcie ++ [o] }
    if b.off ∨ b.trip ∨ (b.halted.isSome ∧ !b.recovery) then s
    else if !b.recovery ∧ b.step ≠ 7 then answer s (.config 0 true)
    else
      match req with
      | .read f off =>
        if funcs ≤ f then answer s (.completion f 4 0 .unsupported)
        else answer s (.config ((tblGet s.cfgSpace (f * 4096 + off)).getD 0) false)
      | .write f off v =>
        if funcs ≤ f then answer s (.completion f 4 0 .unsupported)
        else answer { s with cfgSpace := tblPut s.cfgSpace (f * 4096 + off) v } (.config v false))

end Sys2Proof.Machine
end

