-- ==== Sys2Proof/Machine/Branch.lean ====
section
/-! DEFINITION. Branches and jumps: majors 0x10 to 0x18 (R114 to R118). A taken target that fails R37 is the
precise fault GVARANGE, with the PC and x[d] unchanged. -/

namespace Sys2Proof.Machine

/-- Going to a target, or GVARANGE at the branch itself (R118). -/
def State.goto (s : State) (target : Word) : State :=
  if gvaOk s.cfg target then s.jump target else s.faultAt 0x082 target

/-- A conditional branch (R48, R114): PC + 4 · off15 when taken, else PC + 4. -/
def State.branch (s : State) (t : Strand) (off : BitVec 15) (taken : Bool) : State :=
  if taken then s.goto (t.pc + off.signExtend 64 <<< 2) else s.advance

/-- A Form D branch on two scalar sources. -/
def State.branchS (s : State) (a b : SReg) (off : BitVec 15) (e : Bool) (c : Word → Word → Bool) : Out :=
  s.issue 0 e [.s a, .s b] [] fun t => s.branch t off (c (s.sval t a) (s.sval t b))

/-- A BPRED: predicates have no full bit, so it never waits and never traps (R115). -/
def State.branchP (s : State) (p : PReg) (off : BitVec 15) (e : Bool) (c : PWord → Bool) : Out :=
  s.issue 0 e [] [] fun t => s.branch t off (c (t.pred p))

/-- Taken when A = B (R114). -/
def execBeq (a b : SReg) (off : BitVec 15) (e : Bool) (s : State) : Out := s.branchS a b off e (fun a b => a == b)

/-- Taken when A ≠ B (R114). -/
def execBne (a b : SReg) (off : BitVec 15) (e : Bool) (s : State) : Out := s.branchS a b off e (fun a b => a != b)

/-- Taken when As < Bs (R114). -/
def execBlt (a b : SReg) (off : BitVec 15) (e : Bool) (s : State) : Out := s.branchS a b off e (fun a b => a.slt b)

/-- Taken when As ≥ Bs (R114). -/
def execBge (a b : SReg) (off : BitVec 15) (e : Bool) (s : State) : Out := s.branchS a b off e (fun a b => !a.slt b)

/-- Taken when Au < Bu (R114). -/
def execBltu (a b : SReg) (off : BitVec 15) (e : Bool) (s : State) : Out := s.branchS a b off e (fun a b => a.ult b)

/-- Taken when Au ≥ Bu (R114). -/
def execBgeu (a b : SReg) (off : BitVec 15) (e : Bool) (s : State) : Out := s.branchS a b off e (fun a b => !a.ult b)

/-- Taken when at least one bit is 1 (R115). -/
def execBpredAny (p : PReg) (off : BitVec 15) (e : Bool) (s : State) : Out := s.branchP p off e (fun p => p != 0)

/-- Taken when every bit is 1 (R115). -/
def execBpredAll (p : PReg) (off : BitVec 15) (e : Bool) (s : State) : Out := s.branchP p off e (fun p => p == BitVec.allOnes 256)

/-- Taken when every bit is 0 (R115). -/
def execBpredNone (p : PReg) (off : BitVec 15) (e : Bool) (s : State) : Out := s.branchP p off e (fun p => p == 0)

/-- Taken when at least one bit is 0 (R115). -/
def execBpredNall (p : PReg) (off : BitVec 15) (e : Bool) (s : State) : Out := s.branchP p off e (fun p => p != BitVec.allOnes 256)

/-- A write that waits for nothing stands over the results that are outstanding for its register, which then go nowhere (R33;
log entry 75). -/
def State.supersede (s : State) (t : Strand) (d : SReg) : State :=
  let mates : List Nat := match d with
    | .x _ => [t.tag]
    | .y _ => ((s.station s.curStation).chord.map (·.tags)).getD [t.tag]
  { s with results := s.results.map fun e =>
      if e.2.dst = .s d ∧ mates.contains e.2.tag = true then (e.1, { e.2 with dst := .none }) else e }

/-- x[d] ← PC + 4, then PC ← PC + 4 · off21 (R116). It waits for no register and traps on none (R51); a poisoned x[d] is the fault of
R123, and a loose strand names no y register (R49). -/
def execJal (d : SReg) (off : BitVec 21) (s : State) : Out :=
  .next (match s.curStrand with
    | none => s
    | some t =>
      let target := t.pc + off.signExtend 64 <<< 2
      if t.loose && Opnd.shared (.s d) then s.illegal 0 4
      else
        match poisonOf s s.cur t 0 0 (.s d) with
        | some p => s.faultPoison p
        | none =>
          if gvaOk s.cfg target then ((s.supersede t d).putS s.cur d (t.pc + 4)).jump target
          else s.faultAt 0x082 target)

/-- x[d] ← PC + 4 and PC ← Trunc64(A + I), with the TARGET and GVARANGE faults of R117; A is read first. -/
def execJalr (d a : SReg) (imm : BitVec 15) (e : Bool) (s : State) : Out :=
  s.issue 0 e [.s a] [.s d] fun t =>
    let target := s.sval t a + imm.signExtend 64
    if bits target 1 0 ≠ 0 then s.faultAt 0x081 target
    else if gvaOk s.cfg target then (s.putS s.cur d (t.pc + 4)).jump target
    else s.faultAt 0x082 target

end Sys2Proof.Machine
end

