-- ==== Sys2Proof/Machine/LoadStore.lean ====
section
/-! DEFINITION. Scalar loads and stores: LD and ST by GVA, LDL and STL by SLA (majors 0x19 to 0x1B, R120 to
R125). -/

namespace Sys2Proof.Machine

/-- A + Sext(imm12), Trunc64 (R120). -/
def dispAddr (a : Word) (imm : BitVec 12) : Word := a + imm.signExtend 64

/-- Trunc32(A + Sext(imm12)) (R124). -/
def dispSla (a : Word) (imm : BitVec 12) : Nat := (dispAddr a imm).toNat % 2 ^ 32

/-- The checks of a GVA access of n bytes: MISALIGN, then GVARANGE (R120, R217). -/
def gvaCheck (c : CfgTable) (a : Word) (n : Nat) : Option Cause :=
  if a.toNat % n ≠ 0 then some 0x080 else if gvaOk c a then none else some 0x082

/-- LD (R120, R122, R123). -/
def execLd (sz : LdSize) (d a : SReg) (imm : BitVec 12) (e : Bool) (s : State) : Out :=
  s.issue 0 e [.s a] [.s d] fun t =>
    let addr := dispAddr (s.sval t a) imm
    match gvaCheck s.cfg addr sz.bytes with
    | some c => s.faultAt c addr
    | none => (s.loadS t d addr sz.bytes sz.signed).advance

/-- ST (R121): the sources are a, then d. -/
def execSt (sz : Size) (d a : SReg) (imm : BitVec 12) (e : Bool) (s : State) : Out :=
  s.issue 0 e [.s a, .s d] [] fun t =>
    let addr := dispAddr (s.sval t a) imm
    match gvaCheck s.cfg addr sz.bytes with
    | some c => s.faultAt c addr
    | none => (s.storeBytes t (addrBytes addr.toNat sz.bytes (s.sval t d).toNat)).advance

/-- LDL (R124): out of range reads 0 and is recorded; a poisoned byte marks x[d] poisoned (R215). The strand waits while the
guest's cache owns the line (R213). -/
def execLdl (sz : Size) (d a : SReg) (imm : BitVec 12) (e : Bool) (s : State) : Out :=
  s.issue 0 e [.s a] [.s d] fun t =>
    let n := sz.bytes
    let sla := dispSla (s.sval t a) imm
    let st := s.curStation
    if sla % n ≠ 0 then s.faultAt 0x080 (BitVec.ofNat 64 sla)
    else if s.plateSize st < sla + n then
      ((s.recordOor t.ctx (BitVec.ofNat 64 sla)).putS s.cur d 0).advance
    else if !(s.station st).protOk t.protKind false sla n then
      s.freezeProt 0 sla
    else
      match s.recall (plateLoc st sla) n false with
      | some s' => s'.hold (.issue .plain)
      | none =>
        match s.readPoison (plateLoc st sla) n with
        | some k =>
          (s.setScell s.cur d { val := 0, poison := some ⟨t.pc, BitVec.ofNat 64 sla, poisonCode 0 k, t.tag⟩ }).advance
        | none => (s.putS s.cur d (extend n true (s.plateNat st sla n))).advance

/-- STL (R124): out of range writes nothing and is recorded. The strand waits while the guest's cache holds the line (R213). -/
def execStl (sz : Size) (d a : SReg) (imm : BitVec 12) (e : Bool) (s : State) : Out :=
  s.issue 0 e [.s a, .s d] [] fun t =>
    let n := sz.bytes
    let sla := dispSla (s.sval t a) imm
    let st := s.curStation
    if sla % n ≠ 0 then s.faultAt 0x080 (BitVec.ofNat 64 sla)
    else if s.plateSize st < sla + n then (s.recordOor t.ctx (BitVec.ofNat 64 sla)).advance
    else if !(s.station st).protOk t.protKind true sla n then s.freezeProt 0 sla
    else
      match s.recall (plateLoc st sla) n with
      | some s' => s'.hold (.issue .plain)
      | none => (s.plateWrite st sla (bytesOf n (s.sval t d).toNat)).advance

end Sys2Proof.Machine
end

