-- ==== Sys2Proof/Machine/Phase.lean ====
section
/-! DEFINITION. Phases and fences: major 0x1C (R218 to R221). -/

namespace Sys2Proof.Machine

/-- Beginning a release: the covered lines are merged, and the strand is held until they are at their homes in the
scope (R198, R218). The cover is the stores of earlier cycles. -/
def State.beginRelease (s : State) (sc : Scope) (acq : Bool) : State :=
  let st := s.curStation
  let mark := (s.station st).cycAge
  (s.mergeCovered st mark).hold (.release sc mark s.nextAge acq)

/-- PHASE.R (R198, R218); PHASE_RELEASE_COMPLETE ends the hold. -/
def execPhaseR (sc : Scope) (e : Bool) (s : State) : Out :=
  s.issue 0 e [] [] fun _ => s.beginRelease sc false

/-- PHASE.A (R199, R218). -/
def execPhaseA (sc : Scope) (e : Bool) (s : State) : Out :=
  s.issue 0 e [] [] fun t => (s.acquire t.who s.curStation sc).advance

/-- PHASE.RA: the release, then the discard, as one instruction (R199, R218). -/
def execPhaseRa (sc : Scope) (e : Bool) (s : State) : Out :=
  s.issue 0 e [] [] fun _ => s.beginRelease sc true

/-- QFENCE (R206, R219): the marks are taken when it issues; the strand is held until the condition holds. -/
def execQfence (m : BitVec 4) (e : Bool) (s : State) : Out :=
  s.issue 0 e [] [] fun t =>
    let st := s.curStation
    let S := s.station st
    let h : Hold := match t.hold with
      | .qfence m c mm r => .qfence m c mm r
      | _ => .qfence m S.cpy.entered S.eng.entered s.nextId
    match h with
    | .qfence m c mm r => if s.qfenceDone t st m c mm r then s.advance else s.hold h
    | _ => s

/-- Every line of a station's instruction cache is discarded, and lines that other packages are asked for come to none (R220). -/
def State.fencei (s : State) (st : Nat) : State :=
  { s.modStation st fun S => { S with icache := [] } with
    reqs := s.reqs.map fun e => if e.2.kind = .fetch ∧ e.2.station = st then (e.1, { e.2 with install := false }) else e }

/-- FENCEI (R220): the station's instruction cache is discarded. A body that VREP repeats is kept. -/
def execFencei (e : Bool) (s : State) : Out := s.issue 0 e [] [] fun _ => (s.fencei s.curStation).advance

/-- PREF.l1 (R221): a fill request for the line, discarded if A fails R37. -/
def execPrefL1 (a : SReg) (e : Bool) (s : State) : Out :=
  s.issue 0 e [.s a] [] fun t =>
    let addr := s.sval t a
    if gvaOk s.cfg addr then
      (s.addReq (s.reqOf t (.fill true) (BitVec.ofNat 64 (addr.toNat / 64 * 64)) 0)).advance
    else s.advance

/-- PREF.home (R221): the home fetches the line from LP6, which no party can see (R190). -/
def execPrefHome (a : SReg) (e : Bool) (s : State) : Out :=
  s.issue 0 e [.s a] [] fun _ => s.advance

end Sys2Proof.Machine
end

