-- ==== Sys2Proof/Machine/Recovery.lean ====
section
/-! DEFINITION. Recovery: errors in storage, what management does with records, self-tests, weight shards, and firmware images
(R368, R369, R400 to R419). -/

namespace Sys2Proof.Machine

/-! ### RAS counters (R401) -/

/-- UECNT. -/
def State.countUe (s : State) (d : Nat) : State := (s.modDie d fun x => { x with uecnt := x.uecnt + 1 }).rasChange d

/-- The counters that a mask clears. -/
def Die.rasClear (d : Die) (m : Word) : Die :=
  { d with
    cecnt := if bit m 0 then 0 else d.cecnt
    uecnt := if bit m 1 then 0 else d.uecnt
    linkrty := if bit m 2 then 0 else d.linkrty
    lanespare := if bit m 3 then 0 else d.lanespare
    lateflt := if bit m 4 then 0 else d.lateflt
    recdrop := if bit m 5 then 0 else d.recdrop }

/-- RAS_CLEAR on a die. -/
def State.rasClear (s : State) (die : Nat) (m : Word) : State :=
  let s' := s.modDie die fun x => x.rasClear m
  if bit m 1 && (s.die die).uecnt != 0 then s'.rasChange die else s'

/-- RAS_CLEAR (R401). -/
def execRasClear (die : Nat) (mask : Word) (s : State) : Out := .next (s.rasClear die mask)

/-! ### Uncorrectable errors (R403, R405) -/

/-- A block is poisoned at its home, and recorded. -/
def State.poisonBlock (s : State) (d key kind : Nat) : State := (s.setPoison key kind).hwRecord d 0x1E0 5 (BitVec.ofNat 64 (key / 64 * 64))

/-- Dirty bytes of a line are lost: they stay in the write set as poison, and the block is poisoned when it merges, in its place in
home order (R215). -/
def State.loseDirty (s : State) (st line : Nat) : State :=
  if (s.station st).stores.any fun x => x.line == line then
    (s.modStation st fun S => { S with stores := S.stores.map fun x => if x.line = line then { x with bad := true } else x }).hwRecord
      (dieOf st) 0x1E0 5 (BitVec.ofNat 64 (line * 64))
  else s

/-- STATEUE in a strand, of the scalar or the vector unit: its grid ends; a strand without a grid leaves its slot. -/
def State.strandUe (s : State) (k : Nat) (vector : Bool) : State :=
  match s.slot k with
  | none => s
  | some _ => ({ s with cur := k } : State).faultCur (causeOf 14 (if vector then 1 else 0) 0) 1 0 0

/-- The grids that own what stands in a station's copy queue, the one in progress first. -/
def State.copyUe (s : State) (st : Nat) : State :=
  match (s.station st).cpy.handlerQ ++ (s.station st).cpy.queue with
  | [] => s
  | i :: _ =>
    match i.host with
    | some _ => s.cpyFail st i (causeOf 14 3 0) 0
    | none => s.faultDeferred i.grid (causeOf 14 3 0) 2 i.slot 0

/-- The source of STATEUE in state that a die shares (R398, R403): a slice's home directory, the DTU, a proof table. -/
def unitSource : DieUnit → Nat
  | .directory => 4
  | .dtu => 5
  | .proofs => 6

/-- UNCORRECTABLE_ERROR (R405). A clean copy is recorded with 0x380, and a clean slice line that is read again with 0x1E0 (DEDUCED; log
entry 80). -/
def execUncorrectableError (place : ErrPlace) (s : State) : Out :=
  .next (match place with
    | .cleanCopy st line =>
      ((s.modStation st fun S => { S with
        clean := S.clean.filter fun c => c.1 / 64 != line, icache := tblDel S.icache line }).hwRecord (dieOf st) 0x380 0
          (BitVec.ofNat 64 (line * 64))).countUe (dieOf st)
    | .dirtyByte st line => (s.loseDirty st line).countUe (dieOf st)
    | .sliceData key clean =>
      let d := dieOf (keyHome key)
      (if clean && decide (key < 2 ^ 52) then s.hwRecord d 0x1E0 5 (BitVec.ofNat 64 (key / 64 * 64)) else s.poisonBlock d key 0).countUe d
    | .lp6Data key => (s.poisonBlock (key / 2 ^ 48 % 4) key 2).countUe (key / 2 ^ 48 % 4)
    | .slotState k vector => (s.strandUe k vector).countUe (dieOf (stationOf k))
    | .matrixState st =>
      (match (s.station st).chord with
        | some c => s.faultDeferred c.grid (causeOf 14 2 0) 1 (8 * st) 0
        | none => s.hwRecord (dieOf st) (causeOf 14 2 0) 1 0).countUe (dieOf st)
    | .copyState st => (s.copyUe st).countUe (dieOf st)
    | .dieState d unit => (s.hwRecord (d % 4) (causeOf 14 (unitSource unit) 0) 5 0).countUe (d % 4))

/-- Single-bit errors that a die corrects (R401, R405). -/
def State.corrected (s : State) (d n : Nat) : State := s.modDie d fun x => { x with cecnt := x.cecnt + BitVec.ofNat 64 n }

/-- SLICE_SCRUB (R401, R405, R415): a slice reads and corrects its lines, without changing any value or order; what was corrected
is counted, and a spare replaces each row that needed more than 4 corrections. -/
def execSliceScrub (found : ScrubResult) (s : State) : Out :=
  .next ((s.corrected (dieOf found.station) found.rows.sum).spareRows found.station (found.rows.filter fun n => decide (4 < n)).length)

/-! ### Self-test and repair (R415, R416) -/

/-- STATION_SELF_TEST (R400, R402, R415, R416): a test begins on a compute station that is free and holds no strand, once its writes are
at their homes, and returns the station to reset; the next such event ends it with its result and with the SRAM rows that spares replace. A failure is a
hardware event; where no spare is left and the slice fails too, it is one in state that the die shares, and management resets the
die. -/
def execStationSelfTest (station : Nat) (found : TestResult) (s : State) : Out :=
  .next (
    let S := s.station station
    if S.testing then
      let s := (s.modStation station fun S => { S with testing := false }).spareRows station found.rows
      if found.pass then s
      else
        let s := s.hwRecord (dieOf station) 0x380 0 (BitVec.ofNat 64 (stationWord station))
        if found.slice then s.retire station else s.retireSlice station
    else if isBridge s.cfg station || s.taken station || !S.runq.isEmpty || s.strands.any fun e => stationOf e.1 == station then s
    else if !s.writesHeld station .ring s.nextAge 0 then s.releaseAll station
    else (s.clearStation station).modStation station fun S => { S with testing := true })

/-! ### Management (R368, R369, R400, R402, R403) -/

/-- Management ends a grid with a freeze's cause. -/
def State.endGridBy (s : State) (gk : Nat) (code : Cause) (addr : Word) : State :=
  match s.gridOf gk with
  | none => s
  | some g =>
    if g.st = .ending ∨ g.st = .faulted ∨ g.st = .done ∨ g.st = .refused then s
    else (s.modGrid gk fun g => { g with st := .ending, cause := code, addr := addr }).stopGrid gk

/-- Freezing every master of a grid that is not frozen. -/
def State.freezeGrid (s : State) (gk : Nat) (code : Cause) : State :=
  let slots := (s.strands.filter fun e => e.2.grid == gk && e.2.frozen.isNone).map (·.1)
  let chord (e : Nat × Station) : Bool := (e.2.chord.map fun c => c.grid == gk).getD false
  let engs := (s.stations.filter fun e => chord e && e.2.eng.frozen.isNone).map (·.1)
  let cpys := (s.stations.filter fun e => (chord e || (s.copyItems e.1).any fun i => i.grid == gk) && e.2.cpy.frozen.isNone).map (·.1)
  let s := slots.foldl (fun s k => s.freezeSlot k code 0) s
  let s := engs.foldl (fun s st => s.freezeEngine st code gk 0) s
  cpys.foldl (fun s st => s.freezeCopy st code gk 0) s

/-- A context marked for inspection: every master of the grid is frozen and the grid is held in ENDING. -/
def State.inspectGrid (s : State) (gk : Nat) (code : Cause) (addr : Word) : State :=
  match s.gridOf gk with
  | none => s
  | some g =>
    if g.st = .ending ∨ g.st = .faulted ∨ g.st = .done ∨ g.st = .refused then s
    else (s.modGrid gk fun g => { g with st := .ending, cause := code, addr := addr, hold := true }).freezeGrid gk code

/-- Whether a grid has a chord, course, proof or waiting request on a die. -/
def State.gridOnDie (s : State) (d gk : Nat) : Bool :=
  (s.strands.any fun e => e.2.grid == gk && dieOf (stationOf e.1) == d) ||
  (s.stations.any fun e => dieOf e.1 == d && (e.2.chord.map fun c => c.grid == gk).getD false) ||
  (s.saved.any fun v => match v with
    | .slot _ st t _ => t.grid == gk && dieOf st == d
    | .chord st c _ _ _ _ => c.grid == gk && dieOf st == d) ||
  (((s.gridOf gk).map fun g => g.bound.any fun k => k / 2 ^ 20 == d).getD false) ||
  (s.reqs.any fun e => e.2.grid == gk &&
    (dieOf e.2.station == d || (e.2.ringDest == s.cfg.pkg && (if (ReqKind.access e.2).isSome then gvaDie e.2.gva else hDie e.2.gva) == d)))

/-- Die reset (R402): the grids that touch the die take the event's code; its stations, slices, DTU and proof tables return
to reset, and translates again the requests of others that waited in it; LP6 stays, and so do the RAS block, the routers' firewall, which only a package reset unlocks (R371), and the records
management has to read. -/
def State.dieReset (s : State) (d : Nat) (code : Cause) : State :=
  let hit := (s.grids.filter fun e => s.gridOnDie d e.1).map (·.1)
  let s := hit.foldl (fun s g => s.faultDeferred g code 6 (2048 * d) 0) s
  let plate (key : Nat) : Bool := decide (2 ^ 52 + d * 2 ^ 31 ≤ key) && decide (key < 2 ^ 52 + (d + 1) * 2 ^ 31)
  let D := s.die d
  let s := s.dropReqs ((s.reqs.filter fun e => dieOf e.2.station == d && decide (e.2.station < 1024)).map (·.1))
  let s : State := { s with
    strands := s.strands.filter fun e => dieOf (stationOf e.1) != d
    stations := s.stations.map fun e => if dieOf e.1 = d then (e.1, e.2.cleared) else e
    mem := s.mem.filter fun c => !plate c.1
    poison := s.poison.filter fun b => !plate (b.1 * 64)
    proofs := s.proofs.filter fun e => e.1 / 2 ^ 20 != d
    resv := s.resv.filter fun e => dieOf (keyHome e.1) != d
    queueWaits := s.queueWaits.filter fun e => dieOf (keyHome e.1) != d }
  let lost (r : Req) : Bool := (ReqKind.access r).isSome && gvaDie r.gva == d && gvaPkg r.gva == s.cfg.pkg && (match r.stage with
    | .walking => true
    | .buffered _ => true
    | _ => false)
  let s : State := { s with reqs := s.reqs.map fun e => if lost e.2 then (e.1, { e.2 with stage := .toDtu, joined := false, sent := 0 }) else e }
  s.modDie d fun _ => { ({} : Die) with
    mgmt := D.mgmt, cecnt := D.cecnt, uecnt := D.uecnt, linkrty := D.linkrty, lanespare := D.lanespare, lateflt := D.lateflt,
    recdrop := D.recdrop, repair := D.repair, rasvec := D.rasvec, fwallow := D.fwallow }

/-- What management does with a record. -/
def State.manage (s : State) (d : Nat) (r : Record) : State :=
  let cls := r.code.toNat / 64
  let unit := r.code.toNat / 8 % 8
  if r.kind = 2 then
    match r.master.val with
    | 3 => s
    | 4 => if s.cfg.guestInspect then s else if s.guest.st = .frozen then s.guestReset s.guest.lastCause else s
    | _ =>
      match s.gridOf r.grid with
      | none => s
      | some g => if s.cfg.inspect.getLsbD g.ctx then s.inspectGrid r.grid r.code r.addr else s.endGridBy r.grid r.code r.addr
  else if r.kind = 4 ∧ cls = 14 ∧ r.master = 7 then
    match r.link with
    | some (.dieLink _ _) => s.dark { step := 0, perst := true }
    | some (.mesh _ _) => s.dieReset d r.code
    | _ => s
  else if r.kind = 4 ∧ cls = 14 ∧ r.code.toNat % 8 = 0 ∧ 4 ≤ unit ∧ unit ≤ 6 then s.dieReset d r.code
  else s

/-- MANAGEMENT_RECORD_HANDLE (R400): the oldest record is dequeued and acted on; the event of a dropped one is acted on too. -/
def execManagementRecordHandle (die : Nat) (s : State) : Out :=
  .next (
    let s := s.mgmtFlush die
    match (s.die die).mgmt with
    | [] => s
    | r :: rest =>
      match s.recallTake s.cfg.mgmtGva[(Fin.ofNat 4 die)] r.seq with
      | some s' => s'
      | none =>
      ((s.modDie die fun x => { x with mgmt := rest }).devTake s.cfg.mgmtGva[(Fin.ofNat 4 die)] r.seq).manage die r)

/-! ### Weight shards (R411 to R413) -/

/-- The rules of a shard descriptor (R411), but for what is registered. -/
def shardBad (c : CfgTable) (desc : Word) (bs : List Byte) : Bool :=
  let w (o : Nat) : Word := wordOf bs o
  let len := (w 16).toNat
  desc.toNat % 64 != 0 || (w 8).toNat % 64 != 0 || len % 64 != 0 || decide (len < 64) || decide (2 ^ 32 < len) ||
  (w 24).toNat % 8 != 0 || !handleOk c (w 32) || w 56 != 0 ||
  !gvaOk c (w 0) || !gvaOk c (w 0 + BitVec.ofNat 64 (len - 1)) || !gvaOk c (w 8) || !gvaOk c (w 8 + BitVec.ofNat 64 (len - 1)) ||
  !gvaOk c (w 24) || !gvaOk c (w 24 + 47)

/-- Whether two ranges of a context's addresses overlap. -/
def Shard.overlaps (x : Shard) (c : Nat) (dst : Word) (len : Nat) : Bool :=
  x.ctx == c && decide (x.dst.toNat < dst.toNat + len) && decide (dst.toNat < x.dst.toNat + x.len)

/-- The lowest free index of the registry. -/
def State.shardFree (s : State) : Option Nat := (numsFrom 0 (s.shards.length + 1)).find? fun i => (tblGet s.shards i).isNone && decide (i < 4096)

/-- A command that completes with FAULT. -/
def State.failCmd (s : State) (q : Nat) (c : Cmd) (code : Cause) (addr : Word) : State :=
  (s.feRecord q code addr).consume q { c with ready := true, fault := true, cause := code, addr := addr }

/-- A LOADSHARD whose descriptor is read: refused, or a registry entry in LOADING, which STATUS shows first. A shard that is being
loaded or checked is not loaded again until that ends. -/
def State.loadShard (s : State) (q n : Nat) (c : Cmd) (bs : List Byte) : State :=
  let desc := c.word 0
  let w (o : Nat) : Word := wordOf bs o
  let ctx := s.queueCtx q
  let dst := w 8
  let len := (w 16).toNat
  let toHost := match s.translate (s.loadWho ctx dst) dst .locate with
    | .ok (.pcie _) _ => true
    | _ => false
  let same (x : Shard) : Bool := x.ctx == ctx && x.dst == dst && x.len == len
  if shardBad s.cfg desc bs || toHost || s.shards.any (fun e => e.2.overlaps ctx dst len && !same e.2) then s.failCmd q c 0x25D desc
  else
    let x : Shard := { ctx := ctx, sdesc := desc, src := w 0, dst := dst, len := len, dig := w 24, proof := w 32, timeout := w 40,
                       st := .loading, q := q, cmd := n }
    let start (i : Nat) (before : State → State) : State :=
      match s.statusPut (s.queueWho q) desc (shardWord false .loading i 0) with
      | .wait s => s
      | .go s =>
        let s := (before s).consume q c
        ({ s with shards := tblPut s.shards i x } : State).shardCopy i x
    if 16 ≤ (s.station (s.queueStation q)).cpy.queue.length then s
    else
      match s.shards.find? fun e => same e.2 with
      | some (i, y) =>
        if y.st = .loading ∨ y.st = .checking ∨ y.fail.isSome then s
        else start i fun s => if y.st = .valid then s.withdrawProof y else s
      | none =>
        match s.shardFree with
        | none => s.failCmd q c 0x375 desc
        | some i => start i id

/-- LOADSHARD (R411, R412). -/
def execLoadshard (q : Nat) (s : State) : Out :=
  s.cmdEvent q 7 fun n _ c s =>
    match s.unitRead (s.queueWho q) (c.word 0) 64 with
    | .wait f => f s
    | .fail code a => s.failCmd q c (if code = 0 then 0x25D else code) a
    | .ok x s => if x.2.isSome then s.failCmd q c 0x1F0 (c.word 0) else s.loadShard q n c x.1

/-- The front end's accesses for a shard's digest. -/
def State.shardWho (s : State) (n : Nat) (x : Shard) : UWho :=
  { who := s.frontWho x.ctx, station := s.queueStation x.q, own := 2 ^ 50 + n }

/-- Whether the SHA-384 of DST at its homes equals the expected digest; bytes that cannot be read differ. -/
def State.shardDigest (s : State) (n : Nat) (x : Shard) : URes Bool :=
  let u := s.shardWho n x
  match s.unitRead { u with who := s.loadWho x.ctx x.dst } x.dst x.len with
  | .wait f => .wait f
  | .fail _ _ => .ok false s
  | .ok d s =>
    match s.unitRead u x.dig 48 with
    | .wait f => .wait f
    | .fail _ _ => .ok false s
    | .ok e s => .ok (d.2.isNone && e.2.isNone && sha384 d.1 == e.1) s

/-- SHARD_CHECK (R411, R412): a failing shard's withholding goes on; of one in CHECKING, STATUS shows that first; then the digest decides: VALID with its proof published, or WITHHELD. -/
def execShardCheck (shard : Nat) (s : State) : Out :=
  .next (match tblGet s.shards shard with
    | none => s
    | some x =>
      if x.fail.isSome then s.shardFailing shard
      else if x.st ≠ .checking then s
      else if !x.shown then
        match s.statusPut (s.shardWho shard x) x.sdesc (shardWord false .checking shard 0) with
        | .wait s => s
        | .go s => { s with shards := tblMod s.shards shard fun x => { x with shown := true } }
      else
        match s.shardDigest shard x with
        | .wait f => f s
        | .fail _ _ => s
        | .ok good s =>
          let s := s.unitEnd (2 ^ 50 + shard)
          if good then ((s.shardTo shard .valid).frontProof x.q x.ctx .proofPub x.proof).cmdReady x.q x.cmd 0 0
          else s.shardFail shard .withheld 0x1F1 true)

/-- SHARD_LOAD_TIMEOUT (R412): the transfer is given up. -/
def execShardLoadTimeout (shard : Nat) (s : State) : Out :=
  .next (match tblGet s.shards shard with
    | none => s
    | some x =>
      if x.st ≠ .loading ∨ x.timeout = 0 ∨ x.fail.isSome then s
      else
        let mine (i : CItem) : Bool := i.host == some (256, shard)
        let gone := s.reqs.filter fun e => (match e.2.kind with
            | .copyRead _ => true
            | .copyWrite => true
            | _ => false) && (s.station e.2.station).cpy.queue.any fun i => mine i && i.n == e.2.age
        let s := s.dropReqs (gone.map (·.1))
        let s : State := { s with stations := s.stations.map fun e =>
          (e.1, { e.2 with cpy := { e.2.cpy with queue := e.2.cpy.queue.filter fun i => !mine i } }) }
        s.shardFail shard .absent 0x1F2 true)

/-- SHARD_RECHECK (R413): a VALID shard whose bytes differ is withheld and withdrawn. -/
def execShardRecheck (shard : Nat) (s : State) : Out :=
  .next (match tblGet s.shards shard with
    | none => s
    | some x =>
      if x.st ≠ .valid ∨ x.fail.isSome then s
      else
        match s.shardDigest shard x with
        | .wait f => f s
        | .fail _ _ => s
        | .ok good s =>
          let s := s.unitEnd (2 ^ 50 + shard)
          if good then s else s.shardFail shard .withheld 0x1F1 false)

/-! ### Firmware images (R417 to R419) -/

/-- Whether FWCMD is accepted: after boot, or after a halt at step 5; never while a command is in progress. -/
def State.fwAccepts (s : State) : Bool :=
  !s.fw.busy && (s.boot.up || (s.boot.recovery && s.boot.step == 5))

/-- The image at FWSRC is copied into a slot (R418), when the guest's cache holds none of its lines (R213): FWSRC names a die in
[50:49] and a byte of its LP6 in [47:0] (log entry 89). -/
def State.copyImage (s : State) (i : Fin 2) : State :=
  let l : Loc := .lp6 (bits s.fw.src 50 49) (bits s.fw.src 47 0)
  match s.recallLines false (s.guestRange l s.fw.len.toNat) with
  | some s' => { s' with fw := { s'.fw with copying := true } }
  | none => { s with fw := { s.fw with copying := false, image := s.fw.image.set i (s.homeBytes l s.fw.len.toNat) } }

/-- STAGE of a slot that is not running. -/
def State.stageFw (s : State) (i : Fin 2) : State :=
  let f := s.fw
  if !s.fwAccepts || (f.run == i && s.boot.up) then s
  else if f.slot[i] = .empty ∨ f.slot[i] = .invalid ∨ f.slot[i] = .standby then
    ({ s with fw := { f with slot := f.slot.set i .staged, busy := true } } : State).copyImage i
  else s

/-- STAGE (R418). -/
def execStage (slot : Nat) (s : State) : Out := .next (s.stageFw (Fin.ofNat 2 slot))

/-- FW_VERIFY_DONE (R417, R418): the signatures, then the security version, as the copied image has them. -/
def execFwVerifyDone (slot : Nat) (sigs : Bool) (svn : Nat) (s : State) : Out :=
  .next (
    let f := s.fw
    let i : Fin 2 := Fin.ofNat 2 slot
    if f.slot[i] ≠ .staged then s
    else if f.copying then s.copyImage i
    else if sigs ≠ Config.imageSigs f.image[i] ∨ svn ≠ Config.imageSvn f.image[i] then s
    else
      let f := { f with busy := false }
      if sigs && decide (f.minSvn ≤ svn) then { s with fw := { f with slot := f.slot.set i .valid, svns := f.svns.set i svn } }
      else { s with fw := { f with slot := f.slot.set i .invalid, cause := if sigs then 0x373 else 0x370 } })

/-- ACTIVATE of a slot: the swap of R419 begins, in which every role writes its handover record; after a halt at step 5 the boot goes
on with the slot on trial. -/
def State.activateFw (s : State) (i : Fin 2) : State :=
  let f := s.fw
  if !s.fwAccepts || (f.slot[i] != .valid && f.slot[i] != .standby) then s
  else
    let s : State := { s with fw := { f with slot := f.slot.set i .trial } }
    if s.boot.up then { s with fw := { s.fw with busy := true, swap := some i, handover := [] } } else s.bootRoles i

/-- A Bridge role writes its handover record; after the last one the new image runs, on trial (R419). -/
def State.handOver (s : State) (st : Nat) : State :=
  let f := s.fw
  match f.swap with
  | none => s
  | some i =>
    let l := if s.cfg.roles.any fun e => e.1 == st then addOnce f.handover st else f.handover
    if s.cfg.roles.all fun e => l.contains e.1 then { s with fw := { f with busy := false, run := i, swap := none, handover := l } }
    else { s with fw := { f with handover := l } }

/-- ACTIVATE (R418, R419). -/
def execActivate (slot : Nat) (s : State) : Out := .next (s.activateFw (Fin.ofNat 2 slot))

/-- A Bridge station that a revert resets (R402, R419): its stores still merge (R201), and a COPY or LOADSHARD in progress
starts again from its beginning. -/
def Station.reverted (S : Station) : Station :=
  let fresh (i : CItem) : CItem := { i with got := [], dgot := [], put := 0, bst := false, done := none }
  { S.cleared with
    stores := S.stores
    cpy := { S.cleared.cpy with entered := S.cpy.entered, queue := (S.cpy.queue.filter fun i => i.host.isSome).map fresh } }

/-- What a Bridge station asked for that a revert gives up (R419): the accesses of its copy engine, and those of its strands that
are not at their homes whatever becomes of the strand; the front end's go on. -/
def Req.reverted (r : Req) : Bool :=
  match r.kind with
  | .copyRead _ => true
  | .copyWrite => true
  | _ => r.ctx == 64 && r.src != 6 && !r.survives

/-- A LOADSHARD starts again from its beginning (R419). -/
def State.reload (s : State) (n : Nat) : State :=
  match tblGet s.shards n with
  | none => s
  | some x =>
    let x' : Shard := { x with st := .loading, tries := 0, shown := false }
    ({ s.unitEnd (2 ^ 50 + n) with shards := tblPut s.shards n x' } : State).shardCopy n x'

/-- The Bridge stations are reset on a revert; the old image starts again from its records (R419). -/
def State.bridgeReset (s : State) : State :=
  let fw (e : Nat × Strand) : Bool := isBridge s.cfg (stationOf e.1) && e.2.ctx == 64
  let tags := (s.strands.filter fw).map (·.2.tag)
  let s := s.dropReqs ((s.reqs.filter fun e => isBridge s.cfg e.2.station && e.2.reverted).map (·.1))
  let s := (s.shards.filter fun e => e.2.st = .checking && e.2.fail.isNone).foldl (fun s e => s.reload e.1) s
  { s with
    strands := s.strands.filter fun e => !fw e
    results := s.results.filter fun e => !tags.contains e.2.tag
    stations := s.stations.map fun e => if isBridge s.cfg e.1 then (e.1, e.2.reverted) else e }

/-- The end of a trial: the slot is INVALID and the other image runs. -/
def State.revertFw (s : State) : State :=
  let f := s.fw
  if f.slot[f.run] ≠ .trial then s
  else ({ s with fw := { f with slot := f.slot.set f.run .invalid, run := 1 - f.run, cause := 0x372 } } : State).bridgeReset

/-- ABORT of a slot (R418): it ends a trial; a trial slot that a reset has left is INVALID too, with nothing to revert. FWCMD takes no ABORT after a halt in boot (R438). -/
def State.abortFw (s : State) (i : Fin 2) : State :=
  let f := s.fw
  if !s.boot.up || f.busy || f.slot[i] != .trial then s
  else if f.run = i then s.revertFw
  else { s with fw := { f with slot := f.slot.set i .invalid, cause := 0x372 } }

/-- ABORT (R418): of the slot on trial. -/
def execAbort (s : State) : Out := .next (s.abortFw (if s.fw.slot[s.fw.run] = .trial then s.fw.run else 1 - s.fw.run))

/-- TRIAL_DEADLINE (R418). -/
def execTrialDeadline (s : State) : Out := .next s.revertFw

end Sys2Proof.Machine
end

