-- ==== Sys2Proof/Machine/Register.lean ====
section
/-! DEFINITION. BAR0 (R273, R354, R401, R410, R417, R431, R432): what a write of 8 bytes to a register does, and what a
read of one gives. -/

namespace Sys2Proof.Machine

/-! ### Writes -/

/-- A write to a window block (R432). -/
def State.writeWindow (s : State) (f reg : Nat) (v : Word) : State :=
  let w := s.window f
  match reg with
  | 0 => { s with windows := tblPut s.windows f { w with valid := bit v 63, ctx := BitVec.ofNat 6 (bits v 5 0) } }
  | 8 => { s with windows := tblPut s.windows f { w with base := v } }
  | _ => s

/-- A write to a RAS block (R401). -/
def State.writeRas (s : State) (die reg : Nat) (v : Word) : State :=
  match reg with
  | 0x38 => s.rasClear die v
  | 0x40 => s.modDie die fun x => { x with rasvec := BitVec.ofNat 16 (bits v 15 0 &&& 0x87FF) }
  | _ => s

/-- A write to the guest block (R410). -/
def State.writeGuest (s : State) (reg : Nat) (v : Word) : State :=
  if reg = 8 ∧ bit v 0 ∧ (s.guest.st = .frozen ∨ s.guest.st = .online ∨ s.guest.st = .offline) then
    ({ s with guest := { s.guest with railsCut := false } } : State).guestReset 0x33D
  else s

/-- A write to FWCMD (R417, R418). -/
def State.writeFwcmd (s : State) (v : Word) : State :=
  let i : Fin 2 := if bit v 8 then 1 else 0
  if s.fw.busy then s
  else
    match bits v 3 0 with
    | 1 => s.stageFw i
    | 2 => s.activateFw i
    | 3 => s.abortFw i
    | _ => s

/-- A write to the firmware block (R417). -/
def State.writeFw (s : State) (reg : Nat) (v : Word) : State :=
  match reg with
  | 0x08 => { s with fw := { s.fw with src := v } }
  | 0x10 => { s with fw := { s.fw with len := v.setWidth 32 } }
  | 0x18 => { s with fw := { s.fw with trialTime := v.setWidth 32 } }
  | 0x20 => s.writeFwcmd v
  | _ => s

/-- A write to CTXCMD (R354): ignored for a secure context, and while a command is in progress; another value of the operation is
ignored, with error 1. -/
def State.writeCtxcmd (s : State) (c : Nat) (v : Word) : State :=
  if !s.managed c || (s.ctx c).busy then s
  else
    match bits v 3 0 with
    | 1 => s.suspendCtx c
    | 2 => s.resumeCtx c
    | 3 => s.migrateCtx c v
    | 4 => s.releaseCtx c
    | _ => s.modCtx c fun x => { x with error := 1 }

/-- A write to TAIL (R274), as QUEUE_TAIL_WRITE. -/
def State.writeTail (s : State) (q : Nat) (v : Word) : State :=
  match execQueueTailWrite q v s with
  | .next s' => s'
  | _ => s

/-- A write to CONTROL (R273): DISABLE, RESET and ENABLE in that order, each from the state the previous one left. -/
def State.writeControl (s : State) (q : Nat) (v : Word) : State :=
  let s := if bit v 2 then s.setQueue q (s.queue q).disable else s
  let s := if bit v 3 then s.setQueue q (s.queue q).reset else s
  if bit v 1 then s.enableQueue q else s

/-- A write to a host queue block (R273): BASE and CFG only while the queue is DISABLED. -/
def State.writeQueue (s : State) (q reg : Nat) (v : Word) : State :=
  let Q := s.queue q
  match reg with
  | 0x00 => if Q.st = .disabled then s.setQueue q { Q with base := v } else s
  | 0x08 => if Q.st = .disabled then s.setQueue q { Q with log2 := BitVec.ofNat 6 (bits v 5 0) } else s
  | 0x10 => s.writeTail q v
  | 0x30 => s.writeControl q v
  | _ => s

/-- The register block that an offset of BAR0 names for a function, with the place in it (R431). -/
inductive BarBlock where
  | window (f reg : Nat) | ras (die reg : Nat) | guest (reg : Nat) | fw (reg : Nat) | ctx (c reg : Nat) | queue (q reg : Nat) | none
  deriving DecidableEq, Repr

/-- A virtual function sees its own queue blocks and its own window block; a function sees no other function's queues (R273,
R431). -/
def State.barBlock (s : State) (func off : Nat) : BarBlock :=
  if 0x10000 ≤ off ∧ off < 0x14000 then
    let q := (off - 0x10000) / 64
    if s.cfg.queueFunc.any fun e => e.1 == q && e.2.1 == func then .queue q (off % 64) else .none
  else if 0x3000 ≤ off ∧ off < 0x3110 then
    let f := (off - 0x3000) / 16
    if func = 0 ∨ f = func then .window f (off % 16) else .none
  else if func ≠ 0 then .none
  else if 0x4000 ≤ off ∧ off < 0x4400 then .ras ((off - 0x4000) / 256) (off % 256)
  else if 0x5000 ≤ off ∧ off < 0x5010 then .guest (off - 0x5000)
  else if 0x6000 ≤ off ∧ off < 0x6028 then .fw (off - 0x6000)
  else if 0x8000 ≤ off ∧ off < 0x8800 then .ctx ((off - 0x8000) / 32) (off % 32)
  else .none

/-- REGISTER_WRITE (R431): after a halt in boot only the RAS and firmware blocks answer (R438); other writes, to read-only
registers and to unassigned offsets, are ignored. -/
def execRegisterWrite (func off : Nat) (value : Word) (s : State) : Out :=
  .next (
    if !s.boot.up && !s.boot.recovery then s
    else
      match s.barBlock func off with
      | .ras d reg => s.writeRas d reg value
      | .fw reg => s.writeFw reg value
      | .window f reg => if s.boot.up && func == 0 then s.writeWindow f reg value else s
      | .guest reg => if s.boot.up then s.writeGuest reg value else s
      | .ctx c reg => if s.boot.up && reg == 0 then s.writeCtxcmd c value else s
      | .queue q reg => if s.boot.up then s.writeQueue q reg value else s
      | .none => s)

/-! ### Reads -/

/-- Fields put side by side, the first lowest: width and value. -/
def packFields : List (Nat × Nat) → Nat
  | [] => 0
  | (w, v) :: l => v % 2 ^ w + 2 ^ w * packFields l

/-- STATUS.STATE (R273). -/
def QState.code : QState → Nat
  | .disabled => 0
  | .idle => 1
  | .active => 2
  | .waiting => 3
  | .suspended _ => 4
  | .faulted => 5

/-- A slot's state as FWSTAT shows it (R418). -/
def FwState.code : FwState → Nat
  | .empty => 0
  | .staged => 1
  | .valid => 2
  | .trial => 3
  | .active => 4
  | .standby => 5
  | .invalid => 6

/-- GSTAT.STATE (R410). -/
def GState.code : GState → Nat
  | .absent => 0
  | .online => 1
  | .frozen => 2
  | .resetting => 3
  | .offline => 4

/-- Reads of a host queue block (R273). -/
def HQueue.barRead (Q : HQueue) : Nat → Word
  | 0x00 => Q.base
  | 0x08 => Q.log2.setWidth 64
  | 0x10 => Q.tail
  | 0x18 => Q.head
  | 0x20 => Q.timeline
  | 0x28 => BitVec.ofNat 64 (packFields [(3, Q.st.code), (1, if Q.bufs.isEmpty then 1 else 0), (12, 0), (10, Q.cause.toNat)])
  | 0x38 => Q.faultidx
  | _ => 0

/-- Reads of a RAS block (R401). -/
def Die.barRead (d : Die) : Nat → Word
  | 0x00 => d.cecnt
  | 0x08 => d.uecnt
  | 0x10 => d.linkrty
  | 0x18 => d.lanespare
  | 0x20 => d.lateflt
  | 0x28 => d.recdrop
  | 0x30 => d.repair
  | 0x40 => d.rasvec.setWidth 64
  | _ => 0

/-- Reads of the firmware block (R417). -/
def Firmware.barRead (f : Firmware) : Nat → Word
  | 0x00 => BitVec.ofNat 64 (packFields [(16, f.svns[f.run]), (10, f.cause.toNat), (6, 0), (1, f.run.val), (7, 0), (3, f.slot[0].code), (5, 0),
      (3, f.slot[1].code), (12, 0), (1, if f.busy then 1 else 0)])
  | 0x08 => f.src
  | 0x10 => f.len.setWidth 64
  | 0x18 => f.trialTime.setWidth 64
  | _ => 0

/-- Reads of a context block: CTXSTAT (R354). -/
def Context.barRead (x : Context) : Nat → Word
  | 8 => BitVec.ofNat 64 (packFields [(3, x.status.val), (5, 0), (8, x.error.toNat), (47, 0), (1, if x.busy then 1 else 0)])
  | _ => 0

/-- What a read of a block gives after boot. -/
def State.blockRead (s : State) : BarBlock → Word
  | .queue q reg => (s.queue q).barRead reg
  | .window f reg =>
    let w := s.window f
    if reg = 0 then BitVec.ofNat 64 (packFields [(6, w.ctx.toNat), (57, 0), (1, if w.valid then 1 else 0)]) else if reg = 8 then w.base else 0
  | .ras d reg => (s.die d).barRead reg
  | .guest reg =>
    if reg = 0 then BitVec.ofNat 64 (packFields [(3, s.guest.st.code), (29, s.guest.resets.toNat), (10, s.guest.lastCause.toNat)]) else 0
  | .fw reg => s.fw.barRead reg
  | .ctx c reg => if s.managed c then (s.ctx c).barRead reg else 0
  | .none => 0

/-- What a read of 8 bytes of BAR0 gives a function (R431): zero at an unassigned offset. CTXSTAT of a context that was never
created, or of a secure one, reads zero, which is the model's choice (log entry 2). In recovery the RAS and firmware blocks alone
answer (R438). -/
def State.barRead (s : State) (func off : Nat) : Word :=
  match s.barBlock func off with
  | .ras d reg => if s.boot.up || s.boot.recovery then (s.die d).barRead reg else 0
  | .fw reg => if s.boot.up || s.boot.recovery then s.fw.barRead reg else 0
  | b => if s.boot.up then s.blockRead b else 0

/-- What a read of 8 bytes of BAR4 gives a function (R431): its MSI-X table; no interrupt stays pending (log entry 47). -/
def State.bar4Read (s : State) (func off : Nat) : Word := if off < 0x8000 then (tblGet s.bar4 (2 ^ 16 * func + off)).getD 0 else 0

end Sys2Proof.Machine
end

