-- ==== Sys2Proof/Machine/VFloat.lean ====
section
/-! DEFINITION. Vector floating-point arithmetic and comparison: majors 0x21, 0x29 and FCMP (R134, R135). -/

namespace Sys2Proof.Machine

/-- Whether an arithmetic instruction rounds stochastically: bf16 under MODE.SR (R134). -/
def Strand.fpSr (t : Strand) (ty : FTy) : Bool := t.sr && ty == .bf16

/-- An instruction that rounds: FADD, FSUB, FMUL, FMA. -/
def State.vfp (s : State) (ty : FTy) (vd va : VReg) (b : VSrc) (third : Bool) (pg : PReg) (e : Bool)
    (f : Nat → Rnd → Nat → Nat → Nat → Nat × FlagSet) : Out :=
  let sr := (s.curStrand.map fun t => t.fpSr ty).getD false
  s.elemwise ty.size vd va b third pg e sr fun t i x y d =>
    ERes.ofPair (f (fracBits ty) (t.elemRnd sr t.rm i) x y d)

/-- An instruction that does not round. -/
def State.vfpExact (s : State) (ty : FTy) (vd va : VReg) (b : VSrc) (pg : PReg) (e : Bool)
    (f : Nat → Nat → Nat → Nat) : Out :=
  s.elemwise ty.size vd va b false pg e false fun _ _ x y _ => { val := f (fracBits ty) x y }

def vfAdd (f : Nat) (r : Rnd) (a b _d : Nat) : Nat × FlagSet := faddP f r a b
def vfSub (f : Nat) (r : Rnd) (a b _d : Nat) : Nat × FlagSet := fsubP f r a b
def vfMul (f : Nat) (r : Rnd) (a b _d : Nat) : Nat × FlagSet := fmulP f r a b
def vfMa (f : Nat) (r : Rnd) (a b d : Nat) : Nat × FlagSet := fmaP f r a b d

/-- FADD with a vector operand (R134). -/
def execFadd (ty : FTy) (vd va vb : VReg) (pg : PReg) (e : Bool) (s : State) : Out :=
  s.vfp ty vd va (.v vb) false pg e vfAdd

/-- FSUB with a vector operand (R134). -/
def execFsub (ty : FTy) (vd va vb : VReg) (pg : PReg) (e : Bool) (s : State) : Out :=
  s.vfp ty vd va (.v vb) false pg e vfSub

/-- FMUL with a vector operand (R134). -/
def execFmul (ty : FTy) (vd va vb : VReg) (pg : PReg) (e : Bool) (s : State) : Out :=
  s.vfp ty vd va (.v vb) false pg e vfMul

/-- FMA with a vector operand (R134). -/
def execFma (ty : FTy) (vd va vb : VReg) (pg : PReg) (e : Bool) (s : State) : Out :=
  s.vfp ty vd va (.v vb) true pg e vfMa

/-- FMIN with a vector operand (R134). -/
def execFmin (ty : FTy) (vd va vb : VReg) (pg : PReg) (e : Bool) (s : State) : Out :=
  s.vfpExact ty vd va (.v vb) pg e fminP

/-- FMAX with a vector operand (R134). -/
def execFmax (ty : FTy) (vd va vb : VReg) (pg : PReg) (e : Bool) (s : State) : Out :=
  s.vfpExact ty vd va (.v vb) pg e fmaxP

/-- FADD with a scalar operand (R134). -/
def execFaddVs (ty : FTy) (vd va : VReg) (b : SReg) (pg : PReg) (e : Bool) (s : State) : Out :=
  s.vfp ty vd va (.s b) false pg e vfAdd

/-- FSUB with a scalar operand (R134). -/
def execFsubVs (ty : FTy) (vd va : VReg) (b : SReg) (pg : PReg) (e : Bool) (s : State) : Out :=
  s.vfp ty vd va (.s b) false pg e vfSub

/-- FMUL with a scalar operand (R134). -/
def execFmulVs (ty : FTy) (vd va : VReg) (b : SReg) (pg : PReg) (e : Bool) (s : State) : Out :=
  s.vfp ty vd va (.s b) false pg e vfMul

/-- FMA with a scalar operand (R134). -/
def execFmaVs (ty : FTy) (vd va : VReg) (b : SReg) (pg : PReg) (e : Bool) (s : State) : Out :=
  s.vfp ty vd va (.s b) true pg e vfMa

/-- FMIN with a scalar operand (R134). -/
def execFminVs (ty : FTy) (vd va : VReg) (b : SReg) (pg : PReg) (e : Bool) (s : State) : Out :=
  s.vfpExact ty vd va (.s b) pg e fminP

/-- FMAX with a scalar operand (R134). -/
def execFmaxVs (ty : FTy) (vd va : VReg) (b : SReg) (pg : PReg) (e : Bool) (s : State) : Out :=
  s.vfpExact ty vd va (.s b) pg e fmaxP

/-- FABS (R134). -/
def execFabs (ty : FTy) (vd va : VReg) (pg : PReg) (e : Bool) (s : State) : Out :=
  s.vfpExact ty vd va (.n 0) pg e fun f a _ => fabsP f a

/-- FNEG (R134). -/
def execFneg (ty : FTy) (vd va : VReg) (pg : PReg) (e : Bool) (s : State) : Out :=
  s.vfpExact ty vd va (.n 0) pg e fun f a _ => fnegP f a

/-! ### FCMP (R135) -/

/-- NV of FCMP.lt and FCMP.le: either operand is a NaN; of the others: either is a signalling NaN. -/
def cmpNaN (f a b : Nat) : Bool := isNaN f a || isNaN f b
def cmpSNaN (f a b : Nat) : Bool := isSNaN f a || isSNaN f b

/-- Equal. (R135) -/
def execFcmpEq (ty : FTy) (pd : PReg) (va vb : VReg) (pg : PReg) (e : Bool) (s : State) : Out :=
  let f := fracBits ty
  s.compare ty.size pd va vb pg e fun a b => (!cmpNaN f a b && fnum f a == fnum f b, flagIf (cmpSNaN f a b) flNV)

/-- Not equal, or unordered. (R135) -/
def execFcmpNe (ty : FTy) (pd : PReg) (va vb : VReg) (pg : PReg) (e : Bool) (s : State) : Out :=
  let f := fracBits ty
  s.compare ty.size pd va vb pg e fun a b => (cmpNaN f a b || fnum f a != fnum f b, flagIf (cmpSNaN f a b) flNV)

/-- Less. (R135) -/
def execFcmpLt (ty : FTy) (pd : PReg) (va vb : VReg) (pg : PReg) (e : Bool) (s : State) : Out :=
  let f := fracBits ty
  s.compare ty.size pd va vb pg e fun a b => (!cmpNaN f a b && decide (fnum f a < fnum f b), flagIf (cmpNaN f a b) flNV)

/-- Less or equal. (R135) -/
def execFcmpLe (ty : FTy) (pd : PReg) (va vb : VReg) (pg : PReg) (e : Bool) (s : State) : Out :=
  let f := fracBits ty
  s.compare ty.size pd va vb pg e fun a b => (!cmpNaN f a b && decide (fnum f a ≤ fnum f b), flagIf (cmpNaN f a b) flNV)

/-- Unordered. (R135) -/
def execFcmpUn (ty : FTy) (pd : PReg) (va vb : VReg) (pg : PReg) (e : Bool) (s : State) : Out :=
  let f := fracBits ty
  s.compare ty.size pd va vb pg e fun a b => (cmpNaN f a b, flagIf (cmpSNaN f a b) flNV)

end Sys2Proof.Machine
end

