-- ==== Sys2Proof/Machine/Fetch.lean ====
section
/-! DEFINITION. Fetching an instruction word (R118, R220, R357 to R361): the L1 instruction cache, and on a miss the
line's value at its home. -/

namespace Sys2Proof.Machine

/-- What a fetch gives: the word, or the state in which the strand stops before the instruction. -/
inductive Fetched where
  | word (w : BitVec 32) (s : State)
  | stop (s : State)

/-- The word of a line at an address. -/
def wordAt (d : BitVec 512) (a : Nat) : BitVec 32 := d.extractLsb' (8 * (a % 64)) 32

/-- FETCHPOISON, or WITHHELD, of a poison kind (R118, R398, R412). -/
def fetchPoisonCode (k : Nat) : Cause := if k = 1 then 0x1C2 else 0x1C1

/-- Reading a line at its home into the instruction cache. -/
def State.fillIcache (s : State) (st : Nat) (l : Loc) (line : Nat) : State :=
  let entry : BitVec 512 × Bool := (BitVec.ofNat 512 (s.homeNat l 64), (s.readPoison l 64).isSome)
  s.modStation st fun S => { S with icache := tblPut S.icache line entry }

/-- A fetch of the executing strand at an address, for the instruction whose PC the strand holds. A translation
fault holds the strand at it until replay; a refusal freezes the slot; a deferred fault ends the grid. -/
def State.fetchWord (s : State) (t : Strand) (a : Word) : Fetched :=
  let st := s.curStation
  let line := a.toNat / 64
  let at0 : Word := BitVec.ofNat 64 (line * 64)
  if !gvaOk s.cfg a then .stop (s.faultAt 0x082 a)
  else
    match tblGet (s.station st).icache line with
    | some (d, false) => .word (wordAt d a.toNat) s
    | some (_, true) =>
      let k := match s.whereIs t.who a with
        | some (l, _) => (s.readPoison l 1).getD 0
        | none => 0
      .stop (s.faultAt (fetchPoisonCode k) a)
    | none =>
      let wait : State :=
        let n := s.nextId
        (s.addReq (s.reqOf t .fetch at0 0)).hold (.fetch n)
      if gvaPkg a ≠ s.cfg.pkg then .stop wait
      else
        match s.translateBehind st t.who a .fetch with
        | .ok (.pcie _) _ => .stop wait
        | .ok l _ =>
          let l := match l with
            | .lp6 d p => Loc.lp6 d (p / 64 * 64)
            | .plate x o => Loc.plate x (o / 64 * 64)
            | .shared x o => Loc.shared x (o / 64 * 64)
            | .pcie x => Loc.pcie (x / 64 * 64)
          match s.recall l 64 false with
          | some s' => .stop s'
          | none =>
            let s := s.fillIcache st l line
            match s.readPoison l 64 with
            | some k => .stop (s.faultAt (fetchPoisonCode k) a)
            | none => .word (wordAt (BitVec.ofNat 512 (s.homeNat l 64)) a.toNat) s
        | .notPresent =>
          let n := s.nextId
          .stop ((s.enterPage (s.reqOf t .fetch at0 0)).hold (.fetch n))
        | .fault c => .stop (s.faultDeferred t.grid (c 0) 0 s.cur a)
        | .refused c => .stop (s.freezeSlot s.cur (c 0) a)

end Sys2Proof.Machine
end

