-- ==== Sys2Proof/Machine/VPred.lean ====
section
/-! DEFINITION. Predicates, loop control and repetition: major 0x27 (R136, R137, R154, R155). -/

namespace Sys2Proof.Machine

/-- VWHILE (R136): element i is set when As + i < Bs, exactly. -/
def execVwhile (ty : ETy) (pd : PReg) (a b : SReg) (e : Bool) (s : State) : Out :=
  s.issue 1 e [.s a, .s b] [] fun t =>
    let x := (s.sval t a).toInt
    let y := (s.sval t b).toInt
    let l := (numsFrom 0 (vbytes / ty.size)).map fun (i : Nat) => decide (x + (i : Int) < y)
    (s.modCur fun t => t.setPred pd (predOf ty.size l)).advance

/-- VWIDTH (R136): the number of elements. -/
def execVwidth (ty : ETy) (d : SReg) (e : Bool) (s : State) : Out :=
  s.issue 1 e [] [.s d] fun _ => (s.putS s.cur d (BitVec.ofNat 64 (vbytes / ty.size))).advance

/-- A predicate written from byte-lane bits. -/
def State.predOp (s : State) (pd : PReg) (e : Bool) (f : Strand → PWord) : Out :=
  s.issue 1 e [] [] fun t => (s.modCur fun u => u.setPred pd (f t)).advance

/-- PAND (R137). -/
def execPand (pd pa pb pg : PReg) (e : Bool) (s : State) : Out :=
  s.predOp pd e fun t => (t.pred pa &&& t.pred pb) &&& t.pred pg

/-- POR (R137). -/
def execPor (pd pa pb pg : PReg) (e : Bool) (s : State) : Out :=
  s.predOp pd e fun t => (t.pred pa ||| t.pred pb) &&& t.pred pg

/-- PXOR (R137). -/
def execPxor (pd pa pb pg : PReg) (e : Bool) (s : State) : Out :=
  s.predOp pd e fun t => (t.pred pa ^^^ t.pred pb) &&& t.pred pg

/-- PNOT (R137). -/
def execPnot (pd pa pg : PReg) (e : Bool) (s : State) : Out :=
  s.predOp pd e fun t => ~~~t.pred pa &&& t.pred pg

/-- The elements active in two predicates. -/
def bothActive (sz : Nat) (p q : PWord) : List Bool :=
  (actives sz p (vbytes / sz) 0).zipWith (· && ·) (actives sz q (vbytes / sz) 0)

/-- PCNT (R137). -/
def execPcnt (ty : ETy) (d : SReg) (pa pg : PReg) (e : Bool) (s : State) : Out :=
  s.issue 1 e [] [.s d] fun t =>
    let n := ((bothActive ty.size (t.pred pa) (t.pred pg)).filter id).length
    (s.putS s.cur d (BitVec.ofNat 64 n)).advance

/-- Only the first set flag of a list. -/
def onlyFirst : List Bool → List Bool
  | [] => []
  | true :: t => true :: t.map fun _ => false
  | false :: t => false :: onlyFirst t

/-- PFIRST (R137). -/
def execPfirst (ty : ETy) (pd pa pg : PReg) (e : Bool) (s : State) : Out :=
  s.predOp pd e fun t => predOf ty.size (onlyFirst (bothActive ty.size (t.pred pa) (t.pred pg)))

/-- What fetching a body gives: its words, or the state in which the strand stops. -/
inductive Body where
  | words (l : List (BitVec 32)) (s : State)
  | stop (s : State)

/-- Fetching the n words of a body from an address on, in order (R154); a stop is at the VREP. -/
def State.fetchBody (s : State) (t : Strand) (a : Word) : Nat → Body
  | 0 => .words [] s
  | n + 1 =>
    match s.fetchWord t a with
    | .stop s => .stop s
    | .word w s =>
      match s.fetchBody t (a + 4) n with
      | .stop s => .stop s
      | .words l s => .words (w :: l) s

/-- A word that a body may hold: a vector major, and no VREP (R154). -/
def bodyWord (w : BitVec 32) : Bool :=
  let m := w.toNat / 2 ^ 26
  decide (0x20 ≤ m ∧ m ≤ 0x2A) && !(m == 0x27 && w.toNat % 16 == 2)

/-- VREP (R154, R155): the body is fetched and checked whole before the first pass. A body that breaks the rules makes VREP
illegal, before its source is read (R53, R398; DEDUCED, log entry 82). A VREP in a handler replaces the paused state. -/
def execVrep (a : SReg) (l : BitVec 4) (e : Bool) (s : State) : Out :=
  match s.curStrand with
  | none => .next s
  | some t =>
    let body := t.pc + 4
    let n := l.toNat + 1
    if t.loose && Opnd.shared (.s a) then .next (s.illegal 1 4)
    else
      match s.fetchBody t body n with
      | .stop s => .next s
      | .words ws s =>
        if !ws.all bodyWord then .next (s.illegal 1 7)
        else
          s.issue 1 e [.s a] [] fun t =>
            let c := (s.sval t a).toNat
            s.modCur fun t =>
              if c = 0 then { t with pc := body + BitVec.ofNat 64 (4 * n), hold := .none, rep := none }
              else { t with pc := body, hold := .none,
                            rep := some { left := c, body := body, words := ws, idx := 0 } }

end Sys2Proof.Machine
end

