-- ==== Sys2Proof/Machine/Dispatch.lean ====
section
/-! DEFINITION. The dispatch: one arm per constructor of Instr, each one call of that row's meaning. -/

namespace Sys2Proof.Machine

def exec (i : Instr) (s : State) : Host.Outcome State Fault Refusal :=
  match i with
  | .add d a b e => Sys2Proof.Machine.execAdd d a b e s
  | .sub d a b e => Sys2Proof.Machine.execSub d a b e s
  | .and d a b e => Sys2Proof.Machine.execAnd d a b e s
  | .or d a b e => Sys2Proof.Machine.execOr d a b e s
  | .xor d a b e => Sys2Proof.Machine.execXor d a b e s
  | .sll d a b e => Sys2Proof.Machine.execSll d a b e s
  | .srl d a b e => Sys2Proof.Machine.execSrl d a b e s
  | .sra d a b e => Sys2Proof.Machine.execSra d a b e s
  | .slt d a b e => Sys2Proof.Machine.execSlt d a b e s
  | .sltu d a b e => Sys2Proof.Machine.execSltu d a b e s
  | .min d a b e => Sys2Proof.Machine.execMin d a b e s
  | .max d a b e => Sys2Proof.Machine.execMax d a b e s
  | .minu d a b e => Sys2Proof.Machine.execMinu d a b e s
  | .maxu d a b e => Sys2Proof.Machine.execMaxu d a b e s
  | .clz d a e => Sys2Proof.Machine.execClz d a e s
  | .ctz d a e => Sys2Proof.Machine.execCtz d a e s
  | .popc d a e => Sys2Proof.Machine.execPopc d a e s
  | .sextB d a e => Sys2Proof.Machine.execSextB d a e s
  | .sextH d a e => Sys2Proof.Machine.execSextH d a e s
  | .sextW d a e => Sys2Proof.Machine.execSextW d a e s
  | .zextB d a e => Sys2Proof.Machine.execZextB d a e s
  | .zextH d a e => Sys2Proof.Machine.execZextH d a e s
  | .zextW d a e => Sys2Proof.Machine.execZextW d a e s
  | .sel d a b e => Sys2Proof.Machine.execSel d a b e s
  | .addW d a b e => Sys2Proof.Machine.execAddW d a b e s
  | .subW d a b e => Sys2Proof.Machine.execSubW d a b e s
  | .andW d a b e => Sys2Proof.Machine.execAndW d a b e s
  | .orW d a b e => Sys2Proof.Machine.execOrW d a b e s
  | .xorW d a b e => Sys2Proof.Machine.execXorW d a b e s
  | .sllW d a b e => Sys2Proof.Machine.execSllW d a b e s
  | .srlW d a b e => Sys2Proof.Machine.execSrlW d a b e s
  | .sraW d a b e => Sys2Proof.Machine.execSraW d a b e s
  | .sltW d a b e => Sys2Proof.Machine.execSltW d a b e s
  | .sltuW d a b e => Sys2Proof.Machine.execSltuW d a b e s
  | .minW d a b e => Sys2Proof.Machine.execMinW d a b e s
  | .maxW d a b e => Sys2Proof.Machine.execMaxW d a b e s
  | .minuW d a b e => Sys2Proof.Machine.execMinuW d a b e s
  | .maxuW d a b e => Sys2Proof.Machine.execMaxuW d a b e s
  | .clzW d a e => Sys2Proof.Machine.execClzW d a e s
  | .ctzW d a e => Sys2Proof.Machine.execCtzW d a e s
  | .popcW d a e => Sys2Proof.Machine.execPopcW d a e s
  | .mul d a b e => Sys2Proof.Machine.execMul d a b e s
  | .mulh d a b e => Sys2Proof.Machine.execMulh d a b e s
  | .mulhu d a b e => Sys2Proof.Machine.execMulhu d a b e s
  | .div d a b e => Sys2Proof.Machine.execDiv d a b e s
  | .divu d a b e => Sys2Proof.Machine.execDivu d a b e s
  | .rem d a b e => Sys2Proof.Machine.execRem d a b e s
  | .remu d a b e => Sys2Proof.Machine.execRemu d a b e s
  | .mulW d a b e => Sys2Proof.Machine.execMulW d a b e s
  | .mulhW d a b e => Sys2Proof.Machine.execMulhW d a b e s
  | .mulhuW d a b e => Sys2Proof.Machine.execMulhuW d a b e s
  | .divW d a b e => Sys2Proof.Machine.execDivW d a b e s
  | .divuW d a b e => Sys2Proof.Machine.execDivuW d a b e s
  | .remW d a b e => Sys2Proof.Machine.execRemW d a b e s
  | .remuW d a b e => Sys2Proof.Machine.execRemuW d a b e s
  | .addi d a imm e => Sys2Proof.Machine.execAddi d a imm e s
  | .andi d a imm e => Sys2Proof.Machine.execAndi d a imm e s
  | .ori d a imm e => Sys2Proof.Machine.execOri d a imm e s
  | .xori d a imm e => Sys2Proof.Machine.execXori d a imm e s
  | .slti d a imm e => Sys2Proof.Machine.execSlti d a imm e s
  | .sltiu d a imm e => Sys2Proof.Machine.execSltiu d a imm e s
  | .slli d a sh e => Sys2Proof.Machine.execSlli d a sh e s
  | .srli d a sh e => Sys2Proof.Machine.execSrli d a sh e s
  | .srai d a sh e => Sys2Proof.Machine.execSrai d a sh e s
  | .slliW d a sh e => Sys2Proof.Machine.execSlliW d a sh e s
  | .srliW d a sh e => Sys2Proof.Machine.execSrliW d a sh e s
  | .sraiW d a sh e => Sys2Proof.Machine.execSraiW d a sh e s
  | .lui d imm e => Sys2Proof.Machine.execLui d imm e s
  | .auipc d imm e => Sys2Proof.Machine.execAuipc d imm e s
  | .beq a b off e => Sys2Proof.Machine.execBeq a b off e s
  | .bne a b off e => Sys2Proof.Machine.execBne a b off e s
  | .blt a b off e => Sys2Proof.Machine.execBlt a b off e s
  | .bge a b off e => Sys2Proof.Machine.execBge a b off e s
  | .bltu a b off e => Sys2Proof.Machine.execBltu a b off e s
  | .bgeu a b off e => Sys2Proof.Machine.execBgeu a b off e s
  | .jal d off => Sys2Proof.Machine.execJal d off s
  | .jalr d a imm e => Sys2Proof.Machine.execJalr d a imm e s
  | .bpredAny p off e => Sys2Proof.Machine.execBpredAny p off e s
  | .bpredAll p off e => Sys2Proof.Machine.execBpredAll p off e s
  | .bpredNone p off e => Sys2Proof.Machine.execBpredNone p off e s
  | .bpredNall p off e => Sys2Proof.Machine.execBpredNall p off e s
  | .ld sz d a imm e => Sys2Proof.Machine.execLd sz d a imm e s
  | .st sz d a imm e => Sys2Proof.Machine.execSt sz d a imm e s
  | .ldl sz d a imm e => Sys2Proof.Machine.execLdl sz d a imm e s
  | .stl sz d a imm e => Sys2Proof.Machine.execStl sz d a imm e s
  | .phaseR sc e => Sys2Proof.Machine.execPhaseR sc e s
  | .phaseA sc e => Sys2Proof.Machine.execPhaseA sc e s
  | .phaseRa sc e => Sys2Proof.Machine.execPhaseRa sc e s
  | .qfence m e => Sys2Proof.Machine.execQfence m e s
  | .fencei e => Sys2Proof.Machine.execFencei e s
  | .prefL1 a e => Sys2Proof.Machine.execPrefL1 a e s
  | .prefHome a e => Sys2Proof.Machine.execPrefHome a e s
  | .amoadd dbl d a b e => Sys2Proof.Machine.execAmoadd dbl d a b e s
  | .amoand dbl d a b e => Sys2Proof.Machine.execAmoand dbl d a b e s
  | .amoor dbl d a b e => Sys2Proof.Machine.execAmoor dbl d a b e s
  | .amoxor dbl d a b e => Sys2Proof.Machine.execAmoxor dbl d a b e s
  | .amomin dbl d a b e => Sys2Proof.Machine.execAmomin dbl d a b e s
  | .amomax dbl d a b e => Sys2Proof.Machine.execAmomax dbl d a b e s
  | .amominu dbl d a b e => Sys2Proof.Machine.execAmominu dbl d a b e s
  | .amomaxu dbl d a b e => Sys2Proof.Machine.execAmomaxu dbl d a b e s
  | .amoswap dbl d a b e => Sys2Proof.Machine.execAmoswap dbl d a b e s
  | .amocas dbl d a b e => Sys2Proof.Machine.execAmocas dbl d a b e s
  | .amofadd32 d a b e => Sys2Proof.Machine.execAmofadd32 d a b e s
  | .amofxadd d a b e => Sys2Proof.Machine.execAmofxadd d a b e s
  | .lrw d a e => Sys2Proof.Machine.execLrw d a e s
  | .sch a b e => Sys2Proof.Machine.execSch a b e s
  | .rrel a e => Sys2Proof.Machine.execRrel a e s
  | .enq d a b e => Sys2Proof.Machine.execEnq d a b e s
  | .deq d a e => Sys2Proof.Machine.execDeq d a e s
  | .enqNw d a b e => Sys2Proof.Machine.execEnqNw d a b e s
  | .deqNw d a e => Sys2Proof.Machine.execDeqNw d a e s
  | .prpub a b e => Sys2Proof.Machine.execPrpub a b e s
  | .prwait a e => Sys2Proof.Machine.execPrwait a e s
  | .prtest d a e => Sys2Proof.Machine.execPrtest d a e s
  | .prtake d a e => Sys2Proof.Machine.execPrtake d a e s
  | .prgen d a b e => Sys2Proof.Machine.execPrgen d a b e s
  | .prarm d a b e => Sys2Proof.Machine.execPrarm d a b e s
  | .vadd ty vd va vb pg e => Sys2Proof.Machine.execVadd ty vd va vb pg e s
  | .vsub ty vd va vb pg e => Sys2Proof.Machine.execVsub ty vd va vb pg e s
  | .vmul ty vd va vb pg e => Sys2Proof.Machine.execVmul ty vd va vb pg e s
  | .vmulh ty vd va vb pg e => Sys2Proof.Machine.execVmulh ty vd va vb pg e s
  | .vmad ty vd va vb pg e => Sys2Proof.Machine.execVmad ty vd va vb pg e s
  | .vmin ty vd va vb pg e => Sys2Proof.Machine.execVmin ty vd va vb pg e s
  | .vmax ty vd va vb pg e => Sys2Proof.Machine.execVmax ty vd va vb pg e s
  | .vand ty vd va vb pg e => Sys2Proof.Machine.execVand ty vd va vb pg e s
  | .vor ty vd va vb pg e => Sys2Proof.Machine.execVor ty vd va vb pg e s
  | .vxor ty vd va vb pg e => Sys2Proof.Machine.execVxor ty vd va vb pg e s
  | .vsll ty vd va vb pg e => Sys2Proof.Machine.execVsll ty vd va vb pg e s
  | .vsrl ty vd va vb pg e => Sys2Proof.Machine.execVsrl ty vd va vb pg e s
  | .vsra ty vd va vb pg e => Sys2Proof.Machine.execVsra ty vd va vb pg e s
  | .vabs ty vd va pg e => Sys2Proof.Machine.execVabs ty vd va pg e s
  | .vneg ty vd va pg e => Sys2Proof.Machine.execVneg ty vd va pg e s
  | .vaddVs ty vd va b pg e => Sys2Proof.Machine.execVaddVs ty vd va b pg e s
  | .vsubVs ty vd va b pg e => Sys2Proof.Machine.execVsubVs ty vd va b pg e s
  | .vmulVs ty vd va b pg e => Sys2Proof.Machine.execVmulVs ty vd va b pg e s
  | .vmulhVs ty vd va b pg e => Sys2Proof.Machine.execVmulhVs ty vd va b pg e s
  | .vmadVs ty vd va b pg e => Sys2Proof.Machine.execVmadVs ty vd va b pg e s
  | .vminVs ty vd va b pg e => Sys2Proof.Machine.execVminVs ty vd va b pg e s
  | .vmaxVs ty vd va b pg e => Sys2Proof.Machine.execVmaxVs ty vd va b pg e s
  | .vandVs ty vd va b pg e => Sys2Proof.Machine.execVandVs ty vd va b pg e s
  | .vorVs ty vd va b pg e => Sys2Proof.Machine.execVorVs ty vd va b pg e s
  | .vxorVs ty vd va b pg e => Sys2Proof.Machine.execVxorVs ty vd va b pg e s
  | .vsllVs ty vd va b pg e => Sys2Proof.Machine.execVsllVs ty vd va b pg e s
  | .vsrlVs ty vd va b pg e => Sys2Proof.Machine.execVsrlVs ty vd va b pg e s
  | .vsraVs ty vd va b pg e => Sys2Proof.Machine.execVsraVs ty vd va b pg e s
  | .vaddVi ty vd va imm pg e => Sys2Proof.Machine.execVaddVi ty vd va imm pg e s
  | .vsubVi ty vd va imm pg e => Sys2Proof.Machine.execVsubVi ty vd va imm pg e s
  | .vmulVi ty vd va imm pg e => Sys2Proof.Machine.execVmulVi ty vd va imm pg e s
  | .vmulhVi ty vd va imm pg e => Sys2Proof.Machine.execVmulhVi ty vd va imm pg e s
  | .vmadVi ty vd va imm pg e => Sys2Proof.Machine.execVmadVi ty vd va imm pg e s
  | .vminVi ty vd va imm pg e => Sys2Proof.Machine.execVminVi ty vd va imm pg e s
  | .vmaxVi ty vd va imm pg e => Sys2Proof.Machine.execVmaxVi ty vd va imm pg e s
  | .vandVi ty vd va imm pg e => Sys2Proof.Machine.execVandVi ty vd va imm pg e s
  | .vorVi ty vd va imm pg e => Sys2Proof.Machine.execVorVi ty vd va imm pg e s
  | .vxorVi ty vd va imm pg e => Sys2Proof.Machine.execVxorVi ty vd va imm pg e s
  | .vsllVi ty vd va imm pg e => Sys2Proof.Machine.execVsllVi ty vd va imm pg e s
  | .vsrlVi ty vd va imm pg e => Sys2Proof.Machine.execVsrlVi ty vd va imm pg e s
  | .vsraVi ty vd va imm pg e => Sys2Proof.Machine.execVsraVi ty vd va imm pg e s
  | .fadd ty vd va vb pg e => Sys2Proof.Machine.execFadd ty vd va vb pg e s
  | .fsub ty vd va vb pg e => Sys2Proof.Machine.execFsub ty vd va vb pg e s
  | .fmul ty vd va vb pg e => Sys2Proof.Machine.execFmul ty vd va vb pg e s
  | .fma ty vd va vb pg e => Sys2Proof.Machine.execFma ty vd va vb pg e s
  | .fmin ty vd va vb pg e => Sys2Proof.Machine.execFmin ty vd va vb pg e s
  | .fmax ty vd va vb pg e => Sys2Proof.Machine.execFmax ty vd va vb pg e s
  | .fabs ty vd va pg e => Sys2Proof.Machine.execFabs ty vd va pg e s
  | .fneg ty vd va pg e => Sys2Proof.Machine.execFneg ty vd va pg e s
  | .faddVs ty vd va b pg e => Sys2Proof.Machine.execFaddVs ty vd va b pg e s
  | .fsubVs ty vd va b pg e => Sys2Proof.Machine.execFsubVs ty vd va b pg e s
  | .fmulVs ty vd va b pg e => Sys2Proof.Machine.execFmulVs ty vd va b pg e s
  | .fmaVs ty vd va b pg e => Sys2Proof.Machine.execFmaVs ty vd va b pg e s
  | .fminVs ty vd va b pg e => Sys2Proof.Machine.execFminVs ty vd va b pg e s
  | .fmaxVs ty vd va b pg e => Sys2Proof.Machine.execFmaxVs ty vd va b pg e s
  | .vcmpEq ty pd va vb pg e => Sys2Proof.Machine.execVcmpEq ty pd va vb pg e s
  | .vcmpNe ty pd va vb pg e => Sys2Proof.Machine.execVcmpNe ty pd va vb pg e s
  | .vcmpLt ty pd va vb pg e => Sys2Proof.Machine.execVcmpLt ty pd va vb pg e s
  | .vcmpLe ty pd va vb pg e => Sys2Proof.Machine.execVcmpLe ty pd va vb pg e s
  | .vcmpLtu ty pd va vb pg e => Sys2Proof.Machine.execVcmpLtu ty pd va vb pg e s
  | .vcmpLeu ty pd va vb pg e => Sys2Proof.Machine.execVcmpLeu ty pd va vb pg e s
  | .fcmpEq ty pd va vb pg e => Sys2Proof.Machine.execFcmpEq ty pd va vb pg e s
  | .fcmpNe ty pd va vb pg e => Sys2Proof.Machine.execFcmpNe ty pd va vb pg e s
  | .fcmpLt ty pd va vb pg e => Sys2Proof.Machine.execFcmpLt ty pd va vb pg e s
  | .fcmpLe ty pd va vb pg e => Sys2Proof.Machine.execFcmpLe ty pd va vb pg e s
  | .fcmpUn ty pd va vb pg e => Sys2Proof.Machine.execFcmpUn ty pd va vb pg e s
  | .vsel ty vd va vb pg e => Sys2Proof.Machine.execVsel ty vd va vb pg e s
  | .vmov ty vd va pg e => Sys2Proof.Machine.execVmov ty vd va pg e s
  | .vbcast ty vd a pg e => Sys2Proof.Machine.execVbcast ty vd a pg e s
  | .vext ty d va b e => Sys2Proof.Machine.execVext ty d va b e s
  | .vperm ty vd va vb pg e => Sys2Proof.Machine.execVperm ty vd va vb pg e s
  | .vzip ty vd va vb pg e => Sys2Proof.Machine.execVzip ty vd va vb pg e s
  | .vuzp ty vd va vb pg e => Sys2Proof.Machine.execVuzp ty vd va vb pg e s
  | .vslideUp ty vd va b pg e => Sys2Proof.Machine.execVslideUp ty vd va b pg e s
  | .vslideDn ty vd va b pg e => Sys2Proof.Machine.execVslideDn ty vd va b pg e s
  | .vbcasthBf16 vd imm e => Sys2Proof.Machine.execVbcasthBf16 vd imm e s
  | .vbcasthF32 vd imm e => Sys2Proof.Machine.execVbcasthF32 vd imm e s
  | .vld ty vd a b pg e => Sys2Proof.Machine.execVld ty vd a b pg e s
  | .vst ty vd a b pg e => Sys2Proof.Machine.execVst ty vd a b pg e s
  | .vlds ty vd a b pg e => Sys2Proof.Machine.execVlds ty vd a b pg e s
  | .vsts ty vd a b pg e => Sys2Proof.Machine.execVsts ty vd a b pg e s
  | .vgath ty vd a vb pg e => Sys2Proof.Machine.execVgath ty vd a vb pg e s
  | .vscat ty vd a vb pg e => Sys2Proof.Machine.execVscat ty vd a vb pg e s
  | .vcvt dty sty rs vd va pg e => Sys2Proof.Machine.execVcvt dty sty rs vd va pg e s
  | .vqnt sty rs vd va pg e => Sys2Proof.Machine.execVqnt sty rs vd va pg e s
  | .vqps fmt sty rs vd va pg e => Sys2Proof.Machine.execVqps fmt sty rs vd va pg e s
  | .vdq dty fmt rs vd va pg e => Sys2Proof.Machine.execVdq dty fmt rs vd va pg e s
  | .vhad32 ty vd va m pg e => Sys2Proof.Machine.execVhad32 ty vd va m pg e s
  | .vmaxx ty vd va k pg e => Sys2Proof.Machine.execVmaxx ty vd va k pg e s
  | .vunpk5 vd va h pg e => Sys2Proof.Machine.execVunpk5 vd va h pg e s
  | .vpack5 vd va h pg e => Sys2Proof.Machine.execVpack5 vd va h pg e s
  | .vsfu fn ty vd va pg e => Sys2Proof.Machine.execVsfu fn ty vd va pg e s
  | .vred op ty vd va pg e => Sys2Proof.Machine.execVred op ty vd va pg e s
  | .vwhile ty pd a b e => Sys2Proof.Machine.execVwhile ty pd a b e s
  | .vwidth ty d e => Sys2Proof.Machine.execVwidth ty d e s
  | .vrep a l e => Sys2Proof.Machine.execVrep a l e s
  | .pand pd pa pb pg e => Sys2Proof.Machine.execPand pd pa pb pg e s
  | .por pd pa pb pg e => Sys2Proof.Machine.execPor pd pa pb pg e s
  | .pxor pd pa pb pg e => Sys2Proof.Machine.execPxor pd pa pb pg e s
  | .pnot pd pa pg e => Sys2Proof.Machine.execPnot pd pa pg e s
  | .pcnt ty d pa pg e => Sys2Proof.Machine.execPcnt ty d pa pg e s
  | .pfirst ty pd pa pg e => Sys2Proof.Machine.execPfirst ty pd pa pg e s
  | .mcfg a e => Sys2Proof.Machine.execMcfg a e s
  | .mldwT64 sla tr a e => Sys2Proof.Machine.execMldwT64 sla tr a e s
  | .mldwC64 sla tr a e => Sys2Proof.Machine.execMldwC64 sla tr a e s
  | .mstep a b g e => Sys2Proof.Machine.execMstep a b g e s
  | .mzero back e => Sys2Proof.Machine.execMzero back e s
  | .mswapL e => Sys2Proof.Machine.execMswapL e s
  | .mswapA e => Sys2Proof.Machine.execMswapA e s
  | .mswapLa e => Sys2Proof.Machine.execMswapLa e s
  | .mdrain fmt k back a b c e => Sys2Proof.Machine.execMdrain fmt k back a b c e s
  | .mstat sel a b e => Sys2Proof.Machine.execMstat sel a b e s
  | .mwait e => Sys2Proof.Machine.execMwait e s
  | .pbind q a b e => Sys2Proof.Machine.execPbind q a b e s
  | .punbind q e => Sys2Proof.Machine.execPunbind q e s
  | .pstat a q e => Sys2Proof.Machine.execPstat a q e s
  | .pskip q a e => Sys2Proof.Machine.execPskip q a e s
  | .cpy k a b c e => Sys2Proof.Machine.execCpy k a b c e s
  | .cpyt k a b c e => Sys2Proof.Machine.execCpyt k a b c e s
  | .cpyd k a b c e => Sys2Proof.Machine.execCpyd k a b c e s
  | .cpys k a b c e => Sys2Proof.Machine.execCpys k a b c e s
  | .spawn d a e => Sys2Proof.Machine.execSpawn d a e s
  | .spawnl d a e => Sys2Proof.Machine.execSpawnl d a e s
  | .migrate a e => Sys2Proof.Machine.execMigrate a e s
  | .yield e => Sys2Proof.Machine.execYield e s
  | .sleep e => Sys2Proof.Machine.execSleep e s
  | .cbar e => Sys2Proof.Machine.execCbar e s
  | .exit e => Sys2Proof.Machine.execExit e s
  | .msend a b e => Sys2Proof.Machine.execMsend a b e s
  | .mrecv d a e => Sys2Proof.Machine.execMrecv d a e s
  | .rqpush d a b e => Sys2Proof.Machine.execRqpush d a b e s
  | .rqpop d a e => Sys2Proof.Machine.execRqpop d a e s
  | .tmrset d a e => Sys2Proof.Machine.execTmrset d a e s
  | .csrr d csr e => Sys2Proof.Machine.execCsrr d csr e s
  | .csrw d a csr e => Sys2Proof.Machine.execCsrw d a csr e s
  | .csrs d a csr e => Sys2Proof.Machine.execCsrs d a csr e s
  | .csrc d a csr e => Sys2Proof.Machine.execCsrc d a csr e s
  | .uret e => Sys2Proof.Machine.execUret e s
  | .trapu n e => Sys2Proof.Machine.execTrapu n e s
  | .svc d a n e => Sys2Proof.Machine.execSvc d a n e s
  | .sret d a e => Sys2Proof.Machine.execSret d a e s
  | .dtinvPage a e => Sys2Proof.Machine.execDtinvPage a e s
  | .dtinvCtx a e => Sys2Proof.Machine.execDtinvCtx a e s
  | .dtinvAll a e => Sys2Proof.Machine.execDtinvAll a e s
  | .dtrep d e => Sys2Proof.Machine.execDtrep d e s
  | .dtrepFail d a e => Sys2Proof.Machine.execDtrepFail d a e s
  | .dtqry sel d a e => Sys2Proof.Machine.execDtqry sel d a e s
  | .spls d a e => Sys2Proof.Machine.execSpls d a e s
  | .splr d a e => Sys2Proof.Machine.execSplr d a e s
  | .freeze a e => Sys2Proof.Machine.execFreeze a e s
  | .thaw a e => Sys2Proof.Machine.execThaw a e s
  | .rgnw d a idx e => Sys2Proof.Machine.execRgnw d a idx e s
  | .puw d a idx e => Sys2Proof.Machine.execPuw d a idx e s
  | .commit d a e => Sys2Proof.Machine.execCommit d a e s
  | .illegalInstruction cause => Sys2Proof.Machine.execIllegalInstruction cause s
  | .userTrapEntry => Sys2Proof.Machine.execUserTrapEntry s
  | .timerFire slot => Sys2Proof.Machine.execTimerFire slot s
  | .resultArrive res => Sys2Proof.Machine.execResultArrive res s
  | .storeMerge station line => Sys2Proof.Machine.execStoreMerge station line s
  | .mergeAtHome req => Sys2Proof.Machine.execMergeAtHome req s
  | .fillAtHome req => Sys2Proof.Machine.execFillAtHome req s
  | .phaseReleaseComplete slot => Sys2Proof.Machine.execPhaseReleaseComplete slot s
  | .kindQueryReply req => Sys2Proof.Machine.execKindQueryReply req s
  | .hostWindowWriteSend station => Sys2Proof.Machine.execHostWindowWriteSend station s
  | .bankAmoPerform req => Sys2Proof.Machine.execBankAmoPerform req s
  | .bankLrw req => Sys2Proof.Machine.execBankLrw req s
  | .bankSch req => Sys2Proof.Machine.execBankSch req s
  | .bankRrel req => Sys2Proof.Machine.execBankRrel req s
  | .bankEnq req => Sys2Proof.Machine.execBankEnq req s
  | .bankDeq req => Sys2Proof.Machine.execBankDeq req s
  | .waiterRecordFree slice => Sys2Proof.Machine.execWaiterRecordFree slice s
  | .proofPublishAtHome req => Sys2Proof.Machine.execProofPublishAtHome req s
  | .proofWaitAtHome req => Sys2Proof.Machine.execProofWaitAtHome req s
  | .proofTakeAtHome req => Sys2Proof.Machine.execProofTakeAtHome req s
  | .proofTestAtHome req => Sys2Proof.Machine.execProofTestAtHome req s
  | .proofReply req => Sys2Proof.Machine.execProofReply req s
  | .vsfuServe station => Sys2Proof.Machine.execVsfuServe station s
  | .readStreamFetch slot port => Sys2Proof.Machine.execReadStreamFetch slot port s
  | .writeStreamSend slot port => Sys2Proof.Machine.execWriteStreamSend slot port s
  | .channelWordArrive slot port => Sys2Proof.Machine.execChannelWordArrive slot port s
  | .mcfgPerform station => Sys2Proof.Machine.execMcfgPerform station s
  | .mstepPerform station => Sys2Proof.Machine.execMstepPerform station s
  | .mzeroPerform station => Sys2Proof.Machine.execMzeroPerform station s
  | .mswapPerform station => Sys2Proof.Machine.execMswapPerform station s
  | .mldwLoadDone slot => Sys2Proof.Machine.execMldwLoadDone slot s
  | .mdrainCapture station => Sys2Proof.Machine.execMdrainCapture station s
  | .mdrainWriteDone station => Sys2Proof.Machine.execMdrainWriteDone station s
  | .mstatPerform station => Sys2Proof.Machine.execMstatPerform station s
  | .cpyPerform station => Sys2Proof.Machine.execCpyPerform station s
  | .cpytPerform station => Sys2Proof.Machine.execCpytPerform station s
  | .cpydPerform station => Sys2Proof.Machine.execCpydPerform station s
  | .cpysPerform station => Sys2Proof.Machine.execCpysPerform station s
  | .copyCompletion station => Sys2Proof.Machine.execCopyCompletion station s
  | .mailboxAccept station => Sys2Proof.Machine.execMailboxAccept station s
  | .migrateArrive tag => Sys2Proof.Machine.execMigrateArrive tag s
  | .runQueueDispatch station => Sys2Proof.Machine.execRunQueueDispatch station s
  | .launchUnitAccept req => Sys2Proof.Machine.execLaunchUnitAccept req s
  | .queueTailWrite q value => Sys2Proof.Machine.execQueueTailWrite q value s
  | .queueReset q => Sys2Proof.Machine.execQueueReset q s
  | .queueDisable q => Sys2Proof.Machine.execQueueDisable q s
  | .queueEnable q => Sys2Proof.Machine.execQueueEnable q s
  | .registerWrite func off value => Sys2Proof.Machine.execRegisterWrite func off value s
  | .launch q ids => Sys2Proof.Machine.execLaunch q ids s
  | .launchp q ids => Sys2Proof.Machine.execLaunchp q ids s
  | .callib q => Sys2Proof.Machine.execCallib q s
  | .signal q => Sys2Proof.Machine.execSignal q s
  | .wait q => Sys2Proof.Machine.execWait q s
  | .waitSignalPoll q => Sys2Proof.Machine.execWaitSignalPoll q s
  | .waitConditionMet q => Sys2Proof.Machine.execWaitConditionMet q s
  | .copy q => Sys2Proof.Machine.execCopy q s
  | .loadshard q => Sys2Proof.Machine.execLoadshard q s
  | .commandComplete q cmd => Sys2Proof.Machine.execCommandComplete q cmd s
  | .coursePlace die => Sys2Proof.Machine.execCoursePlace die s
  | .chordArmed grid chord => Sys2Proof.Machine.execChordArmed grid chord s
  | .chordDispatch die => Sys2Proof.Machine.execChordDispatch die s
  | .chordEnd station => Sys2Proof.Machine.execChordEnd station s
  | .gridComplete grid => Sys2Proof.Machine.execGridComplete grid s
  | .gridFaulted grid => Sys2Proof.Machine.execGridFaulted grid s
  | .slotSpill slot => Sys2Proof.Machine.execSlotSpill slot s
  | .chordSpill station => Sys2Proof.Machine.execChordSpill station s
  | .chordRestore station => Sys2Proof.Machine.execChordRestore station s
  | .rescueCheck die => Sys2Proof.Machine.execRescueCheck die s
  | .waitforWalk die => Sys2Proof.Machine.execWaitforWalk die s
  | .thermalSlotChange slot disable cooler => Sys2Proof.Machine.execThermalSlotChange slot disable cooler s
  | .timesliceRotate station => Sys2Proof.Machine.execTimesliceRotate station s
  | .suspend ctx => Sys2Proof.Machine.execSuspend ctx s
  | .ctxResume ctx => Sys2Proof.Machine.execCtxResume ctx s
  | .ctxMigrate ctx arg => Sys2Proof.Machine.execCtxMigrate ctx arg s
  | .release ctx => Sys2Proof.Machine.execRelease ctx s
  | .guestTake gqn => Sys2Proof.Machine.execGuestTake gqn s
  | .guestWaithSatisfied gqn => Sys2Proof.Machine.execGuestWaithSatisfied gqn s
  | .guestDone gqn seq => Sys2Proof.Machine.execGuestDone gqn seq s
  | .guestFault gqn seq cause => Sys2Proof.Machine.execGuestFault gqn seq cause s
  | .guestReturn gqn seq => Sys2Proof.Machine.execGuestReturn gqn seq s
  | .parked ctx => Sys2Proof.Machine.execParked ctx s
  | .parklate ctx => Sys2Proof.Machine.execParklate ctx s
  | .trq ctx gva write => Sys2Proof.Machine.execTrq ctx gva write s
  | .invack inv => Sys2Proof.Machine.execInvack inv s
  | .invlate inv => Sys2Proof.Machine.execInvlate inv s
  | .ready => Sys2Proof.Machine.execReady s
  | .readyTimeout => Sys2Proof.Machine.execReadyTimeout s
  | .guestCoherentRequest cls addr data => Sys2Proof.Machine.execGuestCoherentRequest cls addr data s
  | .guestReset => Sys2Proof.Machine.execGuestReset s
  | .guestRailOverload => Sys2Proof.Machine.execGuestRailOverload s
  | .dtuTranslate req => Sys2Proof.Machine.execDtuTranslate req s
  | .walkComplete die ctx page => Sys2Proof.Machine.execWalkComplete die ctx page s
  | .stationReissue station => Sys2Proof.Machine.execStationReissue station s
  | .managementRecordHandle die => Sys2Proof.Machine.execManagementRecordHandle die s
  | .inboundWrite func off bytes relaxed => Sys2Proof.Machine.execInboundWrite func off bytes relaxed s
  | .inboundRead func off n => Sys2Proof.Machine.execInboundRead func off n s
  | .hostReadCompletion req status data => Sys2Proof.Machine.execHostReadCompletion req status data s
  | .completionTimeout req => Sys2Proof.Machine.execCompletionTimeout req s
  | .stringFlitArrive flit => Sys2Proof.Machine.execStringFlitArrive flit s
  | .meshFlitRetry link fails => Sys2Proof.Machine.execMeshFlitRetry link fails s
  | .linkFail link reqs => Sys2Proof.Machine.execLinkFail link reqs s
  | .linkdown => Sys2Proof.Machine.execLinkdown s
  | .uncorrectableError place => Sys2Proof.Machine.execUncorrectableError place s
  | .sliceScrub found => Sys2Proof.Machine.execSliceScrub found s
  | .stationSelfTest station found => Sys2Proof.Machine.execStationSelfTest station found s
  | .shardCheck shard => Sys2Proof.Machine.execShardCheck shard s
  | .shardLoadTimeout shard => Sys2Proof.Machine.execShardLoadTimeout shard s
  | .shardRecheck shard => Sys2Proof.Machine.execShardRecheck shard s
  | .rasClear die mask => Sys2Proof.Machine.execRasClear die mask s
  | .stage slot => Sys2Proof.Machine.execStage slot s
  | .fwVerifyDone slot sigs svn => Sys2Proof.Machine.execFwVerifyDone slot sigs svn s
  | .activate slot => Sys2Proof.Machine.execActivate slot s
  | .abort => Sys2Proof.Machine.execAbort s
  | .trialDeadline => Sys2Proof.Machine.execTrialDeadline s
  | .packageReset => Sys2Proof.Machine.execPackageReset s
  | .ringTokenTimeout => Sys2Proof.Machine.execRingTokenTimeout s
  | .thermalThreshold station hot => Sys2Proof.Machine.execThermalThreshold station hot s
  | .thermtrip => Sys2Proof.Machine.execThermtrip s
  | .badcmd q => Sys2Proof.Machine.execBadcmd q s
  | .channelCreditReturn slot port => Sys2Proof.Machine.execChannelCreditReturn slot port s
  | .thermalTransferArrive tag => Sys2Proof.Machine.execThermalTransferArrive tag s
  | .linkRetrainComplete link => Sys2Proof.Machine.execLinkRetrainComplete link s
  | .configurationRequest req => Sys2Proof.Machine.execConfigurationRequest req s
  | .perstDeassertion found lp6Ok images => Sys2Proof.Machine.execPerstDeassertion found lp6Ok images s
  | .powerRemoval => Sys2Proof.Machine.execPowerRemoval s
  | .guestSnoopResponse snoop reply => Sys2Proof.Machine.execGuestSnoopResponse snoop reply s
  | .contextCreation ctx quota stations guestQueues => Sys2Proof.Machine.execContextCreation ctx quota stations guestQueues s
  | .contextDestruction ctx => Sys2Proof.Machine.execContextDestruction ctx s

end Sys2Proof.Machine
end

