-- ==== Sys2Proof/Machine/Service.lean ====
section
/-! DEFINITION. What hardware, firmware and the host do where the rules state an effect and the opcode table has no row
(R401, R402, R412, R416, R419, R431, R441). -/

namespace Sys2Proof.Machine

/-- Management's next step with a context of a failed station (R416): its suspension, then the move of its section to the place that
management chooses; the host resumes it, once it has rewritten the page entries (R354). -/
def State.evacuateCtx (s : State) (c : Nat) (arg : Word) : State :=
  let x := s.ctx c
  if !x.evacuate || x.busy then s
  else if !(s.sectionOf c).any fun st => (s.station st).failed then s.modCtx c fun x => { x with evacuate := false }
  else if !x.suspended then s.suspendCtx c
  else s.migrateCtx c arg

/-- A service of the package after boot. -/
def State.serve (s : State) (x : Service) : State :=
  if !s.boot.up then s
  else
    match x with
    | .corrected d n => s.corrected (d % 4) n
    | .dieReset d => s.dieReset (d % 4) (Config.dieResetCode (d % 4))
    | .powerLimit w => { s with powerLimit := min 950 w }
    | .evacuate c arg => s.evacuateCtx c arg
    | .releaseShard n => { s with shards := tblDel s.shards n }
    | .handover st => s.handOver st
    | .bar4Write f off v => if off < 0x8000 ∧ off % 8 = 0 then { s with bar4 := tblPut s.bar4 (2 ^ 16 * f + off) v } else s

end Sys2Proof.Machine
end

