-- ==== Sys2Proof/Machine/Issue.lean ====
section
/-! DEFINITION. The barrel of a station (R16, R155, R287, R317, R322): which slots issue in a cycle, what one of them does,
and the end of the cycle. -/

namespace Sys2Proof.Machine

/-! ### One slot -/

/-- Whether a held strand tries its instruction again: the wait ends with a condition of its station, not with a reply. -/
def Hold.retried : Hold → Bool
  | .none => false
  | .source _ _ => true
  | .issue _ => true
  | .release _ _ _ _ => false
  | .proof _ => false
  | .prpub _ _ _ _ _ _ _ => true
  | .mldw l => !l.started
  | .mwait _ => true
  | .qfence _ _ _ _ => true
  | .msend => false
  | .sleep => true
  | .cbar _ => false
  | .punbind _ => true
  | .pskip _ _ => true
  | .dtinv _ _ => true
  | .fetch _ => false

/-- The next word of a strand: the one it is held at, a word of the live repetition (R154), or the word at its PC. -/
def State.nextWord (s : State) (t : Strand) : Fetched :=
  if t.hold.retried then .word t.word s
  else
    match t.rep with
    | none => s.fetchWord t t.pc
    | some r => if r.paused then s.fetchWord t t.pc else .word (r.words.getD r.idx 0) s

/-- The code of an illegal word (R53, R54): PRIVILEGED comes before every detail but BADMAJOR. -/
def Strand.wordCause (t : Strand) (w : BitVec 32) (d : Detail) : Cause :=
  let f := Fields.ofWord w
  if !t.priv && (f.maj == 0x36 || (f.maj == 0x34 && decide (0x200 ≤ f.lo))) then causeOf 1 0 5
  else causeOf 1 (sourceOf f.maj) d.code

/-- A strand that is held after its instruction keeps the word. -/
def State.keepWord (s : State) (k : Nat) (w : BitVec 32) : State :=
  s.modSlot k fun t => if t.hold = .none then t else { t with word := w }

/-- The word of the executing strand, decoded and executed; a word that is no instruction is illegal. -/
noncomputable def State.runWord (s : State) (t : Strand) (w : BitVec 32) : Out :=
  match decodeWord w with
  | .ok i =>
    match exec i s with
    | .next s' => .next (s'.keepWord s.cur w)
    | .fault r => .fault r
    | .refused r => .refused r
  | .error d => exec (.illegalInstruction (t.wordCause w d)) s

/-- What slot k does when it issues: the trap that waits at its boundary, or its next instruction. -/
noncomputable def State.runSlot (s : State) (k : Nat) : Out :=
  let s := { s with cur := k }
  match s.slot k with
  | none => .next s
  | some t =>
    match s.pendingTrap k t with
    | some _ => exec .userTrapEntry s
    | none =>
      match s.nextWord t with
      | .stop s => .next s
      | .word w s => s.runWord t w

/-! ### The choice of the issuers (R287) -/

/-- Whether something outside its instructions keeps a strand from issuing: a freeze, a disabled slot (R299), a suspended
context (R295), or the departure of its chord (R293). -/
def State.kept (s : State) (k : Nat) (t : Strand) : Bool :=
  let S := s.station (stationOf k)
  t.frozen.isSome || S.disabled.getLsbD (slotOf k) || (s.ctx t.ctx).suspended ||
    (!t.loose && (match S.chord with
      | some c => c.evict
      | none => false))

/-- Whether a held strand's instruction would go on now. -/
noncomputable def State.goesOn (s : State) (k : Nat) (t : Strand) : Bool :=
  match s.runSlot k with
  | .next s' => (s'.slot k).map (·.hold) != some t.hold
  | .fault _ => true
  | .refused _ => true

/-- Whether slot k is ready. -/
noncomputable def State.ready (s : State) (k : Nat) : Bool :=
  match s.slot k with
  | none => false
  | some t =>
    !s.kept k t && (t.hold == .none || (s.pendingTrap k t).isSome || (t.hold.retried && s.goesOn k t))

/-- Whether a hold comes before issue: an interlock, an empty source, a full port, queue or buffer (R287), or an instruction that is not
there yet. -/
def Hold.beforeIssue : Hold → Bool
  | .none => false
  | .source _ _ => true
  | .issue _ => true
  | .release _ _ _ _ => false
  | .proof _ => false
  | .prpub _ _ _ _ _ _ _ => false
  | .mldw _ => false
  | .mwait _ => false
  | .qfence _ _ _ _ => false
  | .msend => false
  | .sleep => false
  | .cbar _ => false
  | .punbind _ => false
  | .pskip _ _ => false
  | .dtinv _ _ => false
  | .fetch _ => true

/-- A strand whose next instruction could not issue waits for it, and takes no issue of the cycle (R287). -/
noncomputable def State.settleSlot (s : State) (k : Nat) : State :=
  match s.slot k with
  | none => s
  | some t =>
    if s.kept k t || t.hold != .none || (s.pendingTrap k t).isSome then s
    else
      match s.runSlot k with
      | .next s' =>
        if ((s'.slot k).map fun u => u.hold.beforeIssue && u.pc == t.pc).getD false then { s' with cur := s.cur } else s
      | .fault _ => s
      | .refused _ => s

/-- The same for the eight slots of a station. -/
noncomputable def State.settle (s : State) (st : Nat) : State :=
  (numsFrom 0 8).foldl (fun s i => s.settleSlot (8 * st + i)) s

/-- Whether a word is a vector instruction, and whether it is a memory instruction (R287). -/
def isVectorWord (w : BitVec 32) : Bool := let m := (Fields.ofWord w).maj; decide (0x20 ≤ m ∧ m ≤ 0x2A)
def isMemoryWord (w : BitVec 32) : Bool :=
  let f := Fields.ofWord w
  f.maj == 0x19 || f.maj == 0x1A || f.maj == 0x1B || f.maj == 0x1D || f.maj == 0x24 || f.maj == 0x1E ||
    (f.maj == 0x31 && decide (4 ≤ f.m.fn)) ||
    (f.maj == 0x1C && f.lo / 64 == 3) || (f.maj == 0x30 && f.m.fn == 1)

/-- The word that slot k would issue, if it has one at hand. -/
def State.peek (s : State) (k : Nat) : Option (BitVec 32) :=
  (s.slot k).bind fun t =>
    match s.pendingTrap k t, ({ s with cur := k } : State).nextWord t with
    | none, .word w _ => some w
    | _, _ => none

/-- Two slots conflict when both issue vector instructions, or both memory instructions. -/
def State.conflict (s : State) (j k : Nat) : Bool :=
  match s.peek j, s.peek k with
  | some v, some w => (isVectorWord v && isVectorWord w) || (isMemoryWord v && isMemoryWord w)
  | _, _ => false

/-- The slots of a station in rotating order from the head slot, CYCLE mod 8. -/
def State.rotation (s : State) (st : Nat) : List Nat :=
  (numsFrom 0 8).map fun i => 8 * st + ((s.station st).cycle.toNat + i) % 8

/-- The slots that issue in this cycle, lower slot first: what two of them do in one cycle takes effect in that order
(R125, R152, R158, R194, R315). -/
noncomputable def State.issuers (s : State) (st : Nat) : List Nat :=
  match (s.rotation st).filter s.ready with
  | [] => []
  | k :: rest =>
    match rest.find? fun j => !s.conflict k j with
    | none => [k]
    | some j => if k < j then [k, j] else [j, k]

/-! ### The cycle -/

/-- The end of a station's cycle: CYCLE counts, armed timers of resident strands count (R317), and what a cycle bounds is
cleared (R30, R198, R322). -/
def State.endCycle (s : State) (st : Nat) : State :=
  let s := s.modStation st fun S => { S with cycle := S.cycle + 1, cycAge := s.nextAge, plan := none, same := [], msgTrap := false }
  { s with strands := s.strands.map fun e =>
      if stationOf e.1 = st then (e.1, { e.2 with timer := e.2.timer.tick, ran := e.2.ran + 1 }) else e }

/-- The next of a cycle's issuers, or the end of the cycle. -/
noncomputable def State.runPlan (s : State) (st : Nat) : List Nat → Out
  | [] => .next (s.endCycle st)
  | k :: rest => (s.modStation st fun S => { S with plan := some rest }).runSlot k

/-- One move of a station: the choice of the cycle's issuers at its beginning, and the next of them, or the end of the cycle. -/
noncomputable def State.runStation (s : State) (st : Nat) : Out :=
  match (s.station st).plan with
  | some l => s.runPlan st l
  | none => (s.settle st).runPlan st ((s.settle st).issuers st)

/-! ### Events -/

/-- Whether an entry of the agenda may happen on its own: it is no instruction, and no illegal word, which only a strand
meets. -/
def Instr.happens : Instr → Bool
  | .illegalInstruction _ => false
  | i => !i.isWord

/-- Whose move it is (the agenda is the model's input): an event happens, another station comes into focus, or the station
in focus goes on. A device that is held in reset, in boot or without power executes nothing. -/
noncomputable def State.move (s : State) : Out :=
  match s.agenda with
  | .act e :: rest => if Instr.happens e then exec e { s with agenda := rest } else .next { s with agenda := rest }
  | .run st :: rest => .next { s with agenda := rest, focus := st % 1024 }
  | .serve x :: rest => .next (({ s with agenda := rest } : State).serve x)
  | [] => if s.boot.up then s.runStation s.focus else .fault .deviceHeld

/-! ### A program from outside -/

/-- The line with a word put at an address. -/
def putWord (d : BitVec 512) (a : Nat) (w : BitVec 32) : BitVec 512 :=
  let n := 8 * (a % 64)
  (d &&& ~~~((0xFFFFFFFF#512) <<< n)) ||| (w.setWidth 512 <<< n)

/-- The strand that a program gets when no strand of the station in focus is ready to fetch. -/
def freshStrand : Strand where
  tag := 0
  ctx := 0
  world := false
  priv := false
  grid := gridKey 0 1
  loose := false
  index := 0
  nm1 := 0
  chordCsr := 0
  courseCsr := 0
  stageCsr := 0
  gridCsr := 1
  pc := 0

/-- Its grid, and its chord. -/
def freshGrid : Grid where
  st := .running
  ctx := 0
  world := false
  serial := 1
  entry := 0
  arg0 := 0
  arg1 := 0
  wm1 := 0
  hm1 := 0
  strands := 1
  stages := 1
  courses := 1
  allowance := 0
  priority := 0
  ways := 0
  mode := 0
  seed := 0
  pimg := 0
  plen := 0
  quota := 0
  proofs := []
  ports := []
  crec := 0
  sig := 0
  by_ := .queue 0 0

def freshChord : Chord where
  grid := gridKey 0 1
  course := 0
  x := 0
  y := 0
  n := 1
  st := .resident
  live := [0]
  tags := [0]

/-- Whether the strand in slot k would fetch at its PC next. -/
def State.fetches (s : State) (k : Nat) : Bool :=
  match s.slot k with
  | none => false
  | some t => !s.kept k t && t.hold == .none && (s.pendingTrap k t).isNone && t.rep.isNone && gvaOk s.cfg t.pc && t.pc.toNat % 4 == 0

/-- The slot of the station in focus that runs a program placed from outside. -/
def State.programSlot (s : State) : Nat := (((numsFrom 0 8).map (8 * s.focus + ·)).find? s.fetches).getD (8 * s.focus)

/-- A strand for the program, when the slot has none that fetches. -/
def State.withProgramStrand (s : State) (k : Nat) : State :=
  if s.fetches k then s
  else
    let s : State := { s with
      grids := tblPut s.grids (gridKey 0 1) freshGrid
      ctxs := tblPut s.ctxs 0 { s.ctx 0 with suspended := false } }
    (s.modStation (stationOf k) fun S => { S with chord := some freshChord, disabled := 0 }).setSlot k freshStrand

/-- The word in the line of the instruction cache at the PC of the program's strand; the strand issues next. -/
def State.placeWord (s : State) (w : BitVec 32) : State :=
  let s : State := { s with agenda := [], boot := {} }
  let k := s.programSlot
  let s := s.withProgramStrand k
  let pc := ((s.slot k).map (·.pc.toNat)).getD 0
  s.modStation s.focus fun S =>
    let d := ((tblGet S.icache (pc / 64)).map (·.1)).getD 0
    { S with plan := some [k], icache := tblPut S.icache (pc / 64) (putWord d pc w, false) }

end Sys2Proof.Machine
end

