-- ==== Sys2Proof/Machine/Step.lean ====
section
/-! DEFINITION. The step: one event, or one move of the station in focus. -/

namespace Sys2Proof.Machine

/-- One step of the package. -/
noncomputable def step (s : State) : Host.Outcome State Fault Refusal := s.move

/-- `s` with the instruction word `w` where the step fetches next: in the line of the L1 instruction cache that holds the PC
of the strand that issues next. `nbits` is 32 for every word. -/
def State.withFetchWord (s : State) (nbits w : Nat) : State := s.placeWord (BitVec.ofNat 32 (w % 2 ^ nbits))

end Sys2Proof.Machine
end

