-- ==== Sys2Proof/Safety.lean ====
section
/-! DEFINITION. What a state is held to, and what counts as a safe run, in the terms the statements use. -/

namespace Sys2Proof.Machine

/-- The machine's data is in its canonical form: memory lists rising addresses and no zero byte, and the station in focus is
one of the package's 1,024. -/
def State.wf (s : State) : Bool := Memory.wf s.mem && decide (s.focus < 1024)

/-- A run of n steps is safe when none of them stops the machine. -/
def SafeFor (n : Nat) (s : State) : Prop := ∃ s', core.run n s = .next s'

/-- An outcome that goes on, in a state with a property. -/
def Goes (o : Out) (p : State → Prop) : Prop := ∃ s', o = .next s' ∧ p s'

end Sys2Proof.Machine
end

