-- ==== Sys2Proof/Certificates/Slice0/Obligations.lean ====
section
/-! DEFINITION. The statements for the provers. The definitions under `Sys2Proof.Claims` only abbreviate what several
statements say; the statements are the definitions `Obligations.…`. -/

namespace Sys2Proof.Claims

open Sys2Proof Sys2Proof.Machine

/-! ### What the statements share -/

/-- The strand that executes is `t`, and the examination at issue stops nothing: the sources are readable, the
destinations are free (R19, R32, R33, R36, R123). -/
def Passes (s : State) (t : Strand) (src : Nat) (e : Bool) (srcs dsts : List Opnd) : Prop :=
  s.curStrand = some t ∧ s.gate src e srcs dsts = none

/-- The instruction writes `v` to the scalar register `d` at once and goes on to the next instruction. -/
def Writes (i : Instr) (s : State) (d : SReg) (v : Word) : Prop := exec i s = .next (s.putS s.cur d v).advance

/-- An event or instruction answers a next state with a property. -/
def Reaches (i : Instr) (s : State) (P : State → Prop) : Prop := ∃ u, exec i s = .next u ∧ P u

/-- The cell that the executing slot's scalar register holds in a state. -/
def cellS (s : State) (k : Nat) (r : SReg) : Option SCell := (s.slot k).map fun t => s.scellNow k t r

/-- The program counter of a slot's strand. -/
def pcOf (s : State) (k : Nat) : Option Word := (s.slot k).map (·.pc)

/-- What waits in a slot. -/
def holdOf (s : State) (k : Nat) : Option Hold := (s.slot k).map (·.hold)

/-- The strand in the executing slot has gone on from `t`: its PC is `t`'s, advanced, and it is held by nothing. -/
def WentOn (u : State) (k : Nat) (t : Strand) : Prop := pcOf u k = some t.advance.pc ∧ holdOf u k = some .none

end Sys2Proof.Claims

open Sys2Proof Sys2Proof.Machine Sys2Proof.Claims

/-! ### Scalar arithmetic (R105 to R113) -/

/-- R107 and R110, 64 bits: the result of every two-source instruction. -/
def Sys2Proof.Claims.ScalarBinaryResults : Prop :=
  ∀ (s : State) (t : Strand) (d a b : SReg) (e : Bool), Passes s t 0 e [.s a, .s b] [.s d] →
    let A := s.sval t a
    let B := s.sval t b
    Writes (.add d a b e) s d (A + B) ∧
    Writes (.sub d a b e) s d (A - B) ∧
    Writes (.and d a b e) s d (A &&& B) ∧
    Writes (.or d a b e) s d (A ||| B) ∧
    Writes (.xor d a b e) s d (A ^^^ B) ∧
    Writes (.sll d a b e) s d (BitVec.ofNat 64 (A.toNat * 2 ^ (B.toNat % 64))) ∧
    Writes (.srl d a b e) s d (BitVec.ofNat 64 (A.toNat / 2 ^ (B.toNat % 64))) ∧
    Writes (.sra d a b e) s d (BitVec.ofInt 64 (A.toInt / 2 ^ (B.toNat % 64))) ∧
    Writes (.slt d a b e) s d (if A.toInt < B.toInt then 1 else 0) ∧
    Writes (.sltu d a b e) s d (if A.toNat < B.toNat then 1 else 0) ∧
    Writes (.min d a b e) s d (BitVec.ofInt 64 (min A.toInt B.toInt)) ∧
    Writes (.max d a b e) s d (BitVec.ofInt 64 (max A.toInt B.toInt)) ∧
    Writes (.minu d a b e) s d (BitVec.ofNat 64 (min A.toNat B.toNat)) ∧
    Writes (.maxu d a b e) s d (BitVec.ofNat 64 (max A.toNat B.toNat)) ∧
    Writes (.mul d a b e) s d (BitVec.ofInt 64 (A.toInt * B.toInt)) ∧
    Writes (.mulh d a b e) s d (BitVec.ofInt 64 (A.toInt * B.toInt / 2 ^ 64)) ∧
    Writes (.mulhu d a b e) s d (BitVec.ofNat 64 (A.toNat * B.toNat / 2 ^ 64)) ∧
    Writes (.div d a b e) s d (if B.toInt = 0 then -1 else BitVec.ofInt 64 (A.toInt.tdiv B.toInt)) ∧
    Writes (.divu d a b e) s d (if B.toNat = 0 then -1 else BitVec.ofNat 64 (A.toNat / B.toNat)) ∧
    Writes (.rem d a b e) s d
      (if B.toInt = 0 then A else BitVec.ofInt 64 (A.toInt - B.toInt * A.toInt.tdiv B.toInt)) ∧
    Writes (.remu d a b e) s d (if B.toNat = 0 then A else BitVec.ofNat 64 (A.toNat % B.toNat))

/-- R109 and the .w forms of R110: the 32-bit operation on A[31:0] and B[31:0], its result sign-extended. -/
def Sys2Proof.Claims.ScalarWordBinaryResults : Prop :=
  ∀ (s : State) (t : Strand) (d a b : SReg) (e : Bool), Passes s t 0 e [.s a, .s b] [.s d] →
    let A : BitVec 32 := (s.sval t a).setWidth 32
    let B : BitVec 32 := (s.sval t b).setWidth 32
    let W (i : Instr) (r : BitVec 32) : Prop := Writes i s d (r.signExtend 64)
    W (.addW d a b e) (A + B) ∧
    W (.subW d a b e) (A - B) ∧
    W (.andW d a b e) (A &&& B) ∧
    W (.orW d a b e) (A ||| B) ∧
    W (.xorW d a b e) (A ^^^ B) ∧
    W (.sllW d a b e) (BitVec.ofNat 32 (A.toNat * 2 ^ (B.toNat % 32))) ∧
    W (.srlW d a b e) (BitVec.ofNat 32 (A.toNat / 2 ^ (B.toNat % 32))) ∧
    W (.sraW d a b e) (BitVec.ofInt 32 (A.toInt / 2 ^ (B.toNat % 32))) ∧
    W (.sltW d a b e) (if A.toInt < B.toInt then 1 else 0) ∧
    W (.sltuW d a b e) (if A.toNat < B.toNat then 1 else 0) ∧
    W (.minW d a b e) (BitVec.ofInt 32 (min A.toInt B.toInt)) ∧
    W (.maxW d a b e) (BitVec.ofInt 32 (max A.toInt B.toInt)) ∧
    W (.minuW d a b e) (BitVec.ofNat 32 (min A.toNat B.toNat)) ∧
    W (.maxuW d a b e) (BitVec.ofNat 32 (max A.toNat B.toNat)) ∧
    W (.mulW d a b e) (BitVec.ofInt 32 (A.toInt * B.toInt)) ∧
    W (.mulhW d a b e) (BitVec.ofInt 32 (A.toInt * B.toInt / 2 ^ 32)) ∧
    W (.mulhuW d a b e) (BitVec.ofNat 32 (A.toNat * B.toNat / 2 ^ 32)) ∧
    W (.divW d a b e) (if B.toInt = 0 then -1 else BitVec.ofInt 32 (A.toInt.tdiv B.toInt)) ∧
    W (.divuW d a b e) (if B.toNat = 0 then -1 else BitVec.ofNat 32 (A.toNat / B.toNat)) ∧
    W (.remW d a b e) (if B.toInt = 0 then A else BitVec.ofInt 32 (A.toInt - B.toInt * A.toInt.tdiv B.toInt)) ∧
    W (.remuW d a b e) (if B.toNat = 0 then A else BitVec.ofNat 32 (A.toNat % B.toNat))

/-- The one-source instructions of R107, R109, R111 and R112. -/
def Sys2Proof.Claims.ScalarUnaryResults : Prop :=
  ∀ (s : State) (t : Strand) (d a : SReg) (e : Bool), Passes s t 0 e [.s a] [.s d] →
    let A := s.sval t a
    let L : BitVec 32 := A.setWidth 32
    (∃ n, Writes (.clz d a e) s d (BitVec.ofNat 64 n) ∧ (A = 0 → n = 64) ∧ (A ≠ 0 → n < 64) ∧
      (∀ i, 64 - n ≤ i → A.getLsbD i = false) ∧ (A ≠ 0 → A.getLsbD (63 - n) = true)) ∧
    (∃ n, Writes (.ctz d a e) s d (BitVec.ofNat 64 n) ∧ (A = 0 → n = 64) ∧ (A ≠ 0 → n < 64) ∧
      (∀ i, i < n → A.getLsbD i = false) ∧ (A ≠ 0 → A.getLsbD n = true)) ∧
    Writes (.popc d a e) s d (BitVec.ofNat 64 ((List.range 64).countP fun i => A.getLsbD i)) ∧
    (∃ n, Writes (.clzW d a e) s d (BitVec.ofNat 64 n) ∧ (L = 0 → n = 32) ∧ (L ≠ 0 → n < 32) ∧
      (∀ i, 32 - n ≤ i → L.getLsbD i = false) ∧ (L ≠ 0 → L.getLsbD (31 - n) = true)) ∧
    (∃ n, Writes (.ctzW d a e) s d (BitVec.ofNat 64 n) ∧ (L = 0 → n = 32) ∧ (L ≠ 0 → n < 32) ∧
      (∀ i, i < n → L.getLsbD i = false) ∧ (L ≠ 0 → L.getLsbD n = true)) ∧
    Writes (.popcW d a e) s d (BitVec.ofNat 64 ((List.range 32).countP fun i => L.getLsbD i)) ∧
    Writes (.sextB d a e) s d ((A.extractLsb' 0 8).signExtend 64) ∧
    Writes (.sextH d a e) s d ((A.extractLsb' 0 16).signExtend 64) ∧
    Writes (.sextW d a e) s d ((A.extractLsb' 0 32).signExtend 64) ∧
    Writes (.zextB d a e) s d (BitVec.ofNat 64 (A.toNat % 2 ^ 8)) ∧
    Writes (.zextH d a e) s d (BitVec.ofNat 64 (A.toNat % 2 ^ 16)) ∧
    Writes (.zextW d a e) s d (BitVec.ofNat 64 (A.toNat % 2 ^ 32)) ∧
    (∀ I : BitVec 15,
      Writes (.addi d a I e) s d (A + I.signExtend 64) ∧
      Writes (.andi d a I e) s d (A &&& I.signExtend 64) ∧
      Writes (.ori d a I e) s d (A ||| I.signExtend 64) ∧
      Writes (.xori d a I e) s d (A ^^^ I.signExtend 64) ∧
      Writes (.slti d a I e) s d (if A.toInt < I.toInt then 1 else 0) ∧
      Writes (.sltiu d a I e) s d (if A.toNat < (I.signExtend 64).toNat then 1 else 0)) ∧
    (∀ n : BitVec 6,
      Writes (.slli d a n e) s d (BitVec.ofNat 64 (A.toNat * 2 ^ n.toNat)) ∧
      Writes (.srli d a n e) s d (BitVec.ofNat 64 (A.toNat / 2 ^ n.toNat)) ∧
      Writes (.srai d a n e) s d (BitVec.ofInt 64 (A.toInt / 2 ^ n.toNat))) ∧
    (∀ n : BitVec 5,
      Writes (.slliW d a n e) s d ((BitVec.ofNat 32 (L.toNat * 2 ^ n.toNat)).signExtend 64) ∧
      Writes (.srliW d a n e) s d ((BitVec.ofNat 32 (L.toNat / 2 ^ n.toNat)).signExtend 64) ∧
      Writes (.sraiW d a n e) s d ((BitVec.ofInt 32 (L.toInt / 2 ^ n.toNat)).signExtend 64))

/-- SEL (R108) with its third source. -/
def Sys2Proof.Claims.SelectResult : Prop :=
  ∀ (s : State) (t : Strand) (d a b : SReg) (e : Bool), Passes s t 0 e [.s a, .s b, .s d] [] →
    Writes (.sel d a b e) s d (if s.sval t d ≠ 0 then s.sval t a else s.sval t b)

/-- The word of form B or D (R46): the major, two register fields, a 15-bit immediate in two pieces, and the e bit. -/
def Sys2Proof.Claims.wordB (maj f g : Nat) (I : BitVec 15) (e : Bool) : BitVec 32 :=
  BitVec.ofNat 32 (maj * 2 ^ 26 + f * 2 ^ 21 + g * 2 ^ 16 + I.toNat / 2 ^ 10 * 2 ^ 11 + (if e then 2 ^ 10 else 0) + I.toNat % 2 ^ 10)

/-- The word of form C (R47). -/
def Sys2Proof.Claims.wordC (maj f : Nat) (I : BitVec 20) (e : Bool) : BitVec 32 :=
  BitVec.ofNat 32 (maj * 2 ^ 26 + f * 2 ^ 21 + I.toNat / 2 ^ 10 * 2 ^ 11 + (if e then 2 ^ 10 else 0) + I.toNat % 2 ^ 10)

/-- R113: LUI and AUIPC, majors 0x0B and 0x0C of form C. Neither reads a register: with either e bit the examination at issue has no
source. -/
def Obligations.UpperImmediates : Prop :=
  (∀ (s : State) (t : Strand) (d : SReg) (I : BitVec 20) (e : Bool), Passes s t 0 e [] [.s d] →
    Writes (.lui d I e) s d (BitVec.ofInt 64 (I.toInt * 2 ^ 15)) ∧
    Writes (.auipc d I e) s d (BitVec.ofInt 64 (t.pc.toNat + I.toInt * 2 ^ 15))) ∧
  ∀ (d : SReg) (I : BitVec 20) (e : Bool),
    decodeWord (wordC 0x0B d.code I e) = .ok (.lui d I e) ∧ decodeWord (wordC 0x0C d.code I e) = .ok (.auipc d I e)

/-! ### Branches and jumps (R114 to R118) -/

/-- Where a branch of `off` words goes when its condition is `c`: R114, with R118's check of a taken target. -/
def Sys2Proof.Claims.Branches (i : Instr) (s : State) (t : Strand) (off : BitVec 15) (c : Prop) : Prop :=
  let target : Word := BitVec.ofInt 64 (t.pc.toNat + 4 * off.toInt)
  (¬ c → exec i s = .next s.advance) ∧
  (c → gvaOk s.cfg target = true → exec i s = .next (s.jump target)) ∧
  (c → gvaOk s.cfg target = false → exec i s = .next (s.faultAt 0x082 target))

/-- The conditional branches of R114, majors 0x10 to 0x15 of form D, taken, not taken, and with a target that R118 refuses. -/
def Obligations.ConditionalBranches : Prop :=
  (∀ (s : State) (t : Strand) (a b : SReg) (off : BitVec 15) (e : Bool), Passes s t 0 e [.s a, .s b] [] →
    let A := s.sval t a
    let B := s.sval t b
    Branches (.beq a b off e) s t off (A = B) ∧
    Branches (.bne a b off e) s t off (A ≠ B) ∧
    Branches (.blt a b off e) s t off (A.toInt < B.toInt) ∧
    Branches (.bge a b off e) s t off (B.toInt ≤ A.toInt) ∧
    Branches (.bltu a b off e) s t off (A.toNat < B.toNat) ∧
    Branches (.bgeu a b off e) s t off (B.toNat ≤ A.toNat)) ∧
  (∀ t : Strand, t.rep = none → t.advance.pc = t.pc + 4) ∧
  ∀ (a b : SReg) (off : BitVec 15) (e : Bool),
    let D (maj : Nat) : Decoded := decodeWord (wordB maj a.code b.code off e)
    D 0x10 = .ok (.beq a b off e) ∧ D 0x11 = .ok (.bne a b off e) ∧ D 0x12 = .ok (.blt a b off e) ∧ D 0x13 = .ok (.bge a b off e) ∧
    D 0x14 = .ok (.bltu a b off e) ∧ D 0x15 = .ok (.bgeu a b off e)

/-- The predicate branches of R115, major 0x18: over all bits of the predicate, whatever is empty; a reserved bit that is not zero is
BADFIELD. -/
def Obligations.PredicateBranches : Prop :=
  (∀ (s : State) (t : Strand) (p : PReg) (off : BitVec 15) (e : Bool), s.curStrand = some t →
    let P := t.pred p
    Branches (.bpredAny p off e) s t off (∃ i, i < 256 ∧ P.getLsbD i = true) ∧
    Branches (.bpredAll p off e) s t off (∀ i, i < 256 → P.getLsbD i = true) ∧
    Branches (.bpredNone p off e) s t off (∀ i, i < 256 → P.getLsbD i = false) ∧
    Branches (.bpredNall p off e) s t off (∃ i, i < 256 ∧ P.getLsbD i = false)) ∧
  (∀ (p : PReg) (off : BitVec 15) (e : Bool),
    let D (test : Nat) : Decoded := decodeWord (wordB 0x18 p.val test off e)
    D 0 = .ok (.bpredAny p off e) ∧ D 1 = .ok (.bpredAll p off e) ∧ D 2 = .ok (.bpredNone p off e) ∧ D 3 = .ok (.bpredNall p off e)) ∧
  ∀ (p test : Nat) (off : BitVec 15) (e : Bool), p < 32 → test < 32 → (8 ≤ p ∨ 4 ≤ test) →
    decodeWord (wordB 0x18 p test off e) = .error .badField

/-- JAL (R116), major 0x16 of form J, and JALR (R117), major 0x17 of form B: the link, the target, and the faults at the jump. JAL
reads no register and waits for none, but a poisoned x[d] is the precise fault of the load that marked it (R123): a result that is
outstanding for x[d] goes nowhere from then on (the model, log entry 75), and nothing else of the state is touched beside the link and
the jump. With d = x0 it is a plain jump. -/
def Obligations.JumpsAndLinks : Prop :=
  (∀ (s : State) (t : Strand) (d : SReg) (off : BitVec 21), s.curStrand = some t →
    let target : Word := BitVec.ofInt 64 (t.pc.toNat + 4 * off.toInt)
    ((t.loose = true ∧ ∃ i, d = .y i) → exec (.jal d off) s = .next (s.illegal 0 4)) ∧
    (¬ (t.loose = true ∧ ∃ i, d = .y i) →
      (∀ p, (s.scell s.cur t d).poison = some p → exec (.jal d off) s = .next (s.faultPoison p)) ∧
      ((s.scell s.cur t d).poison = none →
        (gvaOk s.cfg target = true → exec (.jal d off) s = .next (((s.supersede t d).putS s.cur d (t.pc + 4)).jump target)) ∧
        (gvaOk s.cfg target = false → exec (.jal d off) s = .next (s.faultAt 0x082 target))))) ∧
  (∀ (s : State) (t : Strand) (d : SReg),
    { s.supersede t d with results := s.results } = s ∧
    (∀ e, e ∈ s.results → e.2.dst ≠ .s d → e ∈ (s.supersede t d).results) ∧
    ((∀ e, e ∈ s.results → e.2.dst ≠ .s d) → s.supersede t d = s)) ∧
  (∀ (s : State) (t : Strand) (d a : SReg) (I : BitVec 15) (e : Bool), Passes s t 0 e [.s a] [.s d] →
    let target : Word := s.sval t a + I.signExtend 64
    (target.toNat % 4 ≠ 0 → exec (.jalr d a I e) s = .next (s.faultAt 0x081 target)) ∧
    (target.toNat % 4 = 0 → gvaOk s.cfg target = false → exec (.jalr d a I e) s = .next (s.faultAt 0x082 target)) ∧
    (target.toNat % 4 = 0 → gvaOk s.cfg target = true →
      exec (.jalr d a I e) s = .next ((s.putS s.cur d (t.pc + 4)).jump target))) ∧
  (∀ (s : State) (v : Word), s.putS s.cur (.x 0) v = s) ∧
  ∀ (d a : SReg) (off : BitVec 21) (I : BitVec 15) (e : Bool),
    decodeWord (BitVec.ofNat 32 (0x16 * 2 ^ 26 + d.code * 2 ^ 21 + off.toNat)) = .ok (.jal d off) ∧
    decodeWord (wordB 0x17 d.code a.code I e) = .ok (.jalr d a I e)

/-! ### Control and status registers (R22 to R27, R320) -/

/-- R320: each CSR instruction writes the old value to x[d]; CSRW, CSRS and CSRC give the CSR A, old OR A, and old AND
NOT A, and clear the W1C bits that A names (none, for CSRC). -/
def Sys2Proof.Claims.CsrInstructions : Prop :=
  ∀ (s : State) (t : Strand) (d : SReg) (n : BitVec 10) (e : Bool) (old : Word),
    (n.toNat < 0x200 ∨ t.priv = true) → s.csrRead s.cur t n.toNat = some old →
    ((n.toNat = 0x030 ∨ n.toNat = 0x031) → s.flagsDue t = false) →
    (Passes s t 0 e [] [.s d] → Writes (.csrr d n e) s d old) ∧
    (∀ a : SReg, csrRo n.toNat = false → Passes s t 0 e [.s a] [.s d] →
      let A := s.sval t a
      exec (.csrw d a n e) s = .next (((s.csrWrite t n.toNat A A).putS s.cur d old).advance) ∧
      exec (.csrs d a n e) s = .next (((s.csrWrite t n.toNat (old ||| A) A).putS s.cur d old).advance) ∧
      exec (.csrc d a n e) s = .next (((s.csrWrite t n.toNat (old &&& ~~~A) 0).putS s.cur d old).advance))

/-- What the user CSRs read in the slot of the executing strand (R22 to R27, R317, R319). -/
def Sys2Proof.Claims.CsrReadValues : Prop :=
  ∀ (s : State) (t : Strand) (k : Nat),
    s.csrRead k t 0x000 = some (BitVec.ofNat 64 (4 * t.priv.toNat + 2 * t.world.toNat + t.intrap.toNat)) ∧
    s.csrRead k t 0x001 = some (t.mode.setWidth 64) ∧
    s.csrRead k t 0x002 = some t.utvec ∧
    s.csrRead k t 0x003 = some t.uepc ∧
    s.csrRead k t 0x004 = some t.ucause ∧
    s.csrRead k t 0x005 = some (t.umask.setWidth 64) ∧
    s.csrRead k t 0x010 = some (BitVec.ofNat 64 (2 ^ 33 * t.timer.fired.toNat + 2 ^ 32 * t.timer.arm.toNat + t.timer.count.toNat)) ∧
    s.csrRead k t 0x011 = some (s.station (k / 8)).cycle ∧
    s.csrRead k t 0x020 = some (BitVec.ofNat 64 (k % 8)) ∧
    s.csrRead k t 0x023 = some (t.chordCsr.setWidth 64) ∧
    s.csrRead k t 0x024 = some (t.courseCsr.setWidth 64) ∧
    s.csrRead k t 0x025 = some (t.stageCsr.setWidth 64) ∧
    s.csrRead k t 0x026 = some (t.gridCsr.setWidth 64) ∧
    s.csrRead k t 0x027 = some 2048 ∧
    s.csrRead k t 0x030 = some (t.msticky.setWidth 64) ∧
    s.csrRead k t 0x031 = some t.seed

/-- What a write changes of the user CSRs (R23 to R26, R317, R319): the fields that the register has, and nothing else of
the strand or of the state. -/
def Sys2Proof.Claims.CsrWriteEffects : Prop :=
  ∀ (s : State) (t : Strand) (v c : Word), s.curStrand = some t →
    let after (n : Nat) (u : Strand) : Prop :=
      (s.csrWrite t n v c).curStrand = some u ∧
      { s.csrWrite t n v c with strands := s.strands } = s ∧
      ∀ k, k ≠ s.cur → (s.csrWrite t n v c).slot k = s.slot k
    after 0x001 { t with mode := v.setWidth 5 } ∧
    after 0x002 { t with utvec := BitVec.ofNat 64 (v.toNat % 2 ^ 57 / 4 * 4) } ∧
    after 0x003 { t with uepc := BitVec.ofNat 64 (v.toNat % 2 ^ 57 / 4 * 4) } ∧
    after 0x005 { t with umask := v.setWidth 4 } ∧
    after 0x010 { t with timer := { count := v.setWidth 32, arm := v.getLsbD 32,
                                    fired := t.timer.fired && !c.getLsbD 33 } } ∧
    after 0x030 { t with msticky := t.msticky &&& ~~~c.setWidth 6 } ∧
    after 0x031 { t with seed := v }

/-- A CSR access that R23 and R53 refuse: a privileged number outside a privileged strand is PRIVILEGED, an unassigned number,
or a write of a read-only one, is BADCSR; nothing is read or written. -/
def Sys2Proof.Claims.CsrIllegalAccesses : Prop :=
  ∀ (s : State) (t : Strand) (d a : SReg) (n : BitVec 10) (e : Bool), s.curStrand = some t →
    (t.loose = true → Opnd.shared (.s d) = false ∧ Opnd.shared (.s a) = false) →
    (0x200 ≤ n.toNat → t.priv = false →
      exec (.csrr d n e) s = .next (s.illegal 0 5) ∧ exec (.csrw d a n e) s = .next (s.illegal 0 5) ∧
      exec (.csrs d a n e) s = .next (s.illegal 0 5) ∧ exec (.csrc d a n e) s = .next (s.illegal 0 5)) ∧
    ((n.toNat < 0x200 ∨ t.priv = true) → s.csrRead s.cur t n.toNat = none →
      exec (.csrr d n e) s = .next (s.illegal 0 6)) ∧
    ((n.toNat < 0x200 ∨ t.priv = true) → (s.csrRead s.cur t n.toNat = none ∨ csrRo n.toNat = true) →
      exec (.csrw d a n e) s = .next (s.illegal 0 6) ∧ exec (.csrs d a n e) s = .next (s.illegal 0 6) ∧
      exec (.csrc d a n e) s = .next (s.illegal 0 6))

/-! ### Scalar loads and stores (R120 to R125) -/

/-- The number whose n bytes, lowest first, are given. -/
def Sys2Proof.Claims.bytesNat (n : Nat) (b : Nat → Byte) : Nat := ((List.range n).map fun i => (b i).toNat * 2 ^ (8 * i)).sum

/-- Byte i of a word. -/
def Sys2Proof.Claims.byteOf (w : Word) (i : Nat) : Byte := w.extractLsb' (8 * i) 8

/-- LD when the station holds every byte of the access, unpoisoned (R120, R193): x[d] receives the bytes, extended by the
size. -/
def Sys2Proof.Claims.LoadOfHeldBytes : Prop :=
  ∀ (s : State) (t : Strand) (sz : LdSize) (d a : SReg) (I : BitVec 12) (e : Bool) (b : Nat → Byte),
    Passes s t 0 e [.s a] [.s d] →
    let addr := s.sval t a + I.signExtend 64
    addr.toNat % sz.bytes = 0 → gvaOk s.cfg addr = true →
    (∀ i, i < sz.bytes → (s.station s.curStation).heldByte (addr.toNat + i) = some { val := b i }) →
    Writes (.ld sz d a I e) s d
      (if sz.signed then (BitVec.ofNat (8 * sz.bytes) (bytesNat sz.bytes b)).signExtend 64
       else BitVec.ofNat 64 (bytesNat sz.bytes b))

/-- LD when a byte of the access is not held (R31, R120, R193): x[d], unless it is x0, is marked empty, a request for a line
of a missing byte is sent, and the strand goes on. -/
def Sys2Proof.Claims.LoadThatMisses : Prop :=
  ∀ (s : State) (t : Strand) (sz : LdSize) (d a : SReg) (I : BitVec 12) (e : Bool),
    Passes s t 0 e [.s a] [.s d] →
    let addr := s.sval t a + I.signExtend 64
    addr.toNat % sz.bytes = 0 → gvaOk s.cfg addr = true →
    (∃ i, i < sz.bytes ∧ (s.station s.curStation).heldByte (addr.toNat + i) = none) →
    Reaches (.ld sz d a I e) s fun u =>
      (∀ i, d = .x i → i ≠ 0 → (cellS u s.cur d).map (·.full) = some false) ∧
      (∃ n r, tblGet u.reqs n = some r ∧ r.kind = .fill false ∧ r.tag = t.tag ∧
        ∃ i, i < sz.bytes ∧ r.gva.toNat = (addr.toNat + i) / 64 * 64) ∧
      u.mem = s.mem ∧ WentOn u s.cur t

/-- ST (R121): the low n bytes of x[d] enter the store buffer of the station, where its later loads find them; every other
byte that the station holds dirty stays, and home memory does not change. -/
def Sys2Proof.Claims.StoreEntersBuffer : Prop :=
  ∀ (s : State) (t : Strand) (sz : Size) (d a : SReg) (I : BitVec 12) (e : Bool),
    Passes s t 0 e [.s a, .s d] [] →
    let addr := s.sval t a + I.signExtend 64
    addr.toNat % sz.bytes = 0 → gvaOk s.cfg addr = true →
    Reaches (.st sz d a I e) s fun u =>
      (∀ i, i < sz.bytes → (u.station s.curStation).dirtyByte (addr.toNat + i) = some (byteOf (s.sval t d) i)) ∧
      (∀ x, (x < addr.toNat ∨ addr.toNat + sz.bytes ≤ x) →
        (u.station s.curStation).dirtyByte x = (s.station s.curStation).dirtyByte x) ∧
      u.mem = s.mem ∧ WentOn u s.cur t

/-- The checks of a GVA access (R106, R120, R121): MISALIGN first, then GVARANGE; the instruction changes nothing else. -/
def Sys2Proof.Claims.LoadStoreAddressFaults : Prop :=
  ∀ (s : State) (t : Strand) (d a : SReg) (I : BitVec 12) (e : Bool),
    let addr := s.sval t a + I.signExtend 64
    (∀ sz : LdSize, Passes s t 0 e [.s a] [.s d] →
      (addr.toNat % sz.bytes ≠ 0 → exec (.ld sz d a I e) s = .next (s.faultAt 0x080 addr)) ∧
      (addr.toNat % sz.bytes = 0 → gvaOk s.cfg addr = false → exec (.ld sz d a I e) s = .next (s.faultAt 0x082 addr))) ∧
    (∀ sz : Size, Passes s t 0 e [.s a, .s d] [] →
      (addr.toNat % sz.bytes ≠ 0 → exec (.st sz d a I e) s = .next (s.faultAt 0x080 addr)) ∧
      (addr.toNat % sz.bytes = 0 → gvaOk s.cfg addr = false → exec (.st sz d a I e) s = .next (s.faultAt 0x082 addr)))

/-- LDL and STL (R124): within the plate and granted by the protection unit, LDL sign-extends the n plate bytes and STL writes
the low n bytes of x[d] and no other byte; beyond the plate, LDL reads 0, STL writes nothing, and the address is
recorded; a misaligned SLA is MISALIGN. Where the guest's cache holds a line of the bytes so that the access needs it, the line is
recalled and the strand waits (R213). -/
def Obligations.PlateLoadsAndStores : Prop :=
  ∀ (s : State) (t : Strand) (sz : Size) (d a : SReg) (I : BitVec 12) (e : Bool),
    let sla := (s.sval t a + I.signExtend 64).toNat % 2 ^ 32
    let st := s.curStation
    let inside := sla + sz.bytes ≤ s.plateSize st
    let byte (u : State) (x : Nat) : Byte := u.homeByte (.plate st x)
    (Passes s t 0 e [.s a] [.s d] →
      (sla % sz.bytes ≠ 0 → exec (.ldl sz d a I e) s = .next (s.faultAt 0x080 (BitVec.ofNat 64 sla))) ∧
      (sla % sz.bytes = 0 → ¬ inside →
        exec (.ldl sz d a I e) s = .next ((s.recordOor t.ctx (BitVec.ofNat 64 sla)).putS s.cur d 0).advance) ∧
      (sla % sz.bytes = 0 → inside → (s.station st).protOk t.protKind false sla sz.bytes = true →
        ∀ s', s.recall (.plate st sla) sz.bytes false = some s' → exec (.ldl sz d a I e) s = .next (s'.hold (.issue .plain))) ∧
      (sla % sz.bytes = 0 → inside → (s.station st).protOk t.protKind false sla sz.bytes = true →
        s.recall (.plate st sla) sz.bytes false = none → s.readPoison (.plate st sla) sz.bytes = none →
        Writes (.ldl sz d a I e) s d
          ((BitVec.ofNat (8 * sz.bytes) (bytesNat sz.bytes fun i => byte s (sla + i))).signExtend 64))) ∧
    (Passes s t 0 e [.s a, .s d] [] → Memory.wf s.mem = true →
      (sla % sz.bytes ≠ 0 → exec (.stl sz d a I e) s = .next (s.faultAt 0x080 (BitVec.ofNat 64 sla))) ∧
      (sla % sz.bytes = 0 → ¬ inside →
        exec (.stl sz d a I e) s = .next (s.recordOor t.ctx (BitVec.ofNat 64 sla)).advance) ∧
      (sla % sz.bytes = 0 → inside → (s.station st).protOk t.protKind true sla sz.bytes = true →
        ∀ s', s.recall (.plate st sla) sz.bytes = some s' → exec (.stl sz d a I e) s = .next (s'.hold (.issue .plain))) ∧
      (sla % sz.bytes = 0 → inside → (s.station st).protOk t.protKind true sla sz.bytes = true →
        s.recall (.plate st sla) sz.bytes = none → s.readPoison (.plate st sla) sz.bytes = none →
        Reaches (.stl sz d a I e) s fun u =>
          (∀ i, i < sz.bytes → byte u (sla + i) = byteOf (s.sval t d) i) ∧
          (∀ k, (k < 2 ^ 52 + st * 2 ^ 23 + sla ∨ 2 ^ 52 + st * 2 ^ 23 + sla + sz.bytes ≤ k) →
            memGet u.mem k = memGet s.mem k) ∧
          WentOn u s.cur t))

/-! ### The examination at issue, faults and user-level traps (R3, R32, R33, R123, R288, R302, R319 to R324, R399) -/

/-- A register operand that can be read and written at issue: full, not poisoned; a port is none. -/
def Sys2Proof.Claims.Usable (s : State) (t : Strand) : Opnd → Prop
  | .s r => (s.scell s.cur t r).full = true ∧ (s.scellNow s.cur t r).full = true ∧ (s.scell s.cur t r).poison = none
  | .v (.v i) => t.v[i].full = true ∧ t.v[i].poison = none
  | .v (.w i) => (s.vcell s.cur t (.w i)).full = true ∧ (s.vcellNow s.cur t (.w i)).full = true ∧
      (s.vcell s.cur t (.w i)).poison = none
  | .v (.q _) => False

/-- The examination at issue passes when every operand is a usable register, and no operand of a loose strand is a
register of a chord (R19, R31 to R33). -/
def Sys2Proof.Claims.UsableOperandsPass : Prop :=
  ∀ (s : State) (t : Strand) (src : Nat) (e : Bool) (srcs dsts : List Opnd),
    s.curStrand = some t → (t.loose = true → ∀ o ∈ srcs ++ dsts, o.shared = false) →
    (∀ o ∈ srcs ++ dsts, Usable s t o) → s.gate src e srcs dsts = none

/-- R32: of the sources, the first that is empty decides. With e = 1 it is the precise trap EMPTY, whose UCAUSE names the
register; with e = 0 the strand is held, and nothing else changes. Here that source is the scalar register r, and the
sources before it are usable registers. -/
def Sys2Proof.Claims.EmptySourceTrapsOrHolds : Prop :=
  ∀ (s : State) (t : Strand) (src : Nat) (pre post dsts : List Opnd) (r : SReg),
    s.curStrand = some t → (t.loose = true → ∀ o ∈ pre ++ .s r :: post ++ dsts, o.shared = false) → (∀ o ∈ pre, Usable s t o) → (s.scell s.cur t r).full = false →
    s.gate src true (pre ++ .s r :: post) dsts = some (s.trapPrecise (causeOf 10 src 0) 1 r.code) ∧
    s.gate src false (pre ++ .s r :: post) dsts = some (s.modCur fun t => { t with hold := .source 1 r.code })

/-- R123: a poisoned source or destination is the precise fault of the load that marked it; the record names the load's PC and
address. -/
def Sys2Proof.Claims.PoisonedOperandFaults : Prop :=
  ∀ (s : State) (t : Strand) (g : Grid) (e : Bool) (d a b : SReg) (p : Poison),
    s.curStrand = some t → (t.loose = true → ∀ r ∈ [d, a, b], Opnd.shared (.s r) = false) → s.gridOf t.grid = some g →
    g.st = .running → (s.scell s.cur t a).full = true → (s.scell s.cur t b).full = true → (s.scell s.cur t a).poison = some p →
    ((s.die s.curDie).mgmt.length < 256) →
    Reaches (.add d a b e) s fun u =>
      (u.gridOf t.grid).map (fun g => (g.st, g.cause, g.addr)) = some (.ending, p.code, p.addr) ∧
      ∃ r, (u.die s.curDie).mgmt = (s.die s.curDie).mgmt ++ [r] ∧ r.code = p.code ∧ r.pc = p.pc ∧ r.addr = p.addr

/-- A precise fault (R3, R288, R400): the first fault of a grid moves it to ENDING with the cause and the address, is recorded
once, and removes the grid's strands from their slots; a later fault of the same grid before it is FAULTED only counts in LATEFLT
(R401). -/
def Sys2Proof.Claims.PreciseFaultEndsGrid : Prop :=
  ∀ (s : State) (t : Strand) (g : Grid) (code : Cause) (addr : Word),
    s.curStrand = some t → s.gridOf t.grid = some g → (s.die s.curDie).mgmt.length < 256 →
    ((g.st ≠ .ending ∧ g.st ≠ .faulted) →
      let u := s.faultAt code addr
      (u.gridOf t.grid).map (fun g => (g.st, g.cause, g.addr)) = some (.ending, code, addr) ∧
      (∀ k v, u.slot k = some v → v.grid ≠ t.grid) ∧
      (∃ r, (u.die s.curDie).mgmt = (s.die s.curDie).mgmt ++ [r] ∧ r.code = code ∧ r.pc = t.pc ∧ r.addr = addr ∧
        r.slot = s.cur) ∧
      u.mem = s.mem) ∧
    (g.st = .ending → s.faultAt code addr = s.modDie s.curDie fun x => { x with lateflt := x.lateflt + 1 }) ∧
    (g.st = .faulted → s.faultAt code addr = s)

/-- R321: taking a precise user-level trap. UEPC is the instruction's address, UCAUSE holds KIND, REG and CODE, TMR and MSG move
to PTMR and PMSG and are cleared, a timer trap clears FIRED, INTRAP is set and the PC is UTVEC; only the strand changes. -/
def Sys2Proof.Claims.TrapEntry : Prop :=
  ∀ (s : State) (t : Strand) (code : Cause) (kind reg : Nat),
    s.curStrand = some t → kind < 4 → reg < 32 →
    (t.intrap = false → t.utvec ≠ 0 →
      let u := s.trapPrecise code kind reg
      (∃ v, u.curStrand = some v ∧
        v.uepc = t.pc ∧ v.ucause = BitVec.ofNat 64 (kind <<< 21 ||| reg <<< 16 ||| code.toNat) ∧
        v.umask = t.umask.extractLsb' 0 2 ++ 0#2 ∧ v.intrap = true ∧ v.pc = t.utvec ∧
        v.timer = (if code = 0x281 then { t.timer with fired := false } else t.timer) ∧
        { v with uepc := t.uepc, ucause := t.ucause, umask := t.umask, intrap := t.intrap, pc := t.pc,
                 timer := t.timer, hold := t.hold, rep := t.rep } = t) ∧
      { u with strands := s.strands } = s ∧ (∀ k, k ≠ s.cur → u.slot k = s.slot k)) ∧
    (t.intrap = false → t.utvec = 0 → s.trapPrecise code kind reg = s.fault code) ∧
    (t.intrap = true → s.trapPrecise code kind reg = s.faultCur 0x283 0 0 (code.setWidth 64))

/-- TRAPU raises the trap of its code (R399), and ILLEGAL_INSTRUCTION is the precise fault of an illegal word (R53). -/
def Sys2Proof.Claims.TrapuAndIllegal : Prop :=
  (∀ (s : State) (t : Strand) (n : BitVec 6) (e : Bool), s.curStrand = some t →
    exec (.trapu n e) s = .next (s.trapPrecise (n.setWidth 10) 0 0)) ∧
  (∀ (s : State) (c : Cause), exec (.illegalInstruction c) s = .next (s.faultCur c 3 0 0))

/-- URET (R324): TMR and MSG are restored from PTMR and PMSG, which keep their values, INTRAP is cleared and the PC is UEPC;
outside a handler it is the fault 0x047. -/
def Sys2Proof.Claims.TrapReturn : Prop :=
  ∀ (s : State) (t : Strand) (e : Bool), s.curStrand = some t →
    (t.intrap = false → exec (.uret e) s = .next (s.illegal 0 7)) ∧
    (t.intrap = true → Reaches (.uret e) s fun u => ∃ v, u.curStrand = some v ∧
      v.umask = t.umask.extractLsb' 2 2 ++ t.umask.extractLsb' 2 2 ∧ v.intrap = false ∧ v.pc = t.uepc ∧ v.hold = .none ∧
      { v with umask := t.umask, intrap := t.intrap, pc := t.pc, hold := t.hold, rep := t.rep } = t ∧ u.mem = s.mem)

/-- A strand at a boundary of its program, outside a handler and not frozen, with a handler installed. -/
def Sys2Proof.Claims.AtBoundary (t : Strand) : Prop :=
  t.intrap = false ∧ t.frozen = none ∧ t.hold = .none ∧ t.utvec ≠ 0

/-- R322: at a boundary, an engine's event is taken before the timer and the timer before the message; a timer trap needs FIRED
and TMR, a message trap MSG and a message in the mailbox. -/
def Sys2Proof.Claims.BoundaryTrapOrder : Prop :=
  ∀ (s : State) (t : Strand), s.curStrand = some t → AtBoundary t →
    (∀ v rest, t.events = v :: rest → Reaches .userTrapEntry s fun u =>
      u.curStrand = some { ({ t with events := rest } : Strand).enterTrap v.code 0 0 t.pc with pc := t.utvec }) ∧
    (t.events = [] → t.timer.fired = true → t.umask.getLsbD 1 = true → Reaches .userTrapEntry s fun u =>
      ∃ v, u.curStrand = some v ∧ v.pc = t.utvec ∧ v.uepc = t.pc ∧ v.ucause = 0x281 ∧ v.timer.fired = false ∧ v.intrap = true) ∧
    (t.events = [] → (t.timer.fired = false ∨ t.umask.getLsbD 1 = false) → t.umask.getLsbD 0 = true →
      (s.station s.curStation).mailbox ≠ [] → (s.station s.curStation).msgTrap = false → s.messageBelow s.cur = false →
      Reaches .userTrapEntry s fun u =>
        ∃ v, u.curStrand = some v ∧ v.pc = t.utvec ∧ v.uepc = t.pc ∧ v.ucause = 0x282 ∧ v.intrap = true) ∧
    (t.events = [] → t.timer.fired = false → t.umask.getLsbD 0 = false → exec .userTrapEntry s = .next s)

/-- SVC (R375) with fewer than 64 requests waiting in the die's queue: x[d] is marked empty, the request names the caller and its argument, and the
strand goes on. SRET (R376): a ticket that is outstanding writes the caller's register full; any other is ignored. -/
def Sys2Proof.Claims.ServiceRequestAndReturn : Prop :=
  (∀ (s : State) (t : Strand) (i : Fin 16) (a : SReg) (n : BitVec 10) (e : Bool), i ≠ 0 →
    Passes s t 0 e [.s a] [.s (.x i)] →
    s.svcWaiting s.curDie < 64 →
    s.fwPass t.who 3 s.curDie (fun _ => s.svcHome s.curDie) = true →
    Reaches (.svc (.x i) a n e) s fun u =>
      (cellS u s.cur (.x i)).map (·.full) = some false ∧
      (∃ q, (u.die s.curDie).svcq = (s.die s.curDie).svcq ++ [q] ∧ q.n = n ∧ q.arg = s.sval t a ∧ q.ctx = t.ctx ∧
        q.world = t.world ∧ q.station = s.curStation ∧ q.res = s.nextId) ∧
      WentOn u s.cur t) ∧
  (∀ (s : State) (t : Strand) (d a : SReg) (e : Bool), t.priv = true → Passes s t 0 e [.s a, .s d] [] →
    (∀ i : Nat, i < 4 → ∀ q ∈ (s.die i).svcq, q.ticket ≠ s.sval t a) →
    exec (.sret d a e) s = .next s.advance) ∧
  (∀ (s : State) (t : Strand) (d a : SReg) (e : Bool) (i : Nat) (q : SvcReq) (r : PRes) (j : Fin 16) (k : Nat) (c : Strand),
    t.priv = true → Passes s t 0 e [.s a, .s d] [] → i < 4 →
    (s.die i).svcq = [q] → (∀ j : Nat, j < i → (s.die j).svcq = []) → q.ticket = s.sval t a →
    tblGet s.results q.res = some r → r.dst = .s (.x j) → r.nbytes = 8 → r.poison = none → j ≠ 0 →
    s.slotOfTag r.tag = some k → s.slot k = some c → c.tag = r.tag →
    Reaches (.sret d a e) s fun u =>
      cellS u k (.x j) = some { val := s.sval t d } ∧ (u.die i).svcq = [])

/-- RESULT_ARRIVE (R31): a result that is ready is written to its register, which becomes full, and is outstanding no longer. -/
def Sys2Proof.Claims.ResultArrivalFillsRegister : Prop :=
  ∀ (s : State) (n k : Nat) (r : PRes) (c : Strand) (i : Fin 16),
    tblGet s.results n = some r → r.ready = true → r.poison = none → s.svcOf n = none →
    s.slotOfTag r.tag = some k → s.slot k = some c → c.tag = r.tag → i ≠ 0 →
    (r.dst = .s (.x i) → r.nbytes = 8 →
      Reaches (.resultArrive n) s fun u =>
        cellS u k (.x i) = some { val := r.value.setWidth 64 } ∧ tblGet u.results n = none ∧ u.mem = s.mem) ∧
    (r.dst = .v (.v i) →
      Reaches (.resultArrive n) s fun u =>
        (u.slot k).map (fun t => t.v[i]) = some { val := r.value, xr := r.xr } ∧ tblGet u.results n = none ∧ u.mem = s.mem)

/-! ### Vector instructions: the elements (R28, R79, R127 to R135, R153) -/

/-- The state after a vector instruction has read its sources (`s'`) and completes with the result v and the flags fl: a port
receives one word; a register is written at once, or marked empty for a result that arrives later when a source was a
port (R31, R130, R131); MSTICKY takes the flags, SEED advances after stochastic rounding, and the strand goes on. -/
def Sys2Proof.Claims.vecNext (s' : State) (t : Strand) (viaPort sr : Bool) (vd : VReg) (v : VWord) (fl : FlagSet) : State :=
  ((s'.finishV t viaPort vd v t.xr).modCur fun u =>
    { u with msticky := u.msticky ||| fl, seed := if sr then u.seed + 1 else u.seed }).advance

/-- An element-wise instruction completes (R128): element i of the result is `r i` where it is active, and the old element
where it is not; the flags are those of the active elements. `s'` is the state after the sources are read. -/
def Sys2Proof.Claims.Elementwise (i : Instr) (s s' : State) (t : Strand) (viaPort sr : Bool) (sz : Nat) (vd : VReg) (pg : PReg)
    (r : Nat → Nat × FlagSet) : Prop :=
  ∃ v F, exec i s = .next (vecNext s' t viaPort sr vd v F) ∧
    (∀ j, j < 256 / sz → elem sz v j =
      if active sz (t.pred pg) j = true then (r j).1 % 2 ^ (8 * sz) else elem sz (s'.oldV t vd) j) ∧
    (∀ b : Nat, F.getLsbD b = true ↔ ∃ j, j < 256 / sz ∧ active sz (t.pred pg) j = true ∧ (r j).2.getLsbD b = true)

/-- An element read signed. -/
def Sys2Proof.Claims.signedElem (sz x : Nat) : Int := (BitVec.ofNat (8 * sz) x).toInt

/-- SatT (R79, R93): to −127 … 127 for INT8, else to the type's range; SAT when the value changed. -/
def Sys2Proof.Claims.satElem (sz : Nat) (x : Int) : Nat × FlagSet :=
  let hi : Int := 2 ^ (8 * sz - 1) - 1
  let lo : Int := if sz = 1 then -127 else -(2 ^ (8 * sz - 1))
  let y := max lo (min hi x)
  ((BitVec.ofInt (8 * sz) y).toNat, if y = x then 0 else 32)

/-- R133's table: the three forms of each two-source instruction, with its element result from a and b. -/
def Sys2Proof.Claims.intTable (sz : Nat) :
    List ((ITy → VReg → VReg → VReg → PReg → Bool → Instr) × (ITy → VReg → VReg → SReg → PReg → Bool → Instr) ×
      (ITy → VReg → VReg → BitVec 5 → PReg → Bool → Instr) × (Nat → Nat → Nat × FlagSet)) :=
  let S := signedElem sz
  let h (b : Nat) : Nat := b % (8 * sz)
  let pat (x : Int) : Nat := (BitVec.ofInt (8 * sz) x).toNat
  [(.vadd, .vaddVs, .vaddVi, fun a b => satElem sz (S a + S b)),
   (.vsub, .vsubVs, .vsubVi, fun a b => satElem sz (S a - S b)),
   (.vmul, .vmulVs, .vmulVi, fun a b => satElem sz (S a * S b)),
   (.vmulh, .vmulhVs, .vmulhVi, fun a b => (pat (S a * S b / 2 ^ (8 * sz)), 0)),
   (.vmin, .vminVs, .vminVi, fun a b => (if S b < S a then b else a, 0)),
   (.vmax, .vmaxVs, .vmaxVi, fun a b => (if S a < S b then b else a, 0)),
   (.vand, .vandVs, .vandVi, fun a b => (a &&& b, 0)),
   (.vor, .vorVs, .vorVi, fun a b => (a ||| b, 0)),
   (.vxor, .vxorVs, .vxorVi, fun a b => (a ^^^ b, 0)),
   (.vsll, .vsllVs, .vsllVi, fun a b => (a * 2 ^ h b, 0)),
   (.vsrl, .vsrlVs, .vsrlVi, fun a b => (a / 2 ^ h b, 0)),
   (.vsra, .vsraVs, .vsraVi, fun a b => (pat (S a / 2 ^ h b), 0))]

/-- R133: the vector, scalar and immediate forms of the two-source integer instructions, element by element. The immediate
operand is the exact integer (R100). -/
def Sys2Proof.Claims.VectorIntegerResults : Prop :=
  ∀ (s : State) (t : Strand) (ty : ITy) (vd va : VReg) (pg : PReg) (e : Bool),
    ∀ x ∈ intTable ty.size,
    let A := (s.takeV va).1.val
    let s1 := (s.takeV va).2
    (∀ vb, Passes s t 1 e [.v va, .v vb] [.v vd] →
      let B := (s1.takeV vb).1.val
      Elementwise (x.1 ty vd va vb pg e) s (s1.takeV vb).2 t (va.isQ || vb.isQ) false ty.size vd pg
        fun j => x.2.2.2 (elem ty.size A j) (elem ty.size B j)) ∧
    (∀ b, Passes s t 1 e [.v va, .s b] [.v vd] →
      Elementwise (x.2.1 ty vd va b pg e) s s1 t va.isQ false ty.size vd pg
        fun j => x.2.2.2 (elem ty.size A j) ((s1.sval t b).toNat % 2 ^ (8 * ty.size))) ∧
    (∀ n : BitVec 5, Passes s t 1 e [.v va] [.v vd] →
      Elementwise (x.2.2.1 ty vd va n pg e) s s1 t va.isQ false ty.size vd pg
        fun j => x.2.2.2 (elem ty.size A j) (BitVec.ofInt (8 * ty.size) n.toInt).toNat)

/-- R133: VMAD reads the old vd as its third source and saturates once; VABS and VNEG read va alone. -/
def Sys2Proof.Claims.VectorMadAbsNegResults : Prop :=
  ∀ (s : State) (t : Strand) (ty : ITy) (vd va : VReg) (pg : PReg) (e : Bool),
    let sz := ty.size
    let S := signedElem sz
    let A := (s.takeV va).1.val
    let s1 := (s.takeV va).2
    (∀ vb, Passes s t 1 e [.v va, .v vb, .v vd] [.v vd] →
      let s2 := (s1.takeV vb).2
      Elementwise (.vmad ty vd va vb pg e) s (s2.takeV vd).2 t (va.isQ || vb.isQ || vd.isQ) false sz vd pg
        fun j => satElem sz (S (elem sz (s2.takeV vd).1.val j) + S (elem sz A j) * S (elem sz (s1.takeV vb).1.val j))) ∧
    (∀ b, Passes s t 1 e [.v va, .s b, .v vd] [.v vd] →
      Elementwise (.vmadVs ty vd va b pg e) s (s1.takeV vd).2 t (va.isQ || vd.isQ) false sz vd pg
        fun j => satElem sz (S (elem sz (s1.takeV vd).1.val j) + S (elem sz A j) * S ((s1.sval t b).toNat % 2 ^ (8 * sz)))) ∧
    (∀ n : BitVec 5, Passes s t 1 e [.v va, .v vd] [.v vd] →
      Elementwise (.vmadVi ty vd va n pg e) s (s1.takeV vd).2 t (va.isQ || vd.isQ) false sz vd pg
        fun j => satElem sz (S (elem sz (s1.takeV vd).1.val j) + S (elem sz A j) * n.toInt)) ∧
    (Passes s t 1 e [.v va] [.v vd] →
      Elementwise (.vabs ty vd va pg e) s s1 t va.isQ false sz vd pg (fun j => satElem sz (S (elem sz A j)).natAbs) ∧
      Elementwise (.vneg ty vd va pg e) s s1 t va.isQ false sz vd pg (fun j => satElem sz (-S (elem sz A j))))

/-- How element j of a floating instruction rounds (R84, R134): stochastically at BF16 under MODE.SR, with the hash of SEED and
G · 1024 + j; else by MODE.RM. -/
def Sys2Proof.Claims.fpRound (t : Strand) (ty : FTy) (j : Nat) : Rnd :=
  if ty = .bf16 ∧ t.sr = true then .sr ((hash64 t.seed (t.global * 1024 + j)).toNat / 2 ^ 48) else .m t.rm

/-- R134's rounding instructions in their vector and scalar forms. -/
def Sys2Proof.Claims.fpTable :
    List ((FTy → VReg → VReg → VReg → PReg → Bool → Instr) × (FTy → VReg → VReg → SReg → PReg → Bool → Instr) ×
      (Nat → Rnd → Nat → Nat → Nat × FlagSet)) :=
  [(.fadd, .faddVs, faddP), (.fsub, .fsubVs, fsubP), (.fmul, .fmulVs, fmulP)]

/-- R134: the floating instructions, element by element, with the arithmetic of R80 to R84. FMIN and FMAX, FABS and FNEG set no
flag and do not advance SEED. -/
def Obligations.VectorFloatResults : Prop :=
  ∀ (s : State) (t : Strand) (ty : FTy) (vd va : VReg) (pg : PReg) (e : Bool),
    let sz := ty.size
    let f := fracBits ty
    let sr := t.sr && ty == .bf16
    let A := (s.takeV va).1.val
    let s1 := (s.takeV va).2
    (∀ x ∈ fpTable,
      (∀ vb, Passes s t 1 e [.v va, .v vb] [.v vd] →
        Elementwise (x.1 ty vd va vb pg e) s (s1.takeV vb).2 t (va.isQ || vb.isQ) sr sz vd pg
          fun j => x.2.2 f (fpRound t ty j) (elem sz A j) (elem sz (s1.takeV vb).1.val j)) ∧
      (∀ b, Passes s t 1 e [.v va, .s b] [.v vd] →
        Elementwise (x.2.1 ty vd va b pg e) s s1 t va.isQ sr sz vd pg
          fun j => x.2.2 f (fpRound t ty j) (elem sz A j) ((s1.sval t b).toNat % 2 ^ (8 * sz)))) ∧
    (∀ vb, Passes s t 1 e [.v va, .v vb, .v vd] [.v vd] →
      let s2 := (s1.takeV vb).2
      Elementwise (.fma ty vd va vb pg e) s (s2.takeV vd).2 t (va.isQ || vb.isQ || vd.isQ) sr sz vd pg
        fun j => fmaP f (fpRound t ty j) (elem sz A j) (elem sz (s1.takeV vb).1.val j) (elem sz (s2.takeV vd).1.val j)) ∧
    (∀ b, Passes s t 1 e [.v va, .s b, .v vd] [.v vd] →
      Elementwise (.fmaVs ty vd va b pg e) s (s1.takeV vd).2 t (va.isQ || vd.isQ) sr sz vd pg
        fun j => fmaP f (fpRound t ty j) (elem sz A j) ((s1.sval t b).toNat % 2 ^ (8 * sz)) (elem sz (s1.takeV vd).1.val j)) ∧
    (∀ vb, Passes s t 1 e [.v va, .v vb] [.v vd] →
      let b (j : Nat) : Nat := elem sz (s1.takeV vb).1.val j
      Elementwise (.fmin ty vd va vb pg e) s (s1.takeV vb).2 t (va.isQ || vb.isQ) false sz vd pg
        (fun j => (fminP f (elem sz A j) (b j), 0)) ∧
      Elementwise (.fmax ty vd va vb pg e) s (s1.takeV vb).2 t (va.isQ || vb.isQ) false sz vd pg
        (fun j => (fmaxP f (elem sz A j) (b j), 0))) ∧
    (∀ b, Passes s t 1 e [.v va, .s b] [.v vd] →
      let B := (s1.sval t b).toNat % 2 ^ (8 * sz)
      Elementwise (.fminVs ty vd va b pg e) s s1 t va.isQ false sz vd pg (fun j => (fminP f (elem sz A j) B, 0)) ∧
      Elementwise (.fmaxVs ty vd va b pg e) s s1 t va.isQ false sz vd pg (fun j => (fmaxP f (elem sz A j) B, 0))) ∧
    (Passes s t 1 e [.v va] [.v vd] →
      Elementwise (.fabs ty vd va pg e) s s1 t va.isQ false sz vd pg (fun j => (fabsP f (elem sz A j), 0)) ∧
      Elementwise (.fneg ty vd va pg e) s s1 t va.isQ false sz vd pg (fun j => (fnegP f (elem sz A j), 0)))

/-- R82: rounding the exact value (−1)^neg · mag · 2^−n to an integer. RTZ drops the fraction, RDN is the floor, RUP the ceiling,
and RNE is nearest, a tie going to the even integer; "lost" says whether the value was no integer. -/
def Sys2Proof.Claims.RoundingModesOfIntegers : Prop :=
  ∀ (neg : Bool) (mag n : Nat),
    let x : Int := if neg then -(mag : Int) else mag
    let d : Int := 2 ^ n
    (∀ rm, (roundInt rm neg mag (-(n : Int))).2 = true ↔ x % d ≠ 0) ∧
    (roundInt .rdn neg mag (-(n : Int))).1 = x / d ∧
    (roundInt .rup neg mag (-(n : Int))).1 = -(-x / d) ∧
    (roundInt .rtz neg mag (-(n : Int))).1 = x.tdiv d ∧
    (let r := (roundInt .rne neg mag (-(n : Int))).1
     (2 * (r * d - x)).natAbs ≤ d.natAbs ∧ ((2 * (r * d - x)).natAbs = d.natAbs → r % 2 = 0))

/-- A comparison completes (R135): every bit of element j of pd is 1 when the element is active and `r j` holds, and 0
otherwise; the flags are those of the active elements. -/
def Sys2Proof.Claims.Compares (i : Instr) (s s' : State) (t : Strand) (sz : Nat) (pd pg : PReg) (r : Nat → Bool × FlagSet) : Prop :=
  ∃ P F, exec i s = .next (s'.modCur fun u => (u.setPred pd P).raise F).advance ∧
    (∀ b, b < 256 → P.getLsbD b = (active sz (t.pred pg) (b / sz) && (r (b / sz)).1)) ∧
    (∀ b : Nat, F.getLsbD b = true ↔ ∃ j, j < 256 / sz ∧ active sz (t.pred pg) j = true ∧ (r j).2.getLsbD b = true)

/-- VCMP and FCMP (R135). The order of floating numbers is by sign and magnitude, with −0 equal to +0; a comparison with a NaN
is false, but for FCMP.ne and FCMP.un; NV is set by any NaN for .lt and .le, by a signalling NaN for the others. -/
def Sys2Proof.Claims.VectorCompareResults : Prop :=
  ∀ (s : State) (t : Strand) (pd : PReg) (va vb : VReg) (pg : PReg) (e : Bool), Passes s t 1 e [.v va, .v vb] [] →
    let A := (s.takeV va).1.val
    let s1 := (s.takeV va).2
    let B := (s1.takeV vb).1.val
    let s2 := (s1.takeV vb).2
    (∀ ty : ITy,
      let sz := ty.size
      let C (i : Instr) (r : Nat → Nat → Bool) : Prop :=
        Compares i s s2 t sz pd pg fun j => (r (elem sz A j) (elem sz B j), 0)
      C (.vcmpEq ty pd va vb pg e) (fun a b => decide (a = b)) ∧
      C (.vcmpNe ty pd va vb pg e) (fun a b => decide (a ≠ b)) ∧
      C (.vcmpLt ty pd va vb pg e) (fun a b => decide (signedElem sz a < signedElem sz b)) ∧
      C (.vcmpLe ty pd va vb pg e) (fun a b => decide (signedElem sz a ≤ signedElem sz b)) ∧
      C (.vcmpLtu ty pd va vb pg e) (fun a b => decide (a < b)) ∧
      C (.vcmpLeu ty pd va vb pg e) (fun a b => decide (a ≤ b))) ∧
    (∀ ty : FTy,
      let sz := ty.size
      let f := fracBits ty
      let num (p : Nat) : Int := if p / 2 ^ (f + 8) % 2 = 1 then -((p % 2 ^ (f + 8) : Nat) : Int) else (p % 2 ^ (f + 8) : Nat)
      let un (a b : Nat) : Bool := isNaN f a || isNaN f b
      let q (a b : Nat) : FlagSet := if isSNaN f a || isSNaN f b then 1 else 0
      let C (i : Instr) (r : Nat → Nat → Bool × FlagSet) : Prop :=
        Compares i s s2 t sz pd pg fun j => r (elem sz A j) (elem sz B j)
      C (.fcmpEq ty pd va vb pg e) (fun a b => (!un a b && decide (num a = num b), q a b)) ∧
      C (.fcmpNe ty pd va vb pg e) (fun a b => (un a b || decide (num a ≠ num b), q a b)) ∧
      C (.fcmpLt ty pd va vb pg e) (fun a b => (!un a b && decide (num a < num b), if un a b then 1 else 0)) ∧
      C (.fcmpLe ty pd va vb pg e) (fun a b => (!un a b && decide (num a ≤ num b), if un a b then 1 else 0)) ∧
      C (.fcmpUn ty pd va vb pg e) (fun a b => (un a b, q a b)))

/-! ### Vector movement, predicates and vector memory (R130, R136 to R141, R154, R155) -/

/-- R138: VSEL writes every element, VMOV keeps the XR tag of a word that it takes from a port (R130), VBCAST, VPERM, VZIP,
VUZP and the slides write the active elements, VEXT writes x[d], and VBCASTH writes its constant to every element. -/
def Sys2Proof.Claims.VectorMoveResults : Prop :=
  ∀ (s : State) (t : Strand) (ty : ETy) (vd va : VReg) (pg : PReg) (e : Bool),
    let sz := ty.size
    let N := 256 / sz
    let A := (s.takeV va).1
    let s1 := (s.takeV va).2
    (∀ vb, Passes s t 1 e [.v va, .v vb] [.v vd] →
      let B := (s1.takeV vb).1.val
      let s2 := (s1.takeV vb).2
      let E (i : Instr) (r : Nat → Nat) : Prop :=
        Elementwise i s s2 t (va.isQ || vb.isQ) false sz vd pg fun j => (r j, 0)
      (∃ v, exec (.vsel ty vd va vb pg e) s = .next (vecNext s2 t (va.isQ || vb.isQ) false vd v 0) ∧
        ∀ j, j < N → elem sz v j = if active sz (t.pred pg) j then elem sz A.val j else elem sz B j) ∧
      E (.vzip ty vd va vb pg e) (fun j => if j % 2 = 0 then elem sz A.val (j / 2) else elem sz B (j / 2)) ∧
      E (.vuzp ty vd va vb pg e) (fun j => if j < N / 2 then elem sz A.val (2 * j) else elem sz B (2 * j - N))) ∧
    (∀ (ity : ITy) vb, Passes s t 1 e [.v va, .v vb] [.v vd] →
      let B := (s1.takeV vb).1.val
      Elementwise (.vperm ity vd va vb pg e) s (s1.takeV vb).2 t (va.isQ || vb.isQ) false ity.size vd pg fun j =>
        (if elem ity.size B j < 256 / ity.size then elem ity.size A.val (elem ity.size B j) else 0, 0)) ∧
    (Passes s t 1 e [.v va] [.v vd] →
      ∃ v, exec (.vmov ty vd va pg e) s =
          .next (s1.finishV t va.isQ vd v (if va.isQ && !vd.isQ then A.xr else t.xr)).advance ∧
        ∀ j, j < N → elem sz v j = if active sz (t.pred pg) j then elem sz A.val j else elem sz (s1.oldV t vd) j) ∧
    (∀ b, Passes s t 1 e [.v va, .s b] [.v vd] →
      let n := (s.sval t b).toNat
      Elementwise (.vslideUp ty vd va b pg e) s s1 t va.isQ false sz vd pg
        (fun j => (if n ≤ j then elem sz A.val (j - n) else 0, 0)) ∧
      Elementwise (.vslideDn ty vd va b pg e) s s1 t va.isQ false sz vd pg
        (fun j => (if j + n < N then elem sz A.val (j + n) else 0, 0))) ∧
    (∀ a, Passes s t 1 e [.s a] [.v vd] →
      Elementwise (.vbcast ty vd a pg e) s s t false false sz vd pg fun _ => ((s.sval t a).toNat % 2 ^ (8 * sz), 0)) ∧
    (∀ d b, Passes s t 1 e [.v va, .s b] [.s d] →
      let i := (s.sval t b).toNat
      let x := if i < N then elem sz A.val i else 0
      exec (.vext ty d va b e) s = .next (s1.finishS t va.isQ d
        (if ty = .bf16 ∨ ty = .f32 then BitVec.ofNat 64 x else BitVec.ofInt 64 (signedElem sz x))).advance) ∧
    (∀ c : BitVec 16, Passes s t 1 e [] [.v vd] →
      let nan := c.toNat / 128 % 256 = 255 ∧ c.toNat % 128 ≠ 0
      let q := if nan ∧ c.toNat / 64 % 2 = 0 then c.toNat + 64 else c.toNat
      (∃ v, exec (.vbcasthBf16 vd c e) s = .next (vecNext s t false false vd v 0) ∧ ∀ j, j < 128 → elem 2 v j = q) ∧
      (∃ v, exec (.vbcasthF32 vd c e) s = .next (vecNext s t false false vd v 0) ∧ ∀ j, j < 64 → elem 4 v j = q * 65536))

/-- A predicate instruction writes pd, of which bit b is `r b`, and goes on. -/
def Sys2Proof.Claims.SetsPred (i : Instr) (s : State) (pd : PReg) (r : Nat → Prop) : Prop :=
  ∃ P : PWord, exec i s = .next (s.modCur fun u => u.setPred pd P).advance ∧ ∀ b, b < 256 → (P.getLsbD b = true ↔ r b)

/-- R136 and R137: VWHILE compares As + i with Bs exactly, over all bits of each element; PAND, POR, PXOR and PNOT work bit by
bit under pg; PFIRST keeps the lowest element active in pa and pg; PCNT counts them; VWIDTH gives the element count. -/
def Sys2Proof.Claims.PredicateResults : Prop :=
  ∀ (s : State) (t : Strand) (ty : ETy) (pd pa pb pg : PReg) (d : SReg) (e : Bool),
    let sz := ty.size
    let both (i : Nat) : Prop := active sz (t.pred pa) i = true ∧ active sz (t.pred pg) i = true
    (∀ a b, Passes s t 1 e [.s a, .s b] [] →
      SetsPred (.vwhile ty pd a b e) s pd fun x => (s.sval t a).toInt + (x / sz : Nat) < (s.sval t b).toInt) ∧
    (s.curStrand = some t →
      let P (x : Nat) : Prop := (t.pred pa).getLsbD x = true
      let Q (x : Nat) : Prop := (t.pred pb).getLsbD x = true
      let G (x : Nat) : Prop := (t.pred pg).getLsbD x = true
      SetsPred (.pand pd pa pb pg e) s pd (fun x => (P x ∧ Q x) ∧ G x) ∧
      SetsPred (.por pd pa pb pg e) s pd (fun x => (P x ∨ Q x) ∧ G x) ∧
      SetsPred (.pxor pd pa pb pg e) s pd (fun x => ¬ (P x ↔ Q x) ∧ G x) ∧
      SetsPred (.pnot pd pa pg e) s pd (fun x => ¬ P x ∧ G x) ∧
      SetsPred (.pfirst ty pd pa pg e) s pd (fun x => both (x / sz) ∧ ∀ i, i < x / sz → ¬ both i)) ∧
    (Passes s t 1 e [] [.s d] →
      Writes (.vwidth ty d e) s d (BitVec.ofNat 64 (256 / sz)) ∧
      Writes (.pcnt ty d pa pg e) s d
        (BitVec.ofNat 64 ((List.range (256 / sz)).countP fun i => active sz (t.pred pa) i && active sz (t.pred pg) i)))

/-- VREP (R154): with all words of the body fetched and each of a vector major, the body is repeated As times from its first
word on, or skipped when As is 0; any other word makes it the illegal instruction BADVREP at the VREP, whatever x[a] holds (R53).
A loose strand's VREP that names a y register is BADOPND (R49, R54), and a fetch that stops stops it. -/
def Sys2Proof.Claims.RepetitionBegins : Prop :=
  ∀ (s s1 : State) (t : Strand) (a : SReg) (l : BitVec 4) (e : Bool) (ws : List (BitVec 32)), s.curStrand = some t →
    ((t.loose = true ∧ ∃ i, a = .y i) → exec (.vrep a l e) s = .next (s.illegal 1 4)) ∧
    (¬ (t.loose = true ∧ ∃ i, a = .y i) →
      s.fetchBody t (t.pc + 4) (l.toNat + 1) = .stop s1 → exec (.vrep a l e) s = .next s1) ∧
    (¬ (t.loose = true ∧ ∃ i, a = .y i) → s.fetchBody t (t.pc + 4) (l.toNat + 1) = .words ws s1 →
    let c := (s1.sval t a).toNat
    let mayStand (w : BitVec 32) : Prop :=
      0x20 ≤ w.toNat / 2 ^ 26 ∧ w.toNat / 2 ^ 26 ≤ 0x2A ∧ ¬ (w.toNat / 2 ^ 26 = 0x27 ∧ w.toNat % 16 = 2)
    ((∀ w ∈ ws, mayStand w) → Passes s1 t 1 e [.s a] [] → c ≠ 0 →
      exec (.vrep a l e) s = .next (s1.modCur fun u =>
        { u with pc := t.pc + 4, hold := .none, rep := some { left := c, body := t.pc + 4, words := ws, idx := 0 } })) ∧
    ((∀ w ∈ ws, mayStand w) → Passes s1 t 1 e [.s a] [] → c = 0 →
      exec (.vrep a l e) s = .next (s1.modCur fun u =>
        { u with pc := t.pc + 4 + BitVec.ofNat 64 (4 * (l.toNat + 1)), hold := .none, rep := none })) ∧
    ((∃ w ∈ ws, ¬ mayStand w) → exec (.vrep a l e) s = .next (s1.illegal 1 7)))

/-- The address of element j of a vector access by global address: contiguous from x[a] + x[b] (R139), or x[a] plus the signed
element of vb (R141). -/
def Sys2Proof.Claims.seqA (base : Word) (sz j : Nat) : Nat := (base + BitVec.ofNat 64 (sz * j)).toNat
def Sys2Proof.Claims.offA (base : Word) (sz : Nat) (vb : VWord) (j : Nat) : Nat :=
  (base + BitVec.ofInt 64 (signedElem sz (elem sz vb j))).toNat

/-- Every active element's address is aligned and in range. -/
def Sys2Proof.Claims.AddrsOk (s : State) (sz : Nat) (p : PWord) (addr : Nat → Nat) : Prop :=
  ∀ j, j < 256 / sz → active sz p j = true → addr j % sz = 0 ∧ gvaOk s.cfg (BitVec.ofNat 64 (addr j)) = true

/-- VLD and VGATH (R139, R141): when the station holds every byte of the active elements, the active elements of the vector
register get their bytes and the others keep theirs; VLD writes the register at once, VGATH marks it empty for a
result that is ready. -/
def Sys2Proof.Claims.VectorLoadsOfHeldBytes : Prop :=
  ∀ (s : State) (t : Strand) (ty : ETy) (i : Fin 16) (a : SReg) (pg : PReg) (e : Bool) (m : Nat → Byte),
    let sz := ty.size
    let held (addr : Nat → Nat) : Prop := AddrsOk s sz (t.pred pg) addr ∧
      ∀ j x, j < 256 / sz → active sz (t.pred pg) j = true → x < sz →
        (s.station s.curStation).heldByte (addr j + x) = some { val := m (addr j + x) }
    let loaded (addr : Nat → Nat) (v : VWord) : Prop := ∀ j, j < 256 / sz → elem sz v j =
      if active sz (t.pred pg) j = true then bytesNat sz (fun x => m (addr j + x)) else elem sz (s.oldV t (.v i)) j
    (∀ b, let addr := seqA (s.sval t a + s.sval t b) sz
      Passes s t 1 e [.s a, .s b] [.v (.v i)] → held addr →
      ∃ v, exec (.vld ty (.v i) a b pg e) s = .next (s.putV s.cur (.v i) v t.xr).advance ∧ loaded addr v) ∧
    (∀ vb, let addr := offA (s.sval t a) sz (s.oldV t vb)
      Passes s t 1 e [.s a, .v vb] [.v (.v i)] → held addr →
      Reaches (.vgath ty (.v i) a vb pg e) s fun u =>
        ∃ r, tblGet u.results s.nextId = some r ∧ r.dst = .v (.v i) ∧ r.ready = true ∧ loaded addr r.value)

/-- VLD and VGATH of bytes of which the station lacks one (R31, R139, R141, R193): the vector register is marked empty, a result that
is not ready waits for the missing bytes of the active elements and keeps the inactive elements, a request for the line of each
missing byte is sent, and the strand goes on; memory does not change. -/
def Sys2Proof.Claims.VectorLoadsThatMiss : Prop :=
  ∀ (s : State) (t : Strand) (ty : ETy) (i : Fin 16) (a : SReg) (pg : PReg) (e : Bool),
    let sz := ty.size
    let on (j : Nat) : Prop := j < 256 / sz ∧ active sz (t.pred pg) j = true
    let lacks (addr : Nat → Nat) (j x : Nat) : Prop :=
      on j ∧ x < sz ∧ (s.station s.curStation).heldByte (addr j + x) = none
    let sent (addr : Nat → Nat) (u : State) : Prop :=
      (u.slot s.cur).map (fun v => v.v[i].full) = some false ∧
      (∃ r, tblGet u.results s.nextId = some r ∧ r.dst = .v (.v i) ∧ r.tag = t.tag ∧ r.ready = false ∧
        (∀ j x, lacks addr j x → (sz * j + x, addr j + x) ∈ r.pend) ∧
        (∀ j, j < 256 / sz → active sz (t.pred pg) j = false → elem sz r.value j = elem sz (s.oldV t (.v i)) j)) ∧
      (∀ j x, lacks addr j x → ∃ n q, tblGet u.reqs n = some q ∧ q.kind = .fill false ∧ q.res = some s.nextId ∧
        q.gva.toNat = (addr j + x) / 64 * 64) ∧
      u.mem = s.mem ∧ WentOn u s.cur t
    (∀ b, let addr := seqA (s.sval t a + s.sval t b) sz
      Passes s t 1 e [.s a, .s b] [.v (.v i)] → AddrsOk s sz (t.pred pg) addr → (∃ j x, lacks addr j x) →
      Reaches (.vld ty (.v i) a b pg e) s (sent addr)) ∧
    (∀ vb, let addr := offA (s.sval t a) sz (s.oldV t vb)
      Passes s t 1 e [.s a, .v vb] [.v (.v i)] → AddrsOk s sz (t.pred pg) addr → (∃ j x, lacks addr j x) →
      Reaches (.vgath ty (.v i) a vb pg e) s (sent addr))

/-- VST and VSCAT (R139, R141): the bytes of the active elements enter the store buffer, in element order, where the station's
later loads find them; every other byte that it holds dirty stays, and home memory does not change. -/
def Sys2Proof.Claims.VectorStoresEnterBuffer : Prop :=
  ∀ (s : State) (t : Strand) (ty : ETy) (vd : VReg) (a : SReg) (pg : PReg) (e : Bool),
    let sz := ty.size
    let on (j : Nat) : Prop := j < 256 / sz ∧ active sz (t.pred pg) j = true
    let stored (addr : Nat → Nat) (u : State) : Prop :=
      (∀ j x, on j → (∀ j', on j' → j < j' → addr j' ≠ addr j) → x < sz →
        ((u.station s.curStation).dirtyByte (addr j + x)).map BitVec.toNat =
          some (elem sz (s.oldV t vd) j / 2 ^ (8 * x) % 256)) ∧
      (∀ x, (∀ j, on j → x < addr j ∨ addr j + sz ≤ x) →
        (u.station s.curStation).dirtyByte x = (s.station s.curStation).dirtyByte x) ∧
      u.mem = s.mem ∧ WentOn u s.cur t
    (∀ b, let addr := seqA (s.sval t a + s.sval t b) sz
      Passes s t 1 e [.s a, .s b, .v vd] [] → AddrsOk s sz (t.pred pg) addr →
      Reaches (.vst ty vd a b pg e) s (stored addr)) ∧
    (∀ vb, let addr := offA (s.sval t a) sz (s.oldV t vb)
      Passes s t 1 e [.s a, .v vb, .v vd] [] → AddrsOk s sz (t.pred pg) addr →
      Reaches (.vscat ty vd a vb pg e) s (stored addr))

/-- VLDS and VSTS (R140) from the SLA x[a] + x[b] on: a misaligned active element is MISALIGN, the lowest first; when every
active element is aligned, within the plate and granted by the protection unit, VLDS reads and VSTS writes the plate
bytes of the active elements, and nothing else changes in memory; where the guest's cache holds a line of them so that the access
needs it, the lines are recalled and the strand waits (R213). -/
def Obligations.PlateVectorAccess : Prop :=
  ∀ (s : State) (t : Strand) (ty : ETy) (vd : VReg) (a b : SReg) (pg : PReg) (e : Bool),
    let sz := ty.size
    let st := s.curStation
    let base := (s.sval t a + s.sval t b).toNat % 2 ^ 32
    let sla (j : Nat) : Nat := (base + sz * j) % 2 ^ 32
    let on (j : Nat) : Prop := j < 256 / sz ∧ active sz (t.pred pg) j = true
    let slas := ((List.range (256 / sz)).filter fun j => active sz (t.pred pg) j).map sla
    let clean : Prop := ∀ j, on j → s.readPoison (.plate st (sla j)) sz = none
    let fits (wr : Bool) : Prop := ∀ j, on j → sla j % sz = 0 ∧ sla j + sz ≤ s.plateSize st ∧
      ∀ j', on j' → sla j ≤ sla j' → (s.station st).protOk t.protKind wr (sla j) (sla j' + sz - sla j) = true
    let byte (u : State) (x : Nat) : Byte := u.homeByte (.plate st x)
    (Passes s t 1 e [.s a, .s b] [.v vd] →
      (∀ j, on j → sla j % sz ≠ 0 → (∀ i, on i → i < j → sla i % sz = 0) →
        exec (.vlds ty vd a b pg e) s = .next (s.faultAt 0x088 (BitVec.ofNat 64 (sla j)))) ∧
      (fits false → ∀ s', s.recallPlate st slas sz false = some s' →
        exec (.vlds ty vd a b pg e) s = .next (s'.hold (.issue .plain))) ∧
      (fits false → s.recallPlate st slas sz false = none → clean → ∃ v, exec (.vlds ty vd a b pg e) s = .next (s.putV s.cur vd v t.xr).advance ∧
        ∀ j, j < 256 / sz → elem sz v j = if active sz (t.pred pg) j = true
          then bytesNat sz (fun x => byte s (sla j + x)) else elem sz (s.oldV t vd) j)) ∧
    (Passes s t 1 e [.s a, .s b, .v vd] [] →
      (∀ j, on j → sla j % sz ≠ 0 → (∀ i, on i → i < j → sla i % sz = 0) →
        exec (.vsts ty vd a b pg e) s = .next (s.faultAt 0x088 (BitVec.ofNat 64 (sla j)))) ∧
      (fits true → ∀ s', s.recallPlate st slas sz true = some s' →
        exec (.vsts ty vd a b pg e) s = .next (s'.hold (.issue .plain))) ∧
      (fits true → s.recallPlate st slas sz true = none → clean → Memory.wf s.mem = true → Reaches (.vsts ty vd a b pg e) s fun u =>
        (∀ j x, on j → x < sz → (byte u (sla j + x)).toNat = elem sz (s.oldV t vd) j / 2 ^ (8 * x) % 256) ∧
        (∀ k, (∀ j x, on j → x < sz → k ≠ 2 ^ 52 + st * 2 ^ 23 + sla j + x) → memGet u.mem k = memGet s.mem k) ∧
        WentOn u s.cur t))

/-! ### Conversion, quantisation and the special operations (R79 to R99, R143 to R153) -/

/-- One element of VCVT (R94, R95) with the rounding r of a floating result and the mode rm of an integer one: an integer result
saturates (SatT, with SAT, or NX when only a fraction is lost), NaN gives 0 and NV, an infinity saturates; a floating
result is rounded; a NaN stays a NaN, made quiet. -/
def Sys2Proof.Claims.cvtRule (dty sty : ETy) (r : Rnd) (rm : RM) (p : Nat) : Nat × FlagSet :=
  match ETy.frac dty, ETy.frac sty with
  | none, none => satElem dty.size (signedElem sty.size p)
  | some f, none =>
    let x := signedElem sty.size p
    froundVal f r (.fin (decide (x < 0)) x.natAbs 0)
  | none, some f =>
    match fval f p with
    | .nan => (0, 1)
    | .inf neg => ((satElem dty.size (if neg then -(2 ^ 64) else 2 ^ 64)).1, 32)
    | .fin neg mag ex =>
      let (y, lost) := roundInt rm neg mag ex
      let w := satElem dty.size y
      if w.2 = 0 ∧ lost = true then (w.1, 16) else w
  | some fd, some fs =>
    if fd = fs then (p, 0)
    else if fd = 23 then ((if isNaN 7 p then quiet 7 p else p) * 65536, 0)
    else if isNaN 23 p then (quiet 23 p / 65536, 0)
    else froundVal 7 r (fval 23 p)

/-- VCVT (R143), with CVM not TRAP: of the first 256 / max(sizes) elements, the active ones are converted, the others keep the
old value of vd, and the elements beyond are 0. -/
def Obligations.ConversionResults : Prop :=
  ∀ (s : State) (t : Strand) (dty sty : ETy) (rs : RSel) (vd va : VReg) (pg : PReg) (e : Bool),
    Passes s t 1 e [.v va] [.v vd] → t.cvmTrap = false →
    let big := max dty.size sty.size
    let A := (s.takeV va).1.val
    let s1 := (s.takeV va).2
    let sr := t.selSr rs (dty == .bf16)
    let r (j : Nat) : Nat × FlagSet := cvtRule dty sty (t.elemRnd sr (t.selRm rs) j) (t.selRm rs) (elem sty.size A j)
    ∃ v F, exec (.vcvt dty sty rs vd va pg e) s = .next (vecNext s1 t va.isQ sr vd v F) ∧
      (∀ j, j < 256 / dty.size → elem dty.size v j =
        if 256 / big ≤ j then 0
        else if active big (t.pred pg) j = true then (r j).1 % 2 ^ (8 * dty.size) else elem dty.size (s1.oldV t vd) j) ∧
      (∀ b : Nat, F.getLsbD b = true ↔ ∃ j, j < 256 / big ∧ active big (t.pred pg) j = true ∧ (r j).2.getLsbD b = true)

/-- The values of a register's elements, an inactive one as +0 (R144, R145). -/
def Sys2Proof.Claims.quantSource (t : Strand) (f sz : Nat) (v : VWord) (pg : PReg) (j : Nat) : FVal :=
  if active sz (t.pred pg) j = true then fval f (elem sz v j) else .fin false 0 0

/-- VQNT (R96, R144), with CVM not TRAP: for each block of 32 the scale X goes to vd + 1 and the active elements, rounded at the
block's exponent, to vd; an inactive element is 0. VQPS (R97, R145): each block of 16 is packed as E, μ and its
elements. -/
def Sys2Proof.Claims.QuantisationResults : Prop :=
  ∀ (s : State) (t : Strand) (sty : FTy) (rs : RSel) (vd va : VReg) (pg : PReg) (e : Bool), t.cvmTrap = false →
    let A := (s.takeV va).1.val
    let s1 := (s.takeV va).2
    let sz := sty.size
    let x := quantSource t (fracBits sty) sz A pg
    (Passes s t 1 e [.v va] [.v vd, .v (nextReg vd)] →
      let blk (k : Nat) : Block := mxBlock (t.selRm rs) ((List.range 32).map fun i => x (32 * k + i))
      ∃ v c F, exec (.vqnt sty rs vd va pg e) s =
          .next (vecNext (s1.finishV t va.isQ (nextReg vd) c t.xr) t va.isQ false vd v F) ∧
        (∀ k, k < 256 / sz / 32 → elem 1 c k = (blk k).head.headD 0 ∧
          ∀ i, i < 32 → elem 1 v (32 * k + i) =
            if active sz (t.pred pg) (32 * k + i) = true then (((blk k).res[i]?).map (·.val)).getD 0 else 0) ∧
        (∀ j, 256 / sz ≤ j → j < 256 → elem 1 v j = 0)) ∧
    (∀ fmt : PsFmt, Passes s t 1 e [.v va] [.v vd] →
      let b := match fmt with | .ps3 => 2 | .ps5 => 4 | .ps8 => 7
      let n := 2 + 2 * (b + 1)
      let blk (k : Nat) : Block := psBlock b t.xr (t.selRm rs) ((List.range 16).map fun i => x (16 * k + i))
      ∃ v F, exec (.vqps fmt sty rs vd va pg e) s = .next (vecNext s1 t va.isQ false vd v F) ∧
        ∀ k, k < 256 / sz / 16 →
          [elem 1 v (n * k), elem 1 v (n * k + 1)] = (blk k).head ∧
          ∀ i, i < 16 → v.toNat / 2 ^ (8 * (n * k + 2) + (b + 1) * i) % 2 ^ (b + 1) =
            (((blk k).res[i]?).map (·.val)).getD 0)

/-- VDQ (R87, R146): destination element j is the value of source element j, rounded to the type; elements beyond the source's
are 0; a word of the other XR tag is the fault XRMISMATCH. MXINT8: element j is q_j · 2^(X − 133), with X of its
block of 32, NaN when X is 255. PS: the elements of the whole blocks. For q = −128 with X = 254, whose value R94's tables do not hold
exactly in every type, the value and the flags are the model (log entry 81). -/
def Sys2Proof.Claims.DequantisationResults : Prop :=
  ∀ (s : State) (t : Strand) (dty : FTy) (rs : RSel) (vd va : VReg) (pg : PReg) (e : Bool), t.cvmTrap = false →
    let A := (s.takeV va).1
    let s1 := (s.takeV va).2
    let sz := dty.size
    let sr := t.selSr rs (dty == .bf16)
    let put (j : Nat) (v : FVal) : Nat × FlagSet := froundVal (fracBits dty) (t.elemRnd sr (t.selRm rs) j) v
    (Passes s t 1 e [.v va, .v (nextReg va)] [.v vd] →
      let C := s.oldV t (nextReg va)
      Elementwise (.vdq dty .mx rs vd va pg e) s s1 t va.isQ sr sz vd pg fun j =>
        let X := elem 1 C (j / 32)
        let q := signedElem 1 (elem 1 A.val j)
        put j (if X = 255 then .nan else .fin (decide (q < 0)) q.natAbs ((X : Int) - 133))) ∧
    (∀ (fmt : DqFmt) (b : Nat), DqFmt.psBits fmt = some b → Passes s t 1 e [.v va] [.v vd] →
      let n := 2 + 2 * (b + 1)
      (A.xr ≠ t.xr → exec (.vdq dty fmt rs vd va pg e) s = .next (s.trap 0x0CB)) ∧
      (A.xr = t.xr → Elementwise (.vdq dty fmt rs vd va pg e) s s1 t va.isQ sr sz vd pg fun j =>
        if 256 / n * 16 ≤ j then (0, 0) else put j (psRead b t.xr (elem n A.val (j / 16)) (j % 16))))

/-- VHAD32 (R147), VMAXX (R148), VUNPK5 and VPACK5 (R88, R149, R150). A butterfly works on each group of 32 elements; VMAXX takes
the maximum with the element whose index differs in bit k; a trit of VUNPK5 is a base-3 digit less 1; VPACK5 writes base-3
digits, of which the fifth of a segment's last byte is 1, and no byte outside the segments that lie wholly in vd. -/
def Obligations.SpecialVectorResults : Prop :=
  ∀ (s : State) (t : Strand) (vd va : VReg) (pg : PReg) (e : Bool), Passes s t 1 e [.v va] [.v vd] →
    let A := (s.takeV va).1.val
    let s1 := (s.takeV va).2
    (∀ (ty : ETy) (k : BitVec 5), 2 ^ k.toNat < 256 / ty.size →
      let a (j : Nat) : Nat := elem ty.size A j
      Elementwise (.vmaxx ty vd va k pg e) s s1 t va.isQ false ty.size vd pg fun j =>
        let x := a j
        let y := a (Nat.xor j (2 ^ k.toNat))
        match ETy.frac ty with
        | some f => (fmaxP f x y, 0)
        | none => (if signedElem ty.size x < signedElem ty.size y then y else x, 0)) ∧
    (∀ (ty : ETy) (m : BitVec 5),
      let bf := match ETy.frac ty with
        | some f => fButterfly f t.rm
        | none => iButterfly ty.size
      Elementwise (.vhad32 ty vd va m pg e) s s1 t va.isQ false ty.size vd pg fun j =>
        let r := hadGroup bf m ((List.range 32).map fun i => elem ty.size A (j / 32 * 32 + i))
        (((r[j % 32]?).map fun x => (x.val, x.fl)).getD (0, 0))) ∧
    (t.cvmTrap = false → ∀ h : BitVec 4,
      (Elementwise (.vunpk5 vd va h pg e) s s1 t va.isQ false 1 vd pg fun j =>
        let c := 4 * h.toNat + j / 64
        let b := elem 1 A (13 * c + j % 64 / 5)
        let bad : Prop := 243 ≤ b ∨ (j % 64 / 5 = 12 ∧ (b < 81 ∨ 161 < b))
        (if 256 < 13 * c + 13 ∨ bad then 0 else
          (BitVec.ofInt 8 (((b / 3 ^ (j % 64 % 5) % 3 : Nat) : Int) - 1)).toNat, 0)) ∧
      (∃ v F, exec (.vpack5 vd va h pg e) s = .next (vecNext s1 t va.isQ false vd v F) ∧
        (∀ j, j < 256 → 13 * (4 * h.toNat + j / 64) + 13 ≤ 256 →
          let x := signedElem 1 (elem 1 A j)
          let b := elem 1 v (13 * (4 * h.toNat + j / 64) + j % 64 / 5)
          b < 243 ∧ ((b / 3 ^ (j % 64 % 5) % 3 : Nat) : Int) =
            (if active 1 (t.pred pg) j = true then max (-1) (min 1 x) else 0) + 1) ∧
        (∀ i, i < 4 → 13 * (4 * h.toNat + i) + 13 ≤ 256 →
          elem 1 v (13 * (4 * h.toNat + i) + 12) / 81 = 1) ∧
        (∀ y, y < 256 → (y < 52 * h.toNat ∨ 52 * h.toNat + 52 ≤ y ∨ 256 < 13 * (y / 13) + 13) →
          elem 1 v y = elem 1 (s1.oldV t vd) y)))

/-- An integer reduction (R153) over the active elements: ADD is the exact sum, saturated once; the others fold their operation
from its identity, in any order; a floating one is the tree of R153. The value is element 0 of vd, and the other
elements are 0. -/
def Sys2Proof.Claims.ReductionResults : Prop :=
  ∀ (s : State) (t : Strand) (op : RedOp) (ty : ETy) (vd va : VReg) (pg : PReg) (e : Bool),
    Passes s t 1 e [.v va] [.v vd] →
    let sz := ty.size
    let A := (s.takeV va).1.val
    let s1 := (s.takeV va).2
    let l := ((List.range (256 / sz)).filter fun j => active sz (t.pred pg) j).map fun j => elem sz A j
    ∃ v F, exec (.vred op ty vd va pg e) s = .next (vecNext s1 t va.isQ false vd (BitVec.ofNat 2048 v) F) ∧
      (op = .add → (v, F) = satElem sz (l.map (signedElem sz)).sum) ∧
      (op = .and → v = l.foldl (· &&& ·) (2 ^ (8 * sz) - 1)) ∧
      (op = .or → v = l.foldl (· ||| ·) 0) ∧
      (op = .xor → v = l.foldl (· ^^^ ·) 0) ∧
      (op = .minu → v = l.foldl min (2 ^ (8 * sz) - 1)) ∧
      (op = .maxu → v = l.foldl max 0) ∧
      (op = .min → (∀ x ∈ l, signedElem sz v ≤ signedElem sz x) ∧ (v ∈ l ∨ (l = [] ∧ v = 2 ^ (8 * sz - 1) - 1))) ∧
      (op = .max → (∀ x ∈ l, signedElem sz x ≤ signedElem sz v) ∧ (v ∈ l ∨ (l = [] ∧ v = 2 ^ (8 * sz - 1)))) ∧
      (l = [] → F = 0)

/-- VSFU (R151, R152): with room in the station's queue of 16, the request enters it, vd is marked empty and the strand goes on;
serving the head of a queue computes its active elements and makes the result ready. A full queue holds the strand. -/
def Sys2Proof.Claims.SpecialFunctionUnit : Prop :=
  (∀ (s : State) (t : Strand) (fn : SfuFn) (ty : FTy) (vd va : VReg) (pg : PReg) (e : Bool),
    Passes s t 1 e [.v va] [.v vd] →
    (16 ≤ (s.station s.curStation).sfu.length → Reaches (.vsfu fn ty vd va pg e) s fun u =>
      pcOf u s.cur = some t.pc ∧ holdOf u s.cur = some (.issue .plain)) ∧
    ((s.station s.curStation).sfu.length < 16 → Reaches (.vsfu fn ty vd va pg e) s fun u =>
      (∃ q, (u.station s.curStation).sfu = (s.station s.curStation).sfu ++ [q] ∧ q.fn = fn ∧ q.rm = t.rm ∧
        q.src = (s.takeV va).1.val ∧ q.pred = t.pred pg ∧
        ∃ r, tblGet u.results q.res = some r ∧ r.dst = .v vd ∧ r.value = s.oldV t vd) ∧
      u.mem = s.mem ∧ WentOn u s.cur t)) ∧
  (∀ (s : State) (st : Nat) (q : SfuReq) (rest : List SfuReq) (r : PRes),
    (s.station st).sfu = q :: rest → tblGet s.results q.res = some r →
    Reaches (.vsfuServe st) s fun u =>
      (u.station st).sfu = rest ∧ u.mem = s.mem ∧
      ∃ r', tblGet u.results q.res = some r' ∧ r'.ready = true ∧
        ∀ j, let sz := if q.f32 then 4 else 2
          j < 256 / sz → elem sz r'.value j =
            if active sz q.pred j = true then
              (sfuElem q.fn (if q.f32 then 23 else 7) q.rm (elem sz q.src j)).1 % 2 ^ (8 * sz)
            else elem sz r.value j)

/-! ### The ternary matrix engine (R88 to R92, R156 to R177) -/

/-- An instruction of the matrix engine enters the engine's queue as the entry E and its strand goes on; the entries of a
trapped strand's handler go ahead of the held ones (R158, R174); that they have 16 places of their own is the model (log entry 38). With 16 entries the strand waits, and nothing changes. -/
def Sys2Proof.Claims.EntersEngine (i : Instr) (s : State) (t : Strand) (E : MEntry → Prop) : Prop :=
  let g := (s.station s.curStation).eng
  let ahead := t.ahead 2 g.halted
  let q := if ahead then g.handlerQ else g.queue
  (q.length < 16 → Reaches i s fun u =>
    let g' := (u.station s.curStation).eng
    ∃ m : MItem, E m.e ∧ m.tag = t.tag ∧ m.pc = t.pc ∧ m.n = g.entered ∧
      g' = { g with entered := g.entered + 1, queue := if ahead then g.queue else g.queue ++ [m],
                    handlerQ := if ahead then g.handlerQ ++ [m] else g.handlerQ } ∧
      u.mem = s.mem ∧ WentOn u s.cur t) ∧
  (16 ≤ q.length → Reaches i s fun u =>
    (u.station s.curStation).eng = g ∧ u.mem = s.mem ∧ pcOf u s.cur = some t.pc ∧ holdOf u s.cur = some (.issue .engine))

/-- The queued matrix instructions (R167 to R171, R175): each enters the queue with the operands it captures; a malformed
configuration word, a row group beyond MG, a malformed or misaligned drain destination is a precise fault at issue. -/
def Sys2Proof.Claims.MatrixInstructionsEnterQueue : Prop :=
  ∀ (s : State) (t : Strand) (e : Bool), s.curStrand = some t → t.loose = false →
    let eng := (s.station s.curStation).eng
    let cfg := eng.issueConfig (t.ahead 2 eng.halted)
    (∀ back, EntersEngine (.mzero back e) s t (· = .mzero back)) ∧
    EntersEngine (.mswapL e) s t (· = .mswap true false) ∧
    EntersEngine (.mswapA e) s t (· = .mswap false true) ∧
    EntersEngine (.mswapLa e) s t (· = .mswap true true) ∧
    (∀ a, Passes s t 2 e [.s a] [] →
      let w := s.sval t a
      let good := w.toNat < 2 ^ 12 ∧ w.toNat / 2 ^ 6 % 4 = 0 ∧ w.toNat % 2 ^ 6 ≤ 40
      (good → EntersEngine (.mcfg a e) s t (· = .mcfg (w.setWidth 12))) ∧
      (¬ good → exec (.mcfg a e) s = .next (s.fault 0x111))) ∧
    (∀ (a b : VReg) (g : Fin 8),
      Passes s t 2 e (if cfg.getLsbD 11 then [.v a, .v b] else [.v a]) [] →
      (g.val ≤ cfg.toNat / 2 ^ 8 % 8 → EntersEngine (.mstep a b g e) s t (· =
        .mstep g (s.takeV a).1.val (if cfg.getLsbD 11 then ((s.takeV a).2.takeV b).1.val else 0))) ∧
      (cfg.toNat / 2 ^ 8 % 8 < g.val → exec (.mstep a b g e) s = .next (s.fault 0x112))) ∧
    (∀ (sel : Fin 7) (a b : SReg), Passes s t 2 e [.s b] [.s a] →
      EntersEngine (.mstat sel a b e) s t fun E => ∃ r, E = .mstat sel (s.sval t b) r) ∧
    (∀ (fmt : DrainFmt) (k : Compl) (back : Bool) (a b c : SReg),
      Passes s t 2 e (if k = .none then [.s a] else [.s a, .s b, .s c]) [] →
      let w := s.sval t a
      let good := w.toNat / 2 ^ 43 = 0 ∧
        (if w.getLsbD 42 then s.inSection t.ctx (stationOfWord w) = true else w.toNat / 2 ^ 32 % 2 ^ 10 = 0)
      (¬ good → exec (.mdrain fmt k back a b c e) s = .next (s.faultAt 0x110 w)) ∧
      (good → w.toNat % 64 ≠ 0 → exec (.mdrain fmt k back a b c e) s = .next (s.faultAt 0x090 w)) ∧
      (good → w.toNat % 64 = 0 → EntersEngine (.mdrain fmt k back a b c e) s t fun E =>
        ∃ act, E = .mdrain fmt back w act t.rm t.cvmTrap ∧
          act = s.captureAction t k (s.sval t b) (s.sval t c)))

/-- MWAIT (R177) goes on when the entries before it are done, and is held otherwise. MLDW (R168): a misaligned or out-of-range
base faults; while the latch is busy it is held, and a plate image of which the guest's cache owns a line waits for the guest (R213); else the load of its image begins and the strand is held until it ends. -/
def Sys2Proof.Claims.MatrixWaitAndLoadBegin : Prop :=
  ∀ (s : State) (t : Strand) (e : Bool), s.curStrand = some t → t.loose = false → t.hold = .none →
    let st := s.curStation
    let n := (s.station st).eng.entered
    (s.engDone st t n = true → exec (.mwait e) s = .next s.advance) ∧
    (s.engDone st t n = false → exec (.mwait e) s = .next (s.hold (.mwait n))) ∧
    (∀ (sla tr c64 : Bool) (a : SReg) (i : Instr), Passes s t 2 e [.s a] [] →
      (c64, i) ∈ [(true, Instr.mldwC64 sla tr a e), (false, Instr.mldwT64 sla tr a e)] →
      let base : Word := if sla then BitVec.ofNat 64 ((s.sval t a).toNat % 2 ^ 32) else s.sval t a
      let size := if c64 then 4160 else 896
      (base.toNat % 128 ≠ 0 → exec i s = .next (s.faultAt 0x090 base)) ∧
      (base.toNat % 128 = 0 → sla = false → gvaOk s.cfg base = false → exec i s = .next (s.faultAt 0x092 base)) ∧
      (base.toNat % 128 = 0 → (sla = false → gvaOk s.cfg base = true) → s.latchFree st s.nextId = false →
        Reaches i s fun u => (u.station st).eng = (s.station st).eng ∧ pcOf u s.cur = some t.pc ∧
          ∃ l, holdOf u s.cur = some (.mldw l) ∧ l.started = false ∧ l.base = base) ∧
      (base.toNat % 128 = 0 → sla = true → s.latchFree st s.nextId = true →
        base.toNat + size ≤ s.plateSize st → (s.station st).protOk t.protKind false base.toNat size = true →
        s.recall (.plate st base.toNat) size false = none →
        Reaches i s fun u => (u.station st).eng.loading = some t.tag ∧ u.mem = s.mem ∧ pcOf u s.cur = some t.pc ∧
          ∃ l, holdOf u s.cur = some (.mldw l) ∧ l.started = true ∧ l.tr = tr ∧ l.c64 = c64 ∧
            l.image = bytesNat size fun x => s.homeByte (.plate st (base.toNat + x))) ∧
      (base.toNat % 128 = 0 → sla = false → gvaOk s.cfg base = true → s.latchFree st s.nextId = true →
        Reaches i s fun u => (u.station st).eng.loading = some t.tag ∧ u.mem = s.mem ∧ pcOf u s.cur = some t.pc ∧
          ∃ l, holdOf u s.cur = some (.mldw l) ∧ l.started = true ∧ l.base = base ∧ l.tr = tr ∧ l.c64 = c64))

/-- MLDW_LOAD_DONE (R161, R162): when the image has arrived unpoisoned and without a bad pack code, the back latch takes it, the
front one stays, and the strand goes on. Weight (k, n) of the image stands at (k, n), or at (n, k) when TR = 1: of a C64
image the byte at 64n + k, of a T64 image digit k % 5 of byte k / 5 of column n's segment, less 1. -/
def Sys2Proof.Claims.MatrixLatchLoad : Prop :=
  (∀ (s : State) (slot : Nat) (t : Strand) (l : LatchLoad),
    s.slot slot = some t → t.hold = .mldw l → l.started = true → s.latchPending t.tag = false → t.frozen = none →
    l.poison = none → (l.c64 = true ∨ firstBad 0 (digits 1 832 l.image) = none) →
    Reaches (.mldwLoadDone slot) s fun u =>
      let g := (s.station (stationOf slot)).eng
      let g' := (u.station (stationOf slot)).eng
      g'.latch[1 - g.frontL] = latchOf l.c64 l.tr l.image ∧ g'.latch[g.frontL] = g.latch[g.frontL] ∧
      g'.frontL = g.frontL ∧ g'.loading = none ∧ g'.acc = g.acc ∧ u.mem = s.mem ∧ WentOn u slot t) ∧
  (∀ (c64 tr : Bool) (image k n : Nat), k < 64 → n < 64 → (c64 = true ∨ firstBad 0 (digits 1 832 image) = none) →
    let x := latchOf c64 tr image
    let place := if tr then 64 * k + n else 64 * n + k
    signedElem 1 (x.w.toNat / 2 ^ (8 * place) % 256) =
      (if c64 then signedElem 1 (image / 2 ^ (8 * (64 * n + k)) % 256)
       else ((image / 2 ^ (8 * (13 * n + k / 5)) % 256 / 3 ^ (k % 5) % 3 : Nat) : Int) - 1) ∧
    x.scale.toNat / 2 ^ (8 * n) % 256 = image / 2 ^ (8 * ((if c64 then 4096 else 832) + n)) % 256 ∧
    x.tr = tr ∧ x.csd = c64)

/-- The entry that the engine performs next has left its queue. -/
def Sys2Proof.Claims.engAfter (s : State) (st : Nat) : Engine := ((s.engPop st).station st).eng

/-- The engine performs the entry at its head (R167, R170, R175): MCFG sets the configuration, MZERO clears a set and its NaN
flags, MSWAP exchanges the latches (when no MLDW is in progress) or the sets, MSTAT reads and then clears. -/
def Sys2Proof.Claims.MatrixEntriesPerformed : Prop :=
  ∀ (s : State) (st : Nat) (m : MItem), s.engHead st = some m →
    let g := engAfter s st
    let Gives (i : Instr) (h : Engine) : Prop := Reaches i s fun u => (u.station st).eng = h ∧ u.mem = s.mem
    (∀ w, m.e = .mcfg w → Gives (.mcfgPerform st)
      { g with mxint := w.getLsbD 11, mg := Fin.ofNat 8 (w.toNat / 2 ^ 8), bp := w.setWidth 6 }) ∧
    (∀ back, m.e = .mzero back → let k : Fin 2 := if back then 1 - g.frontA else g.frontA
      Gives (.mzeroPerform st) { g with acc := g.acc.set k { raw := 0, nan := 0 } }) ∧
    (∀ l a, m.e = .mswap l a → (l = true → g.loading = none) → Gives (.mswapPerform st)
      { g with frontL := if l then 1 - g.frontL else g.frontL, frontA := if a then 1 - g.frontA else g.frontA }) ∧
    (∀ l a, m.e = .mswap l a → l = true → (s.station st).eng.loading ≠ none → exec (.mswapPerform st) s = .next s) ∧
    (∀ gr a b, m.e = .mstep gr a b → Gives (.mstepPerform st) (g.step gr a b)) ∧
    (∀ sel b r c, m.e = .mstat sel b r → tblGet s.results r = some c → Reaches (.mstatPerform st) s fun u =>
      (u.station st).eng = g.statClear sel b ∧
      (tblGet u.results r).map (fun x => (x.value, x.ready)) =
        some ((g.stat sel (g.queue.length + g.handlerQ.length)).setWidth 2048, true))

/-- Element (row, column) of an accumulator set: its raw value. -/
def Sys2Proof.Claims.accRaw (a : AccSet) (row n : Nat) : Int := signedElem 8 (a.raw.toNat / 2 ^ (64 * (64 * row + n)) % 2 ^ 64)

/-- MSTEP performed (R91, R92, R163, R164): element (4g + r, n) of the active set gains, in one saturated addition, the sum over K
of the terms Act(r, k) · d_j · 2^j · (8 + m) · 2^(e − 19), each floored to a multiple of 2^−BP, where d are the digits of
the weight (k, n) of the front latch and m and e those of its scale byte; a NaN block adds nothing and sets its row's NaN
flag. Every other element of either set keeps its value, and the latches and the configuration stay. -/
def Obligations.MatrixStepArithmetic : Prop :=
  ∀ (g : Engine) (gr : Fin 8) (a b : VWord),
    let x := g.latch[g.frontL]
    let u := g.step gr a b
    let w (k n : Nat) : Int := signedElem 1 (x.w.toNat / 2 ^ (8 * (64 * n + k)) % 256)
    let term (r n k : Nat) : Int := match actAt g.mxint a b r k with
      | none => 0
      | some (q, ex) =>
        let c := x.scaleAt k n
        ((x.planes (w k n)).zipIdx.map fun d =>
          (floorPow (q * (8 + (c % 8 : Nat)) * d.1) ((c / 8 : Nat) - 19 + (g.bp.toNat : Int) + ex + (d.2 : Int))).1).sum
    (∀ r n, r < 4 → n < 64 →
      accRaw u.acc[g.frontA] (4 * gr.val + r) n =
        max (-(2 ^ 63)) (min (2 ^ 63 - 1) (accRaw g.acc[g.frontA] (4 * gr.val + r) n + ((List.range 64).map (term r n)).sum)) ∧
      u.acc[g.frontA].nan.getLsbD (64 * (4 * gr.val + r) + n) =
        (g.acc[g.frontA].nan.getLsbD (64 * (4 * gr.val + r) + n) ||
          (List.range 64).any fun k => (actAt g.mxint a b r k).isNone)) ∧
    (∀ row n, row < 32 → n < 64 → row / 4 ≠ gr.val →
      accRaw u.acc[g.frontA] row n = accRaw g.acc[g.frontA] row n ∧
      u.acc[g.frontA].nan.getLsbD (64 * row + n) = g.acc[g.frontA].nan.getLsbD (64 * row + n)) ∧
    u.acc[1 - g.frontA] = g.acc[1 - g.frontA] ∧ u.latch = g.latch ∧ u.frontL = g.frontL ∧ u.frontA = g.frontA ∧
    u.mxint = g.mxint ∧ u.mg = g.mg ∧ u.bp = g.bp ∧ u.queue = g.queue ∧ u.steps = g.steps + 1

/-- MDRAIN (R172, R173). The capture takes the entry when the drain buffer is empty: element i of the rows in use is converted by
the format (A64 raw, with the flag words after the elements; I32 and floating as raw · 2^−BP). The write puts every byte at
the destination, empties the buffer, and, here with no completion action, does nothing else to memory. -/
def Obligations.MatrixDrain : Prop :=
  (∀ (s : State) (st : Nat) (m : MItem) (fmt : DrainFmt) (back : Bool) (dest : Word) (act : Action) (rm : RM),
    s.engHead st = some m → m.e = .mdrain fmt back dest act rm false → (s.station st).eng.drain = none →
    let g := (s.station st).eng
    let k : Fin 2 := if back then 1 - g.frontA else g.frontA
    let set := g.acc[k]
    let n := 256 * (g.mg.val + 1)
    let raw (i : Nat) : Int := accRaw set (i / 64) (i % 64)
    let nan (i : Nat) : Bool := set.nan.getLsbD i
    let fp (f i : Nat) : Nat := if nan i then defNaN f
      else (froundVal f (.m rm) (.fin (decide (raw i < 0)) (raw i).natAbs (-(g.bp.toNat : Int)))).1
    Reaches (.mdrainCapture st) s fun u => u.mem = s.mem ∧
      ∃ d, (u.station st).eng = { engAfter s st with drain := some d, sticky := (u.station st).eng.sticky } ∧
        d.item = m ∧ d.dest = dest ∧ d.act = act ∧
        (fmt = .a64 → d.len = 8 * n + n / 8 ∧ ∀ i, i < n →
          signedElem 8 (d.bytes / 2 ^ (64 * i) % 2 ^ 64) = raw i ∧ d.bytes.testBit (64 * n + i) = nan i) ∧
        (fmt = .i32 → d.len = 4 * n ∧ ∀ i, i < n → d.bytes / 2 ^ (32 * i) % 2 ^ 32 =
          if nan i then 0 else (satElem 4 (roundInt rm (decide (raw i < 0)) (raw i).natAbs (-(g.bp.toNat : Int))).1).1) ∧
        (fmt = .f32 → d.len = 4 * n ∧ ∀ i, i < n → d.bytes / 2 ^ (32 * i) % 2 ^ 32 = fp 23 i) ∧
        (fmt = .bf16 → d.len = 2 * n ∧ ∀ i, i < n → d.bytes / 2 ^ (16 * i) % 2 ^ 16 = fp 7 i)) ∧
  (∀ (s : State) (st : Nat) (d : Drain),
    (s.station st).eng.drain = some d → (s.station st).eng.frozen = none → d.act = .none → Memory.wf s.mem = true →
    let remote := d.dest.getLsbD 42
    let dst := if remote then stationOfWord d.dest else st
    let sla := d.dest.toNat % 2 ^ 32
    d.dest.toNat % 64 = 0 → sla + d.len ≤ s.plateSize dst → s.readPoison (.plate dst sla) d.len = none →
    s.recall (.plate dst sla) d.len = none →
    (∀ a n, sla ≤ a → 0 < n → a + n ≤ sla + d.len →
      (s.station dst).protOk (if remote then .remote else .engine) true a n = true) →
    Reaches (.mdrainWriteDone st) s fun u =>
      (u.station st).eng.drain = none ∧
      (∀ x, x < d.len → (u.homeByte (.plate dst (sla + x))).toNat = d.bytes / 2 ^ (8 * x) % 256) ∧
      (∀ k, (k < 2 ^ 52 + dst * 2 ^ 23 + sla ∨ 2 ^ 52 + dst * 2 ^ 23 + sla + d.len ≤ k) → memGet u.mem k = memGet s.mem k))

/-! ### Ports, streams and channels (R35, R36, R207, R208, R230 to R237) -/

/-- The port of a slot's strand in a state. -/
def Sys2Proof.Claims.portAt (u : State) (k : Nat) (q : Fin 8) : Option Port := (u.slot k).map fun t => t.ports[q]

/-- PBIND (R231 to R233); that a loose strand's channel takes BADPORT of a stage port and PORTBUSY before the illegal instruction
of R19 is the model (log entry 73). With a free port and a well-formed descriptor, a stream of an aligned base in range, or a channel of
another strand, is bound and the strand goes on; the faults, in their order, are BADPORT for a stage port, PORTBUSY for a
bound one, BADPORT for a malformed descriptor, and a misaligned or out-of-range stream. -/
def Sys2Proof.Claims.PortBinding : Prop :=
  ∀ (s : State) (t : Strand) (q : Fin 8) (a b : SReg) (e : Bool), Passes s t 3 e [.s a, .s b] [] →
    let d := s.sval t a
    let base := s.sval t b
    let kind := d.toNat / 2 ^ 62
    let stage : Prop := (q = 6 ∨ q = 7) ∧ t.stageCsr.toNat / 8 ≠ 0
    let bad : Prop := if kind < 2 then d.getLsbD 60 = true ∨ d.toNat / 2 ^ 16 % 16 ≠ 0
      else d.toNat % 2 ^ 52 ≠ 0 ∨ 6 ≤ d.toNat / 2 ^ 59 % 8
    let p : Stream := { write := decide (kind = 1), sla := d.getLsbD 61, desc := d, base := base, xr := t.xr }
    (stage → exec (.pbind q a b e) s = .next (s.fault 0x258)) ∧
    (¬ stage → t.ports[q] ≠ .unbound → exec (.pbind q a b e) s = .next (s.fault 0x259)) ∧
    (¬ stage → t.ports[q] = .unbound → 2 ≤ kind → t.loose = true → exec (.pbind q a b e) s = .next (s.illegal 3 7)) ∧
    (¬ stage → t.ports[q] = .unbound → bad → (kind < 2 ∨ t.loose = false) → exec (.pbind q a b e) s = .next (s.fault 0x258)) ∧
    (¬ stage → t.ports[q] = .unbound → ¬ bad → kind < 2 →
      (base.toNat % 64 ≠ 0 → exec (.pbind q a b e) s = .next (s.faultAt 0x098 base)) ∧
      (base.toNat % 64 = 0 → (p.sla = true ∨ ∀ x ∈ p.corners, gvaOk s.cfg x = true ∧ gvaOk s.cfg (x + 255) = true) →
        exec (.pbind q a b e) s = .next (s.modCur fun t => { t with ports := t.ports.set q (.stream p) }).advance) ∧
      (base.toNat % 64 = 0 → p.sla = false → (∃ x ∈ p.corners, gvaOk s.cfg x = false ∨ gvaOk s.cfg (x + 255) = false) →
        ∃ x ∈ p.corners, exec (.pbind q a b e) s = .next (s.faultAt 0x09A x))) ∧
    (¬ stage → t.ports[q] = .unbound → ¬ bad → 2 ≤ kind → t.loose = false →
      ((∃ r : Fin 8, (t.ports[r]).sameChannel d = true) → exec (.pbind q a b e) s = .next (s.fault 0x258)) ∧
      ((∀ r : Fin 8, (t.ports[r]).sameChannel d = false) →
      Reaches (.pbind q a b e) s fun u => u.mem = s.mem ∧ WentOn u s.cur t ∧ ∃ c, portAt u s.cur q = some (.channel c) ∧
        c.sends = decide (kind = 3) ∧ c.desc = d ∧ c.allow = d.toNat / 2 ^ 52 % 16 + 1 ∧
        c.edge = (t.neighbour (d.toNat / 2 ^ 59 % 8) (d.toNat / 2 ^ 56 % 8)).isNone))

/-- PUNBIND (R235), PSTAT (R236) and PSKIP (R237) on each kind of port. -/
def Sys2Proof.Claims.PortInstructions : Prop :=
  ∀ (s : State) (t : Strand) (q : Fin 8) (e : Bool), s.curStrand = some t →
    let stage : Prop := (q = 6 ∨ q = 7) ∧ t.stageCsr.toNat / 8 ≠ 0
    (stage → exec (.punbind q e) s = .next (s.fault 0x258)) ∧
    (¬ stage → t.ports[q] = .unbound → exec (.punbind q e) s = .next s.advance) ∧
    (∀ p, ¬ stage → t.ports[q] = .stream p → p.write = true →
      ((p.buf ≠ [] ∨ s.streamReqs t.tag q ≠ []) → exec (.punbind q e) s = .next (s.hold (.punbind q))) ∧
      (p.buf = [] → s.streamReqs t.tag q = [] → Reaches (.punbind q e) s fun u =>
        portAt u s.cur q = some .unbound ∧ u.mem = s.mem ∧ WentOn u s.cur t)) ∧
    (∀ p, ¬ stage → t.ports[q] = .stream p → p.write = false → Reaches (.punbind q e) s fun u =>
      portAt u s.cur q = some .unbound ∧ u.streamReqs t.tag q = [] ∧ u.mem = s.mem ∧ WentOn u s.cur t) ∧
    (∀ c, ¬ stage → t.ports[q] = .channel c →
      (c.sends = true → c.edge = false → c.buf ≠ [] → exec (.punbind q e) s = .next (s.hold (.punbind q))) ∧
      ((c.sends = false ∨ c.edge = true ∨ c.buf = []) → Reaches (.punbind q e) s fun u =>
        portAt u s.cur q = some .unbound ∧ u.mem = s.mem ∧ WentOn u s.cur t)) ∧
    (∀ a, Passes s t 3 e [] [.s a] →
      (t.ports[q] = .unbound → Writes (.pstat a q e) s a 0) ∧
      (∀ p, t.ports[q] = .stream p → Writes (.pstat a q e) s a (BitVec.ofNat 64
        (p.desc.toNat / 2 ^ 62 * 2 ^ 62 + 2 ^ 61 + (if p.total ≤ p.pos then 2 ^ 59 else 0) +
          (if p.write then 4 - p.buf.length else p.buf.length) * 2 ^ 25 + (p.total - p.pos)))) ∧
      (∀ c, t.ports[q] = .channel c → Writes (.pstat a q e) s a (BitVec.ofNat 64
        (c.desc.toNat / 2 ^ 62 * 2 ^ 62 + 2 ^ 61 + (if c.edge then 2 ^ 60 else 0) +
          (if c.edge then 16 else if c.sends then (if c.peer = none then 0 else c.credit) else c.buf.length) * 2 ^ 25)))) ∧
    (∀ a, t.hold = .none → Passes s t 3 e [.s a] [] →
      let n := (s.sval t a).toNat
      (t.ports[q] = .unbound → exec (.pskip q a e) s = .next (s.fault 0x25A)) ∧
      (∀ p, t.ports[q] = .stream p → Reaches (.pskip q a e) s fun u => WentOn u s.cur t ∧ u.mem = s.mem ∧
        ∃ p', portAt u s.cur q = some (.stream p') ∧ p'.pos = min (p.pos + n) (max p.total p.pos)) ∧
      (∀ c, t.ports[q] = .channel c →
        (c.sends = true → exec (.pskip q a e) s = .next (s.fault 0x25B)) ∧
        (c.sends = false → c.edge = true → exec (.pskip q a e) s = .next s.advance) ∧
        (c.sends = false → c.edge = false → n ≤ c.buf.length → Reaches (.pskip q a e) s fun u => WentOn u s.cur t ∧
          portAt u s.cur q = some (.channel { c with buf := c.buf.drop n, returns := c.returns + n })) ∧
        (c.sends = false → c.edge = false → c.buf.length < n → Reaches (.pskip q a e) s fun u =>
          pcOf u s.cur = some t.pc ∧ holdOf u s.cur = some (.pskip q (n - c.buf.length)))))

/-- Words of streams and channels (R207, R208, R233, R234). A read stream of the plate fetches the 256 bytes of its next word, and
one of global addresses those of its four lines, each from its home, or sends a request where the first line is in another package; a
write stream of the plate writes its oldest word's bytes and no other byte, and one of global addresses sends its four lines; a channel word
leaves the sender's end for the receiver's; a credit goes back to the sender, and adds nothing while more words of an earlier
binding were under way than its allowance. -/
def Obligations.PortWordsMove : Prop :=
  (∀ (s : State) (k : Nat) (t : Strand) (q : Fin 8) (p : Stream), s.slot k = some t → t.ports[q] = .stream p →
    t.frozen = none → s.streamReqs t.tag q = [] →
    let at_ (n : Nat) : Nat := (p.addr n).toNat
    let st := stationOf k
    (p.write = false → p.sla = true → p.pos + p.buf.length < p.total → p.buf.length < 4 → p.got = [] → s.recall (.plate st (at_ (p.pos + p.buf.length))) 256 false = none →
      at_ (p.pos + p.buf.length) + 256 ≤ s.plateSize st →
      (s.station st).protOk t.protKind false (at_ (p.pos + p.buf.length)) 256 = true →
      Reaches (.readStreamFetch k q) s fun u => u.mem = s.mem ∧ ∃ p' w, portAt u k q = some (.stream p') ∧
        p'.buf = p.buf ++ [(p.pos + p.buf.length, w)] ∧ p'.pos = p.pos ∧
        w.val.toNat = bytesNat 256 fun x => s.homeByte (.plate st (at_ (p.pos + p.buf.length) + x))) ∧
    (p.write = false → p.sla = false → p.pos + p.buf.length < p.total → p.buf.length < 4 → p.got = [] →
      let n := p.pos + p.buf.length
      let g (j : Nat) : Word := p.addr n + BitVec.ofNat 64 (64 * j)
      (∀ l : Nat → Loc, (∀ j, j < 4 → gvaPkg (g j) = s.cfg.pkg ∧ (∃ m, s.translateBehind st t.who (g j) .read = .ok (l j) m) ∧
          (∀ x, l j ≠ .pcie x) ∧ s.recall (l j) 64 false = none) →
        Reaches (.readStreamFetch k q) s fun u => u.mem = s.mem ∧ ∃ p' w, portAt u k q = some (.stream p') ∧
          p'.buf = p.buf ++ [(n, w)] ∧ p'.pos = p.pos ∧
          ∀ x, x < 256 → elem 1 w.val x = (s.homeByte ((l (x / 64)).plus (x % 64))).toNat) ∧
      (gvaPkg (g 0) ≠ s.cfg.pkg → s.broken (gvaPkg (g 0)) = false → Reaches (.readStreamFetch k q) s fun u => u.mem = s.mem ∧
        portAt u k q = some (.stream p) ∧ ∃ r, tblGet u.reqs s.nextId = some r ∧ r.kind = .streamRead q n ∧ r.gva = g 0)) ∧
    (∀ n w rest, p.write = true → p.buf = (n, w) :: rest →
      (p.sla = true → at_ n + 256 ≤ s.plateSize st → at_ n % 64 = 0 → (s.station st).protOk t.protKind true (at_ n) 256 = true →
        Memory.wf s.mem = true → s.readPoison (.plate st (at_ n)) 256 = none → s.recall (.plate st (at_ n)) 256 = none →
        Reaches (.writeStreamSend k q) s fun u => portAt u k q = some (.stream { p with buf := rest }) ∧
          (∀ x, x < 256 → (u.homeByte (.plate st (at_ n + x))).toNat = elem 1 w.val x) ∧
          ∀ x, (x < 2 ^ 52 + st * 2 ^ 23 + at_ n ∨ 2 ^ 52 + st * 2 ^ 23 + at_ n + 256 ≤ x) → memGet u.mem x = memGet s.mem x) ∧
      (p.sla = false → Reaches (.writeStreamSend k q) s fun u =>
        portAt u k q = some (.stream { p with buf := rest }) ∧ u.mem = s.mem ∧
        ∀ j, j < 4 → ∃ r, tblGet u.reqs (s.nextId + j) = some r ∧ r.kind = .streamWrite q ∧ r.mask = BitVec.allOnes 64 ∧
          r.gva = p.addr n + BitVec.ofNat 64 (64 * j) ∧ r.data = w.val.extractLsb' (512 * j) 512))) ∧
  (∀ (s : State) (k : Nat) (t : Strand) (q r : Fin 8) (c d : Channel) (v : Strand) (w : PortWord) (ws : List PortWord),
    (∀ e ∈ s.strands, e.1 = k → e.2 = t) → s.slot k = some t → t.ports[q] = .channel c →
    c.peer = some (v.tag, r) → v.tag ≠ t.tag →
    s.findTag v.tag = some v → v.ports[r] = .channel d →
    (c.sends = false → d.buf = w :: ws → Reaches (.channelWordArrive k q) s fun u =>
      portAt u k q = some (.channel { c with buf := c.buf ++ [w] }) ∧
      (u.findTag v.tag).map (fun y => y.ports[r]) = some (.channel { d with buf := ws }) ∧ u.mem = s.mem) ∧
    (c.sends = true → 0 < d.returns → Reaches (.channelCreditReturn k q) s fun u =>
      portAt u k q = some (.channel (if c.owed = 0 then { c with credit := c.credit + 1 } else { c with owed := c.owed - 1 })) ∧
      (u.findTag v.tag).map (fun y => y.ports[r]) = some (.channel { d with returns := d.returns - 1 }) ∧ u.mem = s.mem))

/-! ### Far atomics, reservations, queues, phases and fences (R198, R199, R206, R217 to R229) -/

/-- The instruction sends a request with a property to its home and goes on; home memory does not change. -/
def Sys2Proof.Claims.SendsAs (i : Instr) (s : State) (t : Strand) (kind : ReqKind) (addr : Word) (P : State → Req → Prop) : Prop :=
  Reaches i s fun u => u.mem = s.mem ∧ WentOn u s.cur t ∧
    ∃ n r, tblGet u.reqs n = some r ∧ r.kind = kind ∧ r.stage = .toDtu ∧ r.gva = addr ∧ r.tag = t.tag ∧ r.grid = t.grid ∧ P u r

/-- A request's result goes to the scalar register d: marked empty, unless d is x0, which takes no result (R31). -/
def Sys2Proof.Claims.AwaitsS (s : State) (d : SReg) (u : State) (r : Req) : Prop :=
  (d = .x 0 → r.res = none) ∧
  (∀ i : Fin 16, i ≠ 0 → d = .x i → (cellS u s.cur d).map (·.full) = some false ∧
    ∃ n c, r.res = some n ∧ tblGet u.results n = some c ∧ c.dst = .s d)

/-- The address check of R217 with n bytes: a misaligned or out-of-range address faults, and nothing is sent. -/
def Sys2Proof.Claims.BankFaults (i : Instr) (s : State) (addr : Word) (n : Nat) : Prop :=
  (addr.toNat % n ≠ 0 → exec i s = .next (s.faultAt 0x080 addr)) ∧
  (addr.toNat % n = 0 → gvaOk s.cfg addr = false → exec i s = .next (s.faultAt 0x082 addr))

/-- The AMO instructions with two sources, by the operation code that their request carries (R59, R222). -/
def Sys2Proof.Claims.amoTable : List ((Bool → SReg → SReg → SReg → Bool → Instr) × Fin 16) :=
  [(.amoadd, 0), (.amoand, 1), (.amoor, 2), (.amoxor, 3), (.amomin, 4), (.amomax, 5), (.amominu, 6), (.amomaxu, 7), (.amoswap, 8)]

/-- Far atomics, LRW, SCH, RREL, ENQ and DEQ at issue (R217, R222 to R229): the checks of the address, then the request with its
operands, the destination marked empty, and the strand goes on. -/
def Sys2Proof.Claims.BankInstructionsSendRequests : Prop :=
  ∀ (s : State) (t : Strand) (d a b : SReg) (e : Bool),
    let addr := s.sval t a
    let amo (i : Instr) (op : Fin 16) (dbl : Bool) : Prop :=
      BankFaults i s addr (if dbl then 8 else 4) ∧
      (addr.toNat % (if dbl then 8 else 4) = 0 → gvaOk s.cfg addr = true →
        SendsAs i s t (.amo op dbl) addr fun u r => r.a = s.sval t b ∧ (op = 9 → r.b = s.sval t d) ∧ AwaitsS s d u r)
    (Passes s t 0 e [.s a, .s b] [.s d] →
      (∀ x ∈ amoTable, ∀ dbl, amo (x.1 dbl d a b e) x.2 dbl) ∧
      amo (.amofadd32 d a b e) 10 false ∧ amo (.amofxadd d a b e) 11 true) ∧
    (Passes s t 0 e [.s a, .s b, .s d] [.s d] → ∀ dbl, amo (.amocas dbl d a b e) 9 dbl) ∧
    (Passes s t 0 e [.s a] [.s d] → BankFaults (.lrw d a e) s addr 8 ∧
      (addr.toNat % 8 = 0 → gvaOk s.cfg addr = true → SendsAs (.lrw d a e) s t .lrw addr (AwaitsS s d))) ∧
    (Passes s t 0 e [.s a, .s b] [] → BankFaults (.sch a b e) s addr 8 ∧
      (addr.toNat % 8 = 0 → gvaOk s.cfg addr = true → SendsAs (.sch a b e) s t .sch addr fun _ r => r.a = s.sval t b)) ∧
    (Passes s t 0 e [.s a] [] → BankFaults (.rrel a e) s addr 8 ∧
      (addr.toNat % 8 = 0 → gvaOk s.cfg addr = true → SendsAs (.rrel a e) s t .rrel addr fun _ _ => True)) ∧
    (∀ v : VReg, Passes s t 0 e [.s a, .v v] [.s d] →
      BankFaults (.enq d a v e) s addr 64 ∧ BankFaults (.enqNw d a v e) s addr 64 ∧
      (addr.toNat % 64 = 0 → gvaOk s.cfg addr = true →
        SendsAs (.enq d a v e) s t (.enq false) addr
          (fun u r => r.data = (s.takeV v).1.val.setWidth 512 ∧ AwaitsS s d u r) ∧
        SendsAs (.enqNw d a v e) s t (.enq true) addr
          (fun u r => r.data = (s.takeV v).1.val.setWidth 512 ∧ AwaitsS s d u r))) ∧
    (∀ v : VReg, Passes s t 0 e [.s a] [.v v] →
      BankFaults (.deq v a e) s addr 64 ∧ BankFaults (.deqNw v a e) s addr 64 ∧
      (addr.toNat % 64 = 0 → gvaOk s.cfg addr = true →
        let waits (u : State) (r : Req) : Prop :=
          ∃ n c, r.res = some n ∧ tblGet u.results n = some c ∧ c.dst = .v v ∧ c.xr = t.xr
        SendsAs (.deq v a e) s t (.deq false) addr waits ∧ SendsAs (.deqNw v a e) s t (.deq true) addr waits))

/-- A request that stands translated at a location of LP6 or a plate whose bytes the guest's cache does not hold, unpoisoned. -/
def Sys2Proof.Claims.AtBank (s : State) (n : Nat) (r : Req) (l : Loc) (len key : Nat) : Prop :=
  s.req n = some r ∧ r.stage = .translated l ∧ l.key = some key ∧ s.recall l len = none ∧ s.readPoison l len = none ∧
  s.poisonAt key = none

/-- BANK_AMO_PERFORM (R222 to R224): the old value is delivered, sign-extended from 32 bits in the .w form, and the new one is held
at the home: the sum, the bits, the extremum, the operand, the operand when the old value equals the comparand, the
FP32 sum rounded to nearest, or the sum saturated to 64 bits. No other byte of memory changes. -/
def Obligations.FarAtomicsPerform : Prop :=
  ∀ (s : State) (n : Nat) (r : Req) (l : Loc) (op : Fin 16) (dbl : Bool) (key : Nat),
    r.kind = .amo op dbl → AtBank s n r l (if dbl then 8 else 4) key → s.mayServe r = true → Memory.wf s.mem = true →
    let w := if dbl then 8 else 4
    (∀ i, i < w → s.inPlate (l.plus i) = true ∧ (l.plus i).key = some (key + i)) → key % 64 + w ≤ 64 →
    let old := bytesNat w fun i => memGet s.mem (key + i)
    let A := r.a.toNat % 2 ^ (8 * w)
    let S := signedElem w
    Reaches (.bankAmoPerform n) s fun u =>
      let new := bytesNat w fun i => memGet u.mem (key + i)
      (op = 0 → new = (old + A) % 2 ^ (8 * w)) ∧
      (op = 1 → new = old &&& A) ∧ (op = 2 → new = old ||| A) ∧ (op = 3 → new = old ^^^ A) ∧
      (op = 4 → S new = min (S old) (S A)) ∧ (op = 5 → S new = max (S old) (S A)) ∧
      (op = 6 → new = min old A) ∧ (op = 7 → new = max old A) ∧ (op = 8 → new = A) ∧
      (op = 9 → new = if old = r.b.toNat % 2 ^ (8 * w) then A else old) ∧
      (op = 10 → dbl = false → new = (faddP 23 (.m .rne) old A).1 % 2 ^ 32) ∧
      (op = 11 → dbl = true → S new = max (-(2 ^ 63)) (min (2 ^ 63 - 1) (S old + S A))) ∧
      (∀ k, (k < key ∨ key + w ≤ k) → memGet u.mem k = memGet s.mem k) ∧
      u.req n = none ∧
      (∀ m c, r.from_ = none → r.res = some m → tblGet s.results m = some c →
        (tblGet u.results m).map (fun x => (x.ready, x.value.toNat)) =
          some (true, (if dbl then BitVec.ofNat 64 old else BitVec.ofInt 64 (S old)).toNat))

/-- LRW, SCH and RREL at their bank (R226, R228). A free word is granted to the LRW; a held one queues it; the holder's SCH writes
the word and its RREL writes nothing, and either lets the word go when nobody waits; by another strand they are refused with
0x261, and a second LRW of the holder with 0x262: the deferred fault of its grid, or the answer to the package it came from. -/
def Sys2Proof.Claims.ReservationsAtBank : Prop :=
  ∀ (s : State) (n : Nat) (r : Req) (l : Loc) (key : Nat), AtBank s n r l 8 key → s.mayServe r = true →
    (r.kind = .lrw → s.resvCount (keyHome key) < 256 → s.resvQueued (keyHome key) = false →
      (tblGet s.resv key = none → Reaches (.bankLrw n) s fun u =>
        u.req n = none ∧ (tblGet u.resv key).map (fun x => (x.holder, x.grid, x.waiters)) = some (r.tag, r.grid, []) ∧
        ∀ m c, r.from_ = none → r.res = some m → tblGet s.results m = some c →
          (tblGet u.results m).map (fun x => (x.ready, x.value)) = some (true, BitVec.ofNat 2048 (s.homeNat (keyLoc key) 8))) ∧
      (∀ x, tblGet s.resv key = some x → x.holder ≠ r.tag → (∀ y ∈ x.waiters, y.tag ≠ r.tag) →
        Reaches (.bankLrw n) s fun u => u.req n = none ∧ u.mem = s.mem ∧
          (tblGet u.resv key).map (fun z => (z.holder, z.waiters.length)) = some (x.holder, x.waiters.length + 1)) ∧
      (∀ x, tblGet s.resv key = some x → x.holder = r.tag →
        exec (.bankLrw n) s = .next (s.bankFault n r 0x262 r.gva))) ∧
    (∀ x, tblGet s.resv key = some x → x.holder = r.tag → x.waiters = [] →
      (r.kind = .sch → Memory.wf s.mem = true → key % 8 = 0 →
        (∀ i, i < 8 → s.inPlate (l.plus i) = true ∧ (l.plus i).key = some (key + i)) →
        Reaches (.bankSch n) s fun u => u.req n = none ∧ tblGet u.resv key = none ∧
          (∀ i, i < 8 → memGet u.mem (key + i) = byteOf r.a i) ∧
          ∀ k, (k < key ∨ key + 8 ≤ k) → memGet u.mem k = memGet s.mem k) ∧
      (r.kind = .rrel → Reaches (.bankRrel n) s fun u => u.req n = none ∧ tblGet u.resv key = none ∧ u.mem = s.mem)) ∧
    ((∀ x, tblGet s.resv key = some x → x.holder ≠ r.tag) →
      (r.kind = .sch → exec (.bankSch n) s = .next (s.bankFault n r 0x261 r.gva)) ∧
      (r.kind = .rrel → exec (.bankRrel n) s = .next (s.bankFault n r 0x261 r.gva))) ∧
    (r.from_ = none → ∀ c, s.bankFault n r c r.gva = (s.delReq n).faultDeferred r.grid c 5 r.slot r.gva) ∧
    (∀ f, r.from_ = some f → ∀ c, s.bankFault n r c r.gva = (s.delReq n).reply f 0 c)

/-- A location of 64 bytes at an aligned key of memory. -/
def Sys2Proof.Claims.BlockAt (s : State) (l : Loc) (k : Nat) : Prop :=
  k % 64 = 0 ∧ ∀ i, i < 64 → s.inPlate (l.plus i) = true ∧ (l.plus i).key = some (k + i)

/-- ENQ and DEQ at their bank (R229, R266), with nothing else under way at the queue, a valid descriptor of the strand's context
that is no guest queue, and its slot in a block of its own: a full queue makes an ENQ wait and a .nw form return all-ones; with
room, the packet is written to the slot of TAIL, which advances, and TAIL's old value is returned; an empty queue
makes a DEQ wait; otherwise the packet of HEAD and its sequence number are returned and HEAD advances. Nothing else of the
descriptor and no other byte of memory changes (for the DEQ, with no notification that a pager queue has dropped). -/
def Sys2Proof.Claims.GlobalQueuesAtBank : Prop :=
  ∀ (s : State) (n : Nat) (r : Req) (l : Loc) (key : Nat), AtBank s n r l 64 key → s.mayServe r = true →
    s.slotBusy key n = false → s.slotOwn n = false → tblGet s.queueWaits key = none →
    let q := s.qdesc l
    q.valid = true → q.mine r.who = true → q.guestq = false →
    (∀ nw, r.kind = .enq nw → q.full = true →
      (nw = true → exec (.bankEnq n) s = .next ((s.delReq n).answer r (BitVec.ofNat 2048 (2 ^ 64 - 1)))) ∧
      (nw = false → exec (.bankEnq n) s = .next (s.waitAt key n))) ∧
    (∀ nw, r.kind = .deq nw → q.empty = true → s.cfg.deviceQueue r.gva = false →
      (nw = true → exec (.bankDeq n) s = .next ((s.delReq n).answer r (BitVec.ofNat 2048 ((2 ^ 64 - 1) * 2 ^ 512)))) ∧
      (nw = false → exec (.bankDeq n) s = .next (s.waitAt key n))) ∧
    (∀ nw l' w slot, r.kind = .enq nw → q.full = false → gvaPkg (q.slot q.tail) = s.cfg.pkg →
      s.translateBehind r.station r.who (q.slot q.tail) .write = .ok l' w → s.recall l' 64 = none →
      Memory.wf s.mem = true → BlockAt s l key → BlockAt s l' slot → slot ≠ key →
      Reaches (.bankEnq n) s fun u => u.req n = none ∧ u.qdesc l = { q with tail := q.tail + 1 } ∧
        (∀ i, i < 64 → u.homeByte (l'.plus i) = r.data.extractLsb' (8 * i) 8) ∧
        (∀ m c, r.from_ = none → r.res = some m → tblGet s.results m = some c →
          (tblGet u.results m).map (fun x => (x.ready, x.value)) = some (true, q.tail.setWidth 2048)) ∧
        ∀ k, (k < slot ∨ slot + 64 ≤ k) → (k < key + 16 ∨ key + 24 ≤ k) → memGet u.mem k = memGet s.mem k) ∧
    (∀ nw l' w, r.kind = .deq nw → q.empty = false → gvaPkg (q.slot q.head) = s.cfg.pkg →
      s.cfg.deviceQueue r.gva = false → (∀ d : Nat, d < 4 → (s.die d).droppedNote = none) →
      s.translateBehind r.station r.who (q.slot q.head) .read = .ok l' w → (∀ a, l' ≠ .pcie a) → s.recall l' 64 false = none →
      s.readPoison l' 64 = none → Memory.wf s.mem = true → BlockAt s l key →
      Reaches (.bankDeq n) s fun u => u.req n = none ∧ u.qdesc l = { q with head := q.head + 1 } ∧
        (∀ m c, r.from_ = none → r.res = some m → tblGet s.results m = some c →
          (tblGet u.results m).map (fun x => (x.ready, x.value.toNat % 2 ^ 512, x.value.toNat / 2 ^ 512)) =
            some (true, s.homeNat l' 64 % 2 ^ 512, q.head.toNat)) ∧
        ∀ k, (k < key + 24 ∨ key + 32 ≤ k) → memGet u.mem k = memGet s.mem k)

/-- Phases and fences (R198, R199, R206, R218 to R221): a release merges the covered lines and holds the strand until they are at
their homes; an acquire discards the clean copies of the scope; QFENCE waits for its conditions; FENCEI discards the
instruction cache; PREF sends at most a fill. -/
def Sys2Proof.Claims.PhaseAndFenceEffects : Prop :=
  (∀ (s : State) (t : Strand) (sc : Scope) (e : Bool), s.curStrand = some t →
    let st := s.curStation
    let mark := (s.station st).cycAge
    exec (.phaseR sc e) s = .next ((s.mergeCovered st mark).hold (.release sc mark s.nextAge false)) ∧
    exec (.phaseRa sc e) s = .next ((s.mergeCovered st mark).hold (.release sc mark s.nextAge true)) ∧
    (Reaches (.phaseA sc e) s fun u => u.mem = s.mem ∧ WentOn u s.cur t ∧
      (u.station st).stores = (s.station st).stores ∧
      ∀ a c, tblGet (u.station st).clean a = some c →
        s.homedIn st sc t.who (BitVec.ofNat 64 (a / 64 * 64)) = false) ∧
    (t.hold = .none → ∀ m : BitVec 4,
      let done := s.qfenceDone t st m (s.station st).cpy.entered (s.station st).eng.entered s.nextId
      (done = true → exec (.qfence m e) s = .next s.advance) ∧
      (done = false → exec (.qfence m e) s =
        .next (s.hold (.qfence m (s.station st).cpy.entered (s.station st).eng.entered s.nextId)))) ∧
    (Reaches (.fencei e) s fun u => (u.station st).icache = [] ∧ u.mem = s.mem ∧ WentOn u s.cur t) ∧
    (∀ a, Passes s t 0 e [.s a] [] →
      exec (.prefHome a e) s = .next s.advance ∧
      (gvaOk s.cfg (s.sval t a) = false → exec (.prefL1 a e) s = .next s.advance) ∧
      (gvaOk s.cfg (s.sval t a) = true → SendsAs (.prefL1 a e) s t (.fill true)
        (BitVec.ofNat 64 ((s.sval t a).toNat / 64 * 64)) fun _ r => r.res = none))) ∧
  (∀ (s : State) (slot : Nat) (t : Strand) (sc : Scope) (age host : Nat) (acq : Bool),
    s.slot slot = some t → t.hold = .release sc age host acq → t.frozen = none →
    (s.releaseDone t (stationOf slot) sc age host = false →
      exec (.phaseReleaseComplete slot) s = .next (s.mergeCovered (stationOf slot) age)) ∧
    (s.releaseDone t (stationOf slot) sc age host = true → Reaches (.phaseReleaseComplete slot) s fun u =>
      u.mem = s.mem ∧ WentOn u slot t ∧ (u.station (stationOf slot)).stores = (s.station (stationOf slot)).stores))

/-- What the conditions of a release and of QFENCE require (R198, R206, R219), and what the merge of the covered lines does (R195). A
release of scope sc with marks age and host is over when no write older than its mark that is homed in the scope is in the write
set or on its way, no earlier far atomic of the strand that is homed there is outstanding, and, for system scope, no older
host-window store, nor one that may prove to be one, is unsent. -/
def Sys2Proof.Claims.PhaseConditions : Prop :=
  ∀ (s : State) (t : Strand) (st : Nat),
    (∀ (sc : Scope) (age host : Nat), s.releaseDone t st sc age host = true ↔
      (∀ x ∈ (s.station st).stores,
        ((x.kind = some 3 ∨ x.kind = none) → sc = .system → host ≤ x.age) ∧
        (x.kind ≠ some 3 → x.age < age → s.homedIn st sc x.who (BitVec.ofNat 64 (x.line * 64)) = false)) ∧
      (∀ e ∈ s.reqs, e.2.kind = .merge → e.2.station = st →
        (e.2.hostw = true → sc = .system → host ≤ e.2.age) ∧
        (e.2.hostw = false → e.2.age < age → s.homedIn st sc e.2.who e.2.gva = false)) ∧
      ∀ e ∈ s.reqs, e.2.kind.isAmo = true → e.2.tag = t.tag → s.homedIn st sc e.2.who e.2.gva = false) ∧
    (∀ mark : Nat, let u := s.mergeCovered st mark
      u.mem = s.mem ∧
      (∀ x ∈ (u.station st).stores, x.mergeable = true → mark ≤ x.age) ∧
      (∀ x ∈ (s.station st).stores, (x.mergeable = false ∨ ∀ y ∈ (s.station st).stores, y.line = x.line → y.mergeable = true → mark ≤ y.age) →
        x ∈ (u.station st).stores) ∧
      ∀ x ∈ (s.station st).stores, x.mergeable = true → x.age < mark → ∃ n r, tblGet u.reqs n = some r ∧ r.kind = .merge ∧
        r.station = st ∧ r.who = x.who ∧ r.gva = BitVec.ofNat 64 (x.line * 64) ∧ ∀ i, i < 64 → x.mask.getLsbD i = true → r.mask.getLsbD i = true) ∧
    (∀ (m : BitVec 4) (cmark mmark rmark : Nat), t.ahead 2 (s.station st).eng.halted = false →
      let noPub (src mark : Nat) : Prop :=
        ∀ e ∈ s.reqs, e.2.kind = .proofPub → e.2.src = src → e.2.station = st → mark ≤ e.2.age
      let g := (s.station st).eng
      (s.qfenceDone t st m cmark mmark rmark = true ↔
        (m.getLsbD 0 = true → (∀ i ∈ s.copyItems st, cmark ≤ i.n) ∧ noPub 3 cmark) ∧
        (m.getLsbD 1 = true → (∀ i ∈ g.queue ++ g.handlerQ, mmark ≤ i.n) ∧ (∀ d, g.drain = some d → mmark ≤ d.item.n) ∧ noPub 2 mmark) ∧
        (m.getLsbD 2 = true → s.cfg.guestPresent = true →
          (∀ p ∈ s.guest.sent, p.station = st → rmark ≤ p.id) ∧ noPub 7 rmark ∧
          ∀ e ∈ s.reqs, e.2.kind.isEnq = true → e.2.station = st → e.2.order < rmark → s.enqToGuest e.2 = false) ∧
        (m.getLsbD 3 = true →
          (∀ e ∈ s.strands, stationOf e.1 = st → ∀ q : Fin 8, (e.2.ports[q]).unsent rmark = false) ∧
          ∀ e ∈ s.reqs, e.2.kind.isStreamWrite = true → e.2.station = st → rmark ≤ e.2.age)))

/-! ### The copy engine (R238 to R244) and messages, the ready queue and the timer (R313 to R318) -/

/-- CPY, CPYT, CPYD and CPYS at issue (R238, R239), here with no completion action or with usable operands of one: the descriptor
of 64 aligned plate bytes is checked, and its captured entry joins the queue of 16; a full queue holds the strand. That the entries
of a trapped strand's handler have 16 places of their own is the model (log entry 38). -/
def Sys2Proof.Claims.CopyInstructionsAtIssue : Prop :=
  ∀ (s : State) (t : Strand) (op : CopyOp) (k : Compl) (a b c : SReg) (e : Bool),
    Passes s t 3 e [.s a] [] → t.loose = false → (k = .none ∨ s.gate 3 e [.s b, .s c] [] = none) →
    ∀ i : Instr, (op, i) ∈ [(CopyOp.cpy, Instr.cpy k a b c e), (.cpyt, .cpyt k a b c e), (.cpyd, .cpyd k a b c e),
      (.cpys, .cpys k a b c e)] →
    let st := s.curStation
    let sla := (s.sval t a).toNat % 2 ^ 32
    let w (o : Nat) : Word := BitVec.ofNat 64 (bytesNat 8 fun x => s.homeByte (.plate st (sla + o + x)))
    let g := (s.station st).cpy
    let ahead := t.ahead 3 g.halted
    let q := if ahead then g.handlerQ else g.queue
    (sla % 64 ≠ 0 → exec i s = .next (s.faultAt 0x098 (BitVec.ofNat 64 sla))) ∧
    (sla % 64 = 0 → s.plateSize st < sla + 64 → exec i s = .next (s.faultAt 0x25D (BitVec.ofNat 64 sla))) ∧
    (sla % 64 = 0 → sla + 64 ≤ s.plateSize st → (s.station st).protOk t.protKind false sla 64 = true →
      s.recall (.plate st sla) 64 false = none → s.readPoison (.plate st sla) 64 = none →
      (∀ code x, (s.copyDesc st sla).check s.cfg op (BitVec.ofNat 64 sla) = some (code, x) →
        exec i s = .next (s.faultAt code x)) ∧
      ((s.copyDesc st sla).check s.cfg op (BitVec.ofNat 64 sla) = none →
        (16 ≤ q.length → exec i s = .next (s.hold (.issue .copy))) ∧
        (q.length < 16 → Reaches i s fun u => u.mem = s.mem ∧ WentOn u s.cur t ∧ ∃ m : CItem,
          (u.station st).cpy = { g with entered := g.entered + 1, queue := if ahead then g.queue else g.queue ++ [m],
                                        handlerQ := if ahead then g.handlerQ ++ [m] else g.handlerQ } ∧
          m.op = op ∧ m.tag = t.tag ∧ m.n = g.entered ∧ m.src = w 0 ∧ m.dst = w 8 ∧ m.dig = w 16 ∧
          m.len = (w 24).toNat % 2 ^ 32 ∧ m.ssla = (w 24).getLsbD 32 ∧ m.dsla = (w 24).getLsbD 33 ∧
          m.gsla = (w 24).getLsbD 34 ∧ m.trap = t.cvmTrap)))

/-- The copy engine performs the entry at its head (R240 to R242): when every byte has been read and written, the entry is done
(for CPYS, with MISMATCH when the SHA-384 digest of the source is not the expected one); the completion then writes STATUS at the
descriptor's byte 32 and the entry leaves the queue. -/
def Sys2Proof.Claims.CopyEntriesPerformed : Prop :=
  (∀ (s : State) (st : Nat) (i : CItem), s.cpyHead st = some i → i.done = none → s.cpyWaits st = false → i.failed = none →
    s.cpyProt st i = none →
    (∀ j u, i.op = .cpy → s.cpyLines st (i.len + 1) i = .go j u → exec (.cpyPerform st) s = .next (u.cpyDone st j false)) ∧
    (∀ j u, i.op = .cpyt → s.cpyTiles st (i.len + 1) i = .go j u → exec (.cpytPerform st) s = .next (u.cpyDone st j false)) ∧
    (∀ j u j' u', i.op = .cpyd → s.cpyRead st false none i.len (i.len + 1) i = .go j u →
      u.cpyPutAll st (sha384 j.got) 49 j.put j = .go j' u' → exec (.cpydPerform st) s = .next (u'.cpyDone st j' false)) ∧
    (∀ j u j' u', i.op = .cpys → s.cpyLines st (i.len + 1) i = .go j u → u.cpyRead st true none 48 49 j = .go j' u' →
      exec (.cpysPerform st) s = .next (u'.cpyDone st j' (sha384 j'.got != j'.dgot)))) ∧
  (∀ (s : State) (st : Nat) (i : CItem) (bad : Bool), s.cpyHead st = some i → i.done = some bad →
    (bad = true ∨ i.act = .none) → i.desc + 40 ≤ s.plateSize st → i.desc % 64 = 0 → Memory.wf s.mem = true →
    (s.station st).protOk .engine true (i.desc + 32) 8 = true → s.readPoison (.plate st i.desc) 64 = none →
    s.recall (.plate st (i.desc + 32)) 8 = none →
    Reaches (.copyCompletion st) s fun u =>
      (bytesNat 8 fun x => u.homeByte (.plate st (i.desc + 32 + x))) = 2 ^ 63 + (if i.bst then 256 else 0) + (if bad then 1 else 0) ∧
      (u.station st).cpy = ((s.cpyPop st).station st).cpy)

/-- The copy engine of a station is about to perform the entry i, of a strand, from its beginning, and the guest's cache holds no
line. -/
def Sys2Proof.Claims.CopyReady (s : State) (st : Nat) (i : CItem) : Prop :=
  s.cpyHead st = some i ∧ i.done = none ∧ s.cpyWaits st = false ∧ s.cpyProt st i = none ∧ i.host = none ∧ i.failed = none ∧
  i.got = [] ∧ i.dgot = [] ∧ i.put = 0 ∧ s.guest.owned = [] ∧ s.guest.shared = [] ∧ Memory.wf s.mem = true

/-- What an entry within the plate puts at its destination (R89, R101, R239, R240), the ranges of source and destination being apart,
in the plate and not poisoned: CPY and CPYS the LEN source bytes, over however many lines, and CPYS then compares their SHA-384
digest with the 48 bytes at DIG; CPYD the 48 bytes of the digest of the source; CPYT, here of one tile, for each column the 13
bytes of the digits of its latents and at 832 on its scale. No other byte of memory changes and the entry is done. -/
def Sys2Proof.Claims.CopyMovesTheBytes : Prop :=
  (∀ (s : State) (st : Nat) (i : CItem), CopyReady s st i → i.ssla = true → i.dsla = true →
    let a := i.src.toNat % 2 ^ 32
    let b := i.dst.toNat % 2 ^ 32
    let g := i.dig.toNat % 2 ^ 32
    let n := i.op.srcLen i.len
    let m := i.op.dstLen i.len
    a + n ≤ s.plateSize st → b + m ≤ s.plateSize st → (a + n ≤ b ∨ b + m ≤ a) →
    s.readPoison (.plate st a) n = none → s.readPoison (.plate st b) m = none →
    let byte (u : State) (x : Nat) : Byte := u.homeByte (.plate st x)
    let bytes (x n : Nat) : List Byte := (List.range n).map fun j => byte s (x + j)
    let ends (i : Instr) (put : Nat → Byte) (differs : Bool) : Prop := Reaches i s fun u =>
      (∀ x, x < m → byte u (b + x) = put x) ∧
      (∀ k, (k < 2 ^ 52 + st * 2 ^ 23 + b ∨ 2 ^ 52 + st * 2 ^ 23 + b + m ≤ k) → memGet u.mem k = memGet s.mem k) ∧
      (u.cpyHead st).map (·.done) = some (some differs)
    (i.op = .cpy → ends (.cpyPerform st) (fun x => byte s (a + x)) false) ∧
    (i.op = .cpys → i.gsla = true → g + 48 ≤ s.plateSize st → (g + 48 ≤ b ∨ b + m ≤ g) → s.readPoison (.plate st g) 48 = none →
      ends (.cpysPerform st) (fun x => byte s (a + x)) (sha384 (bytes a n) != bytes g 48)) ∧
    (i.op = .cpyd → ends (.cpydPerform st) (fun x => (sha384 (bytes a n)).getD x 0) false) ∧
    (i.op = .cpyt → i.len = 1 → i.trap = false →
      let col (c : Nat) : Burin := burin ((List.range 64).map fun k => bytesNat 2 fun x => byte s (a + 128 * c + 2 * k + x))
      ends (.cpytPerform st) (fun x => BitVec.ofNat 8
        (if x < 832 then (col (x / 13)).bytes.getD (x % 13) 0 else (col (x - 832)).code)) false)) ∧
  (∀ ws : List Nat, ws.length = 64 → (∀ w ∈ ws, w < 2 ^ 16) → let B := burin ws
    B.bytes.length = 13 ∧ B.code < 256 ∧ ∀ k, k < 64 → B.bytes.getD (k / 5) 0 / 3 ^ (k % 5) % 3 = (burinDigit B.code (ws.getD k 0)).1)

/-- CPY between addresses of either kind (R37, R40, R240), here from within one line to within another: by SLA each lies in the
plate of the station, by GVA where the context's translation says, and the destination's bytes there become the source's. No other
byte of memory changes and the entry is done. -/
def Sys2Proof.Claims.CopyByEitherAddress : Prop :=
  ∀ (s : State) (st : Nat) (i : CItem) (la lb : Loc) (ka kb : Nat), CopyReady s st i → i.op = .cpy → 0 < i.len →
    let place (sla : Bool) (a : Word) (acc : Access) (l : Loc) (k : Nat) : Prop :=
      (if sla then l = .plate st (a.toNat % 2 ^ 32)
       else gvaPkg a = s.cfg.pkg ∧ ∃ w, s.translateBehind st (s.ctxWho i.ctx) a acc = .ok l w) ∧
      a.toNat % 64 + i.len ≤ 64 ∧ (∀ x, x < i.len → s.inPlate (l.plus x) = true ∧ (l.plus x).key = some (k + x)) ∧
      s.readPoison l i.len = none
    place i.ssla i.src .read la ka → place i.dsla i.dst .write lb kb → (ka + i.len ≤ kb ∨ kb + i.len ≤ ka) →
    Reaches (.cpyPerform st) s fun u =>
      (∀ x, x < i.len → u.homeByte (lb.plus x) = s.homeByte (la.plus x)) ∧
      (∀ k, (k < kb ∨ kb + i.len ≤ k) → memGet u.mem k = memGet s.mem k) ∧
      (u.cpyHead st).map (·.done) = some (some false)

/-- MSEND (R313) and the mailbox (R313, R314). -/
def Sys2Proof.Claims.MessagesAreSentAndReceived : Prop :=
  (∀ (s : State) (t : Strand) (a b : SReg) (e : Bool), Passes s t 0 e [.s a, .s b] [] → t.hold ≠ .msend →
    let w := s.sval t a
    let bad : Prop := w.toNat / 2 ^ 54 ≠ 0 ∨ w.toNat / 2 ^ 43 % 2 ^ 5 ≠ 0 ∨ w.toNat / 2 ^ 16 % 2 ^ 16 ≠ 0 ∨ w.toNat % 2 ^ 8 ≠ 0
    (bad → exec (.msend a b e) s = .next (s.faultAt 0x286 w)) ∧
    (¬ bad → s.msgReach t.ctx w = false → exec (.msend a b e) s = .next (s.faultAt 0x285 w)) ∧
    (¬ bad → s.msgReach t.ctx w = true → Reaches (.msend a b e) s fun u =>
      pcOf u s.cur = some t.pc ∧ holdOf u s.cur = some .msend ∧ u.mem = s.mem ∧
      ∃ m, (u.station (stationOfWord w)).mheld = (s.station (stationOfWord w)).mheld ++ [(t.tag, m)] ∧
        m.payload = s.sval t b ∧ m.mtag.toNat = w.toNat / 2 ^ 8 % 2 ^ 8 ∧ m.ps = w.getLsbD 42 ∧ m.xr = t.xr ∧ m.sender = t.tag)) ∧
  (∀ (s : State) (st k : Nat) (t : Strand) (m : Msg) (rest : List (Nat × Msg)),
    (s.station st).mheld = (t.tag, m) :: rest → t.tag ≠ 0 → s.slot k = some t → t.hold = .msend →
    (s.station st).mailbox.length < 16 → (s.station st).mrecv = [] →
    Reaches (.mailboxAccept st) s fun u => (u.station st).mheld = rest ∧
      (u.station st).mailbox = (s.station st).mailbox ++ [m] ∧ WentOn u k t ∧ u.mem = s.mem) ∧
  (∀ (s : State) (st : Nat), 16 ≤ (s.station st).mailbox.length → exec (.mailboxAccept st) s = .next s) ∧
  (∀ (s : State) (t : Strand) (d a : SReg) (e : Bool), Passes s t 0 e [.s a] [.s d] →
    let o := s.sval t a
    let S := s.station s.curStation
    (1 < o.toNat → exec (.mrecv d a e) s = .next (s.faultAt 0x286 o)) ∧
    (o = 1 → Writes (.mrecv d a e) s d (match S.mailbox with
      | [] => 0
      | m :: _ => BitVec.ofNat 64 (2 ^ 63 + (if m.ps then 2 ^ 62 else 0) + (if m.xr then 2 ^ 61 else 0) +
          S.mailbox.length * 2 ^ 56 + m.src.toNat / 2 ^ 16 * 2 ^ 48 + m.src.toNat % 2 ^ 10 * 2 ^ 32 +
          m.serial.toNat * 2 ^ 16 + m.mtag.toNat * 2 ^ 8))) ∧
    (o = 0 → S.mrecv = [] → S.mailbox = [] → Reaches (.mrecv d a e) s fun u =>
      WentOn u s.cur t ∧ (u.station s.curStation).mrecv.map (fun x => (x.tag, x.res)) = [(t.tag, s.nextId)] ∧
      (tblGet u.results s.nextId).map (·.ready) = some false) ∧
    (∀ m ms, o = 0 → S.mrecv = [] → S.mailbox = m :: ms → m.ps = false → Reaches (.mrecv d a e) s fun u =>
      WentOn u s.cur t ∧ (u.station s.curStation).mailbox = ms ∧ (u.station s.curStation).mrecv = [] ∧
      (tblGet u.results s.nextId).map (fun x => (x.ready, x.value)) = some (true, m.payload.setWidth 2048)))

/-- RQPUSH and RQPOP (R315), TMRSET and the timer (R317, R318). -/
def Sys2Proof.Claims.ReadyQueueAndTimer : Prop :=
  (∀ (s : State) (t : Strand) (d a b : SReg) (e : Bool), Passes s t 0 e [.s a, .s b] [.s d] →
    let lv := s.sval t a
    let st := s.curStation
    let full : Word := BitVec.allOnes 64
    (4 ≤ lv.toNat → exec (.rqpush d a b e) s = .next (s.faultAt 0x286 lv)) ∧
    (lv.toNat < 4 → s.sval t b = full → Writes (.rqpush d a b e) s d 2) ∧
    (∀ i : Fin 4, lv.toNat = i.val → s.sval t b ≠ full →
      (16 ≤ ((s.station st).rq[i]).length → Writes (.rqpush d a b e) s d 0) ∧
      (((s.station st).rq[i]).length < 16 → exec (.rqpush d a b e) s = .next
        (((s.modStation st fun S => { S with rq := S.rq.set i (S.rq[i] ++ [s.sval t b]) }).wakeSleepers st).putS s.cur d 1).advance))) ∧
  (∀ (s : State) (t : Strand) (d a : SReg) (e : Bool), Passes s t 0 e [.s a] [.s d] →
    let m := s.sval t a
    let rq := (s.station s.curStation).rq
    let on (i : Fin 4) : Prop := (m = 0 ∨ m.getLsbD i.val = true) ∧ rq[i] ≠ []
    (16 ≤ m.toNat → exec (.rqpop d a e) s = .next (s.faultAt 0x286 m)) ∧
    (m.toNat < 16 → (∀ i, ¬ on i) → Writes (.rqpop d a e) s d (BitVec.allOnes 64)) ∧
    (∀ (i : Fin 4) v vs, m.toNat < 16 → on i → (∀ j, j < i → ¬ on j) → rq[i] = v :: vs →
      exec (.rqpop d a e) s =
        .next ((s.modStation s.curStation fun S => { S with rq := S.rq.set i vs }).putS s.cur d v).advance) ∧
    (2 ^ 32 ≤ m.toNat → exec (.tmrset d a e) s = .next (s.faultAt 0x286 m)) ∧
    (m.toNat < 2 ^ 32 → exec (.tmrset d a e) s = .next
      ((s.putS s.cur d (t.timer.count.setWidth 64)).modCur fun t =>
        { t with timer := { count := m.setWidth 32, arm := decide (m ≠ 0), fired := false } }).advance)) ∧
  (∀ (s : State) (k : Nat) (t : Strand), s.slot k = some t → t.timer.arm = true → t.timer.count.toNat ≤ 1 →
    Reaches (.timerFire k) s fun u =>
      u.slot k = some { t with timer := { count := 0, arm := false, fired := true } } ∧ u.mem = s.mem)

/-! ### Proofs (R209, R210, R247 to R264) -/

/-- A request is answered: it stands replied, with success or a fault's code, and a value. -/
def Sys2Proof.Claims.Answered (u : State) (n : Nat) (ok : Bool) (code : Cause) (v : Word) : Prop :=
  ∃ r, u.req n = some r ∧ r.stage = .replied ok code ∧ (ok = true → r.a = v)

/-- The proof instructions at issue (R248, R258, R260 to R264, R371): a handle that does not resolve and a malformed count word fault;
a wait, test, take, publication, PRGEN or PRARM sends its request to the home and holds the strand until the reply: to the home of
this package, where a closed Bridge slice freezes the slot instead, or over the String. PRGEN of HANDLE needs no reply. A PRPUB first
merges the station's writes, and waits for the queues that bits 18 to 16 of its count word name and for the writes homed in the
scope of the proof (R209, R261; the conditions are those of PhaseConditions). -/
def Obligations.ProofInstructions : Prop :=
  ∀ (s : State) (t : Strand) (d a b : SReg) (e : Bool),
    let A := s.sval t a
    let B := s.sval t b
    let open_ (h : Word) : Prop := hPkg h = s.cfg.pkg ∧ s.fwPass t.who 2 (hDie h) (fun _ => hHome h) = true
    let sent (i : Instr) (k : ReqKind) (h count : Word) (stage : Stage) : Prop := Reaches i s fun u =>
      pcOf u s.cur = some t.pc ∧ u.mem = s.mem ∧ ∃ n r, holdOf u s.cur = some (.proof n) ∧ u.req n = some r ∧
        r.kind = k ∧ r.stage = stage ∧ r.gva = h ∧ r.b = count ∧ r.tag = t.tag
    let asks (i : Instr) (k : ReqKind) (h count : Word) : Prop :=
      (open_ h → sent i k h count .toDtu) ∧
      (hPkg h = s.cfg.pkg → ¬ open_ h → exec i s = .next (s.freezeSlot s.cur 0x2F0 h).advance) ∧
      (hPkg h ≠ s.cfg.pkg → s.broken (hPkg h) = false → sent i k h count .remote)
    let publishes (s1 : State) (w : Hold) : Prop := ∀ m c mm r h count age, w = .prpub m c mm r h count age →
      let ready := s1.qfenceDone t s.curStation m c mm r = true ∧ s1.writesHeld s.curStation (s.pubScope h) age 0 = true
      (¬ ready → exec (.prpub a b e) s = .next (s1.hold w)) ∧
      (ready → (open_ h → sent (.prpub a b e) .proofPub h count .toDtu) ∧
        (hPkg h ≠ s.cfg.pkg → s.broken (hPkg h) = false → sent (.prpub a b e) .proofPub h count .remote))
    (Passes s t 0 e [.s a] [.s (.x 0)] →
      (s.resolve t.grid A = none → exec (.prwait a e) s = .next (s.faultAt 0x202 A)) ∧
      (∀ h, s.resolve t.grid A = some h → asks (.prwait a e) .proofWait h 0)) ∧
    (Passes s t 0 e [.s a] [.s d] →
      (s.resolve t.grid A = none → exec (.prtest d a e) s = .next (s.faultAt 0x202 A) ∧
        exec (.prtake d a e) s = .next (s.faultAt 0x202 A)) ∧
      (∀ h, s.resolve t.grid A = some h →
        asks (.prtest d a e) .proofTest h 0 ∧ asks (.prtake d a e) .proofTake h 0)) ∧
    (Passes s t 0 e [.s a, .s b] [] → t.hold = .none →
      (s.resolve t.grid A = none → exec (.prpub a b e) s = .next (s.faultAt 0x202 A)) ∧
      (∀ h, s.resolve t.grid A = some h →
        (2 ^ 19 ≤ B.toNat → exec (.prpub a b e) s = .next (s.faultAt 0x204 A)) ∧
        (B.toNat < 2 ^ 16 → (s.station s.curStation).stores = [] → s.reqs = [] →
          asks (.prpub a b e) .proofPub h B) ∧
        (B.toNat < 2 ^ 19 →
          let m : BitVec 4 := BitVec.ofNat 4 (B.toNat / 2 ^ 16 % 4 + B.toNat / 2 ^ 18 % 2 * 8)
          publishes (s.mergeCovered s.curStation s.nextAge)
            (.prpub m (s.station s.curStation).cpy.entered (s.station s.curStation).eng.entered s.nextId h B s.nextAge)))) ∧
    (Passes s t 0 e [.s a, .s b] [] → ∀ m c mm r h count age, t.hold = .prpub m c mm r h count age →
      publishes s (.prpub m c mm r h count age)) ∧
    (Passes s t 0 e [.s a, .s b] [.s d] →
      (s.resolve t.grid A = none → exec (.prgen d a b e) s = .next (s.faultAt 0x202 A)) ∧
      (∀ h, s.resolve t.grid A = some h →
        (2 < B.toNat → exec (.prgen d a b e) s = .next (s.faultAt 0x204 A)) ∧
        (B = 1 → Writes (.prgen d a b e) s d h) ∧
        (B = 0 → asks (.prgen d a b e) .proofRead h 0) ∧ (B = 2 → asks (.prgen d a b e) .proofAdvance h 0)) ∧
      ((A.toNat / 2 ^ 62 = 0 ∨ B.toNat / 2 ^ 9 ≠ 0 ∨ B.toNat / 2 ^ 6 % 4 ≠ 0) →
        exec (.prarm d a b e) s = .next (s.faultAt 0x204 A)) ∧
      (∀ g x, s.gridOf t.grid = some g → B.toNat / 2 ^ 9 = 0 → B.toNat / 2 ^ 6 % 4 = 0 →
        g.proofs[B.toNat % 64]? = some x → A.toNat / 2 ^ 62 ≠ 0 →
        (handleOk s.cfg A = false → exec (.prarm d a b e) s = .next (s.faultAt 0x202 A)) ∧
        (handleOk s.cfg A = true → asks (.prarm d a b e) .prarm A B)))

/-- Proof operations at their home (R252 to R255), for a strand's request that the record admits and with nobody recorded at the
record. A publication of the current generation that is not published sets COUNT and TAKES and is answered; an old
generation fails; a later one is recorded. A wait is answered when the generation is published, a take when a take is
left; the last take of a limited publication advances the generation. A test reads whether the generation is published; PRGEN
reads word 0 or advances; PRARM's handle must not be of an old generation. A resident record is no memory; any other is written
back to the backing array (R251), where its home reads it again. -/
def Sys2Proof.Claims.ProofsAtHome : Prop :=
  ∀ (s : State) (n : Nat) (r : Req) (p : Proof), s.req n = some r → r.stage = .toDtu → r.src = 0 → r.from_ = none →
    hPkg r.gva = s.cfg.pkg →
    let key := hKey r.gva
    let d := genDelta (hGen r.gva) p.gen
    s.proofRefuse r.who key = none → s.proofGet key = some p → p.waiters = [] → (p.res = true ∨ Memory.wf s.mem = true) →
    let record (u : State) (q : Proof) : Prop := u.proofGet key = some q ∧ (p.res = true → u.mem = s.mem)
    let next : Proof := { p with gen := p.gen + 1, pub := false, count := 0, takes := 0, ring := false }
    let records (i : Instr) : Prop := s.waiterFree (hHome r.gva) = true → s.inboundProofs (hHome r.gva) = [] →
      Reaches i s fun u => (u.req n).map (·.stage) = some .waiting ∧
        record u { p with waiters := [{ req := n, kind := r.kind, gen := hGen r.gva }] }
    (r.kind = .proofPub → s.writesHeld r.station (s.pubScope r.gva) r.a.toNat 0 = true →
      (d = 0 → p.pub = false → Reaches (.proofPublishAtHome n) s fun u => Answered u n true (proofCode 0 0) 0 ∧
        record u { p with pub := true, count := r.b.setWidth 16, takes := r.b.setWidth 16, pubs := p.pubs + 1, ring := false }) ∧
      (d < 0 ∨ (d = 0 ∧ p.pub = true) → Reaches (.proofPublishAtHome n) s fun u => Answered u n false 0x201 0 ∧ u.proofs = s.proofs) ∧
      (0 < d → records (.proofPublishAtHome n))) ∧
    (r.kind = .proofWait →
      (d = 0 → p.pub = true → Reaches (.proofWaitAtHome n) s fun u => Answered u n true (proofCode 0 0) 0 ∧ u.proofs = s.proofs) ∧
      (d < 0 → Reaches (.proofWaitAtHome n) s fun u => Answered u n false 0x200 0 ∧ u.proofs = s.proofs) ∧
      (0 < d ∨ (d = 0 ∧ p.pub = false) → records (.proofWaitAtHome n))) ∧
    (r.kind = .proofTake →
      (d = 0 → p.pub = true → p.count = 0 → Reaches (.proofTakeAtHome n) s fun u =>
        Answered u n true (proofCode 0 0) (BitVec.allOnes 64) ∧ record u p) ∧
      (d = 0 → p.pub = true → p.count ≠ 0 → 1 < p.takes.toNat → Reaches (.proofTakeAtHome n) s fun u =>
        Answered u n true (proofCode 0 0) (BitVec.ofNat 64 (p.takes.toNat - 1)) ∧
        record u { p with takes := p.takes - 1 }) ∧
      (d = 0 → p.pub = true → p.count ≠ 0 → p.takes = 1 → Reaches (.proofTakeAtHome n) s fun u =>
        Answered u n true (proofCode 0 0) 0 ∧ record u next) ∧
      (d < 0 → Reaches (.proofTakeAtHome n) s fun u => Answered u n false 0x200 0 ∧ u.proofs = s.proofs) ∧
      (0 < d ∨ (d = 0 ∧ (p.pub = false ∨ (p.count ≠ 0 ∧ p.takes = 0))) → records (.proofTakeAtHome n))) ∧
    (r.kind = .proofTest →
      (0 ≤ d → Reaches (.proofTestAtHome n) s fun u =>
        Answered u n true (proofCode 0 0) (if d = 0 ∧ p.pub = true then 1 else 0) ∧ u.proofs = s.proofs) ∧
      (d < 0 → Reaches (.proofTestAtHome n) s fun u => Answered u n false 0x200 0 ∧ u.proofs = s.proofs)) ∧
    ((r.kind = .proofRead → Reaches (.proofTestAtHome n) s fun u => Answered u n true (proofCode 0 0) p.word0 ∧ u.proofs = s.proofs) ∧
      (r.kind = .proofAdvance → Reaches (.proofTestAtHome n) s fun u => Answered u n true (proofCode 0 0) p.word0 ∧ record u next) ∧
      (r.kind = .prarm → 0 ≤ d → Reaches (.proofTestAtHome n) s fun u => Answered u n true (proofCode 0 0) 0 ∧ u.proofs = s.proofs) ∧
      (r.kind = .prarm → d < 0 → Reaches (.proofTestAtHome n) s fun u => Answered u n false 0x200 0 ∧ u.proofs = s.proofs))

/-- A proof instruction's reply (R210, R260): the result is written and the strand goes on, or the instruction takes its precise
fault. When a waiter record is free, the oldest request of the slice's proof queue is performed afresh (R252). -/
def Sys2Proof.Claims.ProofReplies : Prop :=
  (∀ (s : State) (n k m : Nat) (r : Req) (t : Strand) (x : PRes) (ok : Bool) (code : Cause),
    s.req n = some r → r.stage = .replied ok code → s.slotOfTag r.tag = some k → s.slot k = some t → t.hold = .proof n →
    t.frozen = none → r.res = some m → tblGet s.results m = some x →
    (∀ i : Fin 16, ok = true →
      (r.kind = .proofTake ∨ r.kind = .proofTest ∨ r.kind = .proofRead ∨ r.kind = .proofAdvance) → x.dst = .s (.x i) → i ≠ 0 → Reaches (.proofReply n) s fun u =>
      cellS u k (.x i) = some { val := r.a } ∧ u.req n = none ∧ tblGet u.results m = none ∧ u.mem = s.mem ∧ WentOn u k t) ∧
    (∀ (i : Fin 16) (g : Grid) (el : PElem), ok = true → r.kind = .prarm → x.dst = .s (.x i) → i ≠ 0 →
      s.gridOf t.grid = some g → g.proofs[r.b.toNat % 64]? = some el → Reaches (.proofReply n) s fun u =>
        cellS u k (.x i) = some { val := el.handle } ∧ u.req n = none ∧ u.mem = s.mem ∧ WentOn u k t ∧
        ∃ g', u.gridOf t.grid = some g' ∧ ∀ j, g'.proofs[j]? =
          if j = r.b.toNat % 64 then some { el with handle := r.gva, take := r.b.getLsbD 8 } else g.proofs[j]?) ∧
    (ok = true → (r.kind = .proofPub ∨ r.kind = .proofWait) → x.dst = .none → Reaches (.proofReply n) s fun u =>
      u.req n = none ∧ u.mem = s.mem ∧ WentOn u k t) ∧
    (ok = false → Reaches (.proofReply n) s fun u =>
      u = ({ s.delReq n with results := tblDel s.results m, cur := k } : State).faultAt code r.gva)) ∧
  (∀ (s : State) (slice n : Nat) (r : Req), oldest (s.inboundProofs slice) = some (r.order, n) → s.req n = some r →
    s.waiterFree slice = true → (∀ e ∈ (s.proofAt n r true).reqs, e.2.kind ≠ .lrw) →
    Reaches (.waiterRecordFree slice) s fun u => u = s.proofAt n r true)

/-! ### Strands that start, move, sleep, meet and end (R20, R119, R303 to R312) -/

/-- SPAWN and SPAWNL (R304, R306): the record's address is checked, x[d] is marked empty, the request leaves for the launch unit,
and the strand goes on. -/
def Sys2Proof.Claims.SpawnInstructions : Prop :=
  ∀ (s : State) (t : Strand) (d a : SReg) (e : Bool), Passes s t 0 e [.s a] [.s d] →
    let addr := s.sval t a
    BankFaults (.spawn d a e) s addr 64 ∧ BankFaults (.spawnl d a e) s addr 64 ∧
    (addr.toNat % 64 = 0 → gvaOk s.cfg addr = true →
      SendsAs (.spawn d a e) s t .spawn addr (AwaitsS s d) ∧ SendsAs (.spawnl d a e) s t .spawnl addr (AwaitsS s d))

/-- A strand that takes a slot of a station: a sleeper for which a wake condition holds there goes on at once (R311). -/
def Sys2Proof.Claims.seated (S : Station) (t : Strand) : Strand :=
  if t.hold = .sleep ∧ S.wakes t = true then { t.advance with ran := 0 } else { t with ran := 0 }

/-- YIELD, SLEEP, CBAR and EXIT (R119, R310 to R312), here of a strand without bound ports. Which of several poisoned registers
EXIT reports is the model (log entry 76). -/
def Obligations.YieldSleepBarrierExit : Prop :=
  ∀ (s : State) (t : Strand) (e : Bool), s.curStrand = some t → t.hold = .none → (∀ q : Fin 8, t.ports[q] = .unbound) →
    let st := s.curStation
    (t.loose = false → s.timeSliced st = false → exec (.yield e) s = .next s.advance) ∧
    (t.loose = true → (s.station st).runq = [] → exec (.yield e) s = .next s.advance) ∧
    (∀ v rest, t.loose = true → (s.station st).runq = v :: rest → (s.station st).disabled = 0 →
      (s.ctx v.ctx).suspended = false → Reaches (.yield e) s fun u =>
        (u.station st).runq = rest ++ [t.advance] ∧ (∃ k, stationOf k = st ∧ u.slot k = some (seated (s.station st) v)) ∧ u.mem = s.mem) ∧
    ((s.station st).wakes t = true → exec (.sleep e) s = .next s.advance) ∧
    ((s.station st).wakes t = false → exec (.sleep e) s = .next (s.hold .sleep)) ∧
    (t.loose = true → exec (.cbar e) s = .next (s.illegal 0 7)) ∧
    (∀ c, t.loose = false → (s.station st).chord = some c → c.cbarCount + 1 < c.live.length → Reaches (.cbar e) s fun u =>
      (u.station st).chord = some { c with cbarCount := c.cbarCount + 1 } ∧ holdOf u s.cur = some (.cbar c.cbarGen) ∧
      pcOf u s.cur = some t.pc ∧ u.mem = s.mem) ∧
    (∀ c, t.loose = false → (s.station st).chord = some c → c.cbarCount + 1 = c.live.length → c.live.Nodup → t.tag ∈ c.live →
      Reaches (.cbar e) s fun u =>
        (u.station st).chord = some { c with cbarCount := 0, cbarGen := c.cbarGen + 1 } ∧ u.mem = s.mem ∧ WentOn u s.cur t ∧
        ∀ k v, k ≠ s.cur → s.slot k = some v → v.tag ∈ c.live → v.hold = .cbar c.cbarGen → WentOn u k v) ∧
    (s.resultsDue t.tag = true → exec (.exit e) s = .next (s.hold (.issue .results))) ∧
    (∀ p, s.resultsDue t.tag = false → s.exitPoison s.cur t = some p → exec (.exit e) s = .next (s.faultPoison p)) ∧
    (s.resultsDue t.tag = false → s.exitPoison s.cur t = none →
      (t.loose = true → Reaches (.exit e) s fun u => u.slot s.cur = none ∧ u.mem = s.mem ∧
        u.gridOf t.grid = (s.gridOf t.grid).map fun g => { g with loose := g.loose - 1 }) ∧
      (∀ c, t.loose = false → (s.station st).chord = some c → Reaches (.exit e) s fun u => u.slot s.cur = none ∧ u.mem = s.mem ∧
        (u.station st).chord.map (·.live) = some (c.live.filter (· ≠ t.tag))))

/-- MIGRATE (R20, R308) of a loose strand without bound ports: its slot is free, and its packet carries x1 to x9, its predicates and
its PC past the instruction, MSTICKY and SEED, what names the strand and its grid, and the events that wait for its boundary; its
other registers, ports and per-slot CSRs have their initial values. A chord strand's is illegal, whatever
its registers hold (R53); an address outside the package's section is the
fault 0x284. When the writes it left are at their homes, its far atomics are performed and the address is translated, the packet's strand takes a slot of its
destination, or a place in the run queue. A strand moved whole arrives likewise (R299), and a run queue's head takes a free slot
(R307). -/
def Obligations.MigrationAndArrival : Prop :=
  (∀ (s : State) (t : Strand) (a : SReg) (e : Bool), s.curStrand = some t → t.loose = false →
    exec (.migrate a e) s = .next (s.illegal 0 7)) ∧
  (∀ (s : State) (t : Strand) (a : SReg) (e : Bool), Passes s t 0 e (migrateSrcs a) [] →
    let addr := s.sval t a
    (t.loose = true → gvaOk s.cfg addr = false → exec (.migrate a e) s = .next (s.faultAt 0x082 addr)) ∧
    (t.loose = true → gvaOk s.cfg addr = true → s.resultsDue t.tag = false →
      (gvaPkg addr ≠ s.cfg.pkg → exec (.migrate a e) s = .next (s.faultAt 0x284 addr)) ∧
      (gvaPkg addr = s.cfg.pkg → s.sectionOn t.ctx (gvaDie addr) = [] → exec (.migrate a e) s = .next (s.faultAt 0x284 addr)) ∧
      (gvaPkg addr = s.cfg.pkg → s.sectionOn t.ctx (gvaDie addr) ≠ [] → (∀ q : Fin 8, t.ports[q] = .unbound) →
        Reaches (.migrate a e) s fun u => u.slot s.cur = none ∧ u.mem = s.mem ∧
          ∃ x r, u.transit = s.transit ++ [x] ∧ u.req x.req = some r ∧ r.kind = .migrate ∧ r.gva = addr ∧
            x.strand.tag = t.tag ∧ x.strand.pc = t.pc + 4 ∧ x.strand.p = t.p ∧ x.strand.loose = true ∧
            x.strand.ctx = t.ctx ∧ x.strand.world = t.world ∧ x.strand.grid = t.grid ∧ x.strand.gridCsr = t.gridCsr ∧
            x.strand.msticky = t.msticky ∧ x.strand.seed = t.seed ∧ x.strand.events = t.events ∧
            x.strand.mode = 0 ∧ x.strand.utvec = 0 ∧ x.strand.uepc = 0 ∧ x.strand.ucause = 0 ∧ x.strand.umask = 0 ∧
            x.strand.timer = { count := 0, arm := false, fired := false } ∧ x.strand.intrap = false ∧ x.strand.rep = none ∧ x.strand.hold = .none ∧
            (∀ q : Fin 8, x.strand.ports[q] = .unbound) ∧
            (∀ i : Fin 16, x.strand.x[i] = if i.val < 10 then { val := (t.x[i]).val } else { val := 0 }) ∧
            ∀ i : Fin 16, x.strand.v[i] = { val := 0 }))) ∧
  (∀ (s : State) (x : Transit) (r : Req) (l : Loc), s.transit = [x] → s.writesHeld x.src .ring x.mark 0 = true →
    let lands (dest : Nat) (u : State) : Prop := u.transit = [] ∧
      (∀ k, (s.station dest).runq = [] → (s.ctx x.strand.ctx).suspended = false → s.freeSlotOf dest = some k →
        u.slot k = some (seated (s.station dest) x.strand)) ∧
      (s.freeSlotOf dest = none → (u.station dest).runq = (s.station dest).runq ++ [x.strand])
    (x.migrate = true → s.amosDue x.strand.tag = false → s.req x.req = some r → r.stage = .translated l → s.inSection x.strand.ctx (l.home (gvaDie x.gva)) = true →
      Reaches (.migrateArrive x.strand.tag) s (lands (l.home (gvaDie x.gva)))) ∧
    (x.migrate = false → Reaches (.thermalTransferArrive x.strand.tag) s (lands x.dest))) ∧
  (∀ (s : State) (st k : Nat) (t : Strand) (rest : List Strand), (s.station st).runq = t :: rest → s.freeSlotOf st = some k →
    (s.ctx t.ctx).suspended = false → Reaches (.runQueueDispatch st) s fun u =>
      (u.station st).runq = rest ∧ u.slot k = some (seated (s.station st) t) ∧ u.mem = s.mem)

/-! ### The privileged instructions (R364 to R382) -/

/-- A privileged instruction of a strand that is not privileged is the illegal instruction PRIVILEGED, whatever its operands
(R53, R376). -/
def Sys2Proof.Claims.PrivilegeIsChecked : Prop :=
  ∀ (s : State) (t : Strand) (d a : SReg) (e : Bool) (sel : BitVec 2) (i6 : BitVec 6) (i4 : BitVec 4),
    s.curStrand = some t → t.priv = false →
    ∀ i ∈ [Instr.sret d a e, .dtinvPage a e, .dtinvCtx a e, .dtinvAll a e, .dtrep d e, .dtrepFail d a e, .dtqry sel d a e,
        .spls d a e, .splr d a e, .freeze a e, .thaw a e, .rgnw d a i6 e, .puw d a i4 e, .commit d a e],
      exec i s = .next (s.illegal 0 5)

/-- DTINV (R377) of a page, a context or everything, with no request under way: the covered translations are gone and the others
stay. DTREP (R364, R378) frees the entries of the fault buffer in the order in which they were taken, translates their requests afresh
in that order, which here all go on, merges of lines of their own, and reports their number; DTREP.FAIL reports the number of
requests failed. DTQRY (R379) reads the leaf (in the context's own world: the model, log entry 92), the fault buffer's words, or the
status. -/
def Obligations.TranslationControl : Prop :=
  ∀ (s : State) (t : Strand) (e : Bool), t.priv = true → t.hold = .none →
    let die := s.curDie
    (∀ (a : SReg) (scope : Nat) (i : Instr), Passes s t 0 e [.s a] [] →
      (scope, i) ∈ [(0, Instr.dtinvPage a e), (1, .dtinvCtx a e), (2, .dtinvAll a e)] →
      let w := s.sval t a
      (gvaPkg w ≠ s.cfg.pkg → s.broken (gvaPkg w) = false → Reaches i s fun u => pcOf u s.cur = some t.pc ∧ u.mem = s.mem ∧
        ∃ n r, holdOf u s.cur = some (.dtinv [] [n]) ∧ u.req n = some r ∧ r.kind = .dtu ∧ r.stage = .remote ∧ r.gva = w ∧
          r.a = BitVec.ofNat 64 scope) ∧
      (gvaPkg w = s.cfg.pkg → s.reqs = [] → s.guest.dir = [] → s.guest.invs = [] →
      let covered (x : TlbEntry) : Prop := (scope = 2 ∨ x.ctx = w.toNat / 2 ^ 57 % 64) ∧
        (scope = 0 → if x.big then x.page / 2048 = gvaPage w / 2048 else x.page = gvaPage w)
      Reaches i s fun u => WentOn u s.cur t ∧ u.mem = s.mem ∧
        ∀ x, x ∈ (u.die (gvaDie w)).tlb ↔ (x ∈ (s.die (gvaDie w)).tlb ∧ ¬ covered x))) ∧
    (∀ d, Passes s t 0 e [] [.s d] →
      exec (.dtrep d e) s = .next (((s.dtrep die).1.putS s.cur d (BitVec.ofNat 64 (s.dtrep die).2)).advance) ∧
      ((∀ i : Fin 8, (s.die die).fbuf[i] = none) → (s.die die).refusedBy = [] → Reaches (.dtrep d e) s fun u =>
        (∀ i : Fin 16, i ≠ 0 → d = .x i → cellS u s.cur d = some { val := 0 }) ∧ (u.die die).dropped = false ∧
        (u.die die).refusedCnt = 0 ∧ WentOn u s.cur t)) ∧
    (∀ D : Die, D.entries.Pairwise (fun a b => a.2.order ≤ b.2.order) ∧ ∀ i f, (i, f) ∈ D.entries ↔ D.fbuf[i] = some f) ∧
    (let ns := (s.die die).entries.flatMap (·.2.reqs)
     let u := (s.dtrep die).1
     ns.Nodup → (∀ e ∈ s.reqs, e.2.stage ≠ .toDtu) →
     (∀ n ∈ ns, ∃ r x l k, s.req n = some r ∧ r.kind = .merge ∧ gvaDie r.gva = die ∧ (s.die die).tlbHit r.ctx r.gva = some x ∧
       s.translate r.authority r.gva .write = .ok l k ∧ ∀ e ∈ s.reqs, Req.before e.2 r = false) →
     (s.dtrep die).2 = ns.length ∧ (∀ i : Fin 8, (u.die die).fbuf[i] = none) ∧ (u.die die).dropped = false ∧ u.mem = s.mem ∧
     ∀ i n, ns[i]? = some n → ∃ r l k, s.req n = some r ∧ s.translate r.authority r.gva .write = .ok l k ∧
       u.req n = some { r with stage := .translated l, joined := false, sent := s.nextId + i }) ∧
    (∀ d a, Passes s t 0 e [.s a] [.s d] →
      (∀ j : Fin 8, (s.sval t a).getLsbD j.val = true → (s.die die).fbuf[j] = none) →
      Writes (.dtrepFail d a e) s d 0) ∧
    (∀ (j : Fin 8) (f : FbEntry) n r d a, Passes s t 0 e [.s a] [.s d] → s.sval t a = BitVec.ofNat 64 (2 ^ j.val) →
      (s.die die).fbuf[j] = some f → f.reqs = [n] → s.req n = some r → r.kind = .fill false →
      r.from_ = none → exec (.dtrepFail d a e) s = .next
        ((((s.fbClear die j).delReq n).faultDeferred r.grid (causeOf 6 r.src 0) (masterOf r.src) r.slot r.gva).putS
          s.cur d 1).advance) ∧
    (∀ (sel : BitVec 2) d a, Passes s t 0 e [.s a] [.s d] →
      let w := s.sval t a
      let answers (v : Word) : Prop := Reaches (.dtqry sel d a e) s fun u => u.mem = s.mem ∧ WentOn u s.cur t ∧
        (tblGet u.results s.nextId).map (fun r => (r.ready, r.value)) = some (true, v.setWidth 2048)
      (sel = 3 → answers (s.die die).status) ∧
      (sel = 0 → gvaPkg w = s.cfg.pkg → s.queryLines w = [] → ∀ v, s.leafOf w = some v → answers v) ∧
      ((sel = 1 ∨ sel = 2) → (s.die die).fbuf[(Fin.ofNat 8 w.toNat)] = none → answers 0) ∧
      (∀ f, sel = 1 → (s.die die).fbuf[(Fin.ofNat 8 w.toNat)] = some f → answers f.word0) ∧
      (∀ f, sel = 2 → (s.die die).fbuf[(Fin.ofNat 8 w.toNat)] = some f → ∃ age : BitVec 32,
        answers (f.first.setWidth 32 ++ age)))

/-- SPLS and SPLR (R380) ask the spill engine, or return −1 and 0 when there is nothing to spill or restore. FREEZE and THAW (R381)
stop a master and let it go on from where it stood, but for an access that was refused; a KIND above 4 does nothing (the model, log
entry 98), and reserved bits of an operand are ignored (the model, log entry 43). RGNW and PUW (R365, R366) write the region table and a station's protection descriptor. COMMIT
(R382, R418) makes a trial slot active and reports whether it did. -/
def Sys2Proof.Claims.PrivilegedControl : Prop :=
  ∀ (s : State) (t : Strand) (e : Bool), t.priv = true →
    (∀ d a, Passes s t 0 e [.s a] [.s d] →
      let w := s.sval t a
      let k := 8 * stationOfWord w + w.toNat % 8
      let tag := w.toNat / 2 ^ 16 % 2 ^ 16
      let answers (i : Instr) (v : Word) : Prop := Reaches i s fun u => u.mem = s.mem ∧ WentOn u s.cur t ∧
        (tblGet u.results s.nextId).map (fun r => (r.ready, r.value)) = some (true, v.setWidth 2048)
      ((s.slot k).isSome = true → SendsAs (.spls d a e) s t .spls 0 fun u r => r.a = BitVec.ofNat 64 k ∧ AwaitsS s d u r) ∧
      (s.slot k = none → answers (.spls d a e) (BitVec.allOnes 64)) ∧
      (s.spilledAs tag = true → SendsAs (.splr d a e) s t .splr 0 fun u r =>
        r.a = BitVec.ofNat 64 k ∧ r.b = BitVec.ofNat 64 tag ∧ AwaitsS s d u r) ∧
      (s.spilledAs tag = false → answers (.splr d a e) 0) ∧
      (let i : Fin 2 := Fin.ofNat 2 w.toNat
       let yes : Prop := s.fw.run = i ∧ s.fw.slot[i] = .trial
       (yes → Reaches (.commit d a e) s fun u => u.fw.slot[i] = .active ∧ u.fw.slot[1 - i] = .standby ∧
         u.fw.minSvn = max s.fw.minSvn s.fw.svns[i] ∧ u.fw.run = s.fw.run ∧ u.mem = s.mem ∧ WentOn u s.cur t ∧
         ∀ j : Fin 16, j ≠ 0 → d = .x j → cellS u s.cur d = some { val := 1 }) ∧
       (¬ yes → Writes (.commit d a e) s d 0))) ∧
    (∀ a, Passes s t 0 e [.s a] [] →
      let w := s.sval t a
      let n := stationOfWord w
      let k := 8 * n + w.toNat % 8
      let kind := w.toNat / 2 ^ 60
      (∀ v, kind = 0 → k ≠ s.cur → s.slot k = some v → v.frozen = none → Reaches (.freeze a e) s fun u =>
        u.slot k = some { v with frozen := some 0x2F1 } ∧ u.mem = s.mem ∧ WentOn u s.cur t) ∧
      (kind = 1 → (s.station n).eng.frozen = none → Reaches (.freeze a e) s fun u =>
        (u.station n).eng = { (s.station n).eng with frozen := some 0x2F1, frozenGrid := s.chordGrid n } ∧ u.mem = s.mem ∧ WentOn u s.cur t) ∧
      (kind = 2 → (s.station n).cpy.frozen = none → Reaches (.freeze a e) s fun u =>
        (u.station n).cpy = { (s.station n).cpy with frozen := some 0x2F1, frozenGrid := s.chordGrid n } ∧ u.mem = s.mem ∧ WentOn u s.cur t) ∧
      (4 < kind → exec (.freeze a e) s = .next s.advance ∧ exec (.thaw a e) s = .next s.advance) ∧
      (∀ v, kind = 0 → k ≠ s.cur → s.slot k = some v → Reaches (.thaw a e) s fun u =>
        u.slot k = some { v with frozen := none } ∧ u.mem = s.mem ∧ WentOn u s.cur t) ∧
      (kind = 1 → Reaches (.thaw a e) s fun u => (u.station n).eng = { (s.station n).eng with
        frozen := none, frozenGrid := 0, drain := (s.station n).eng.drain.filter fun d => !d.refused } ∧ WentOn u s.cur t) ∧
      (kind = 2 → Reaches (.thaw a e) s fun u => (u.station n).cpy = { (s.station n).cpy with
        frozen := none, frozenGrid := 0, queue := (s.station n).cpy.queue.filter fun i => !i.refused,
        handlerQ := (s.station n).cpy.handlerQ.filter fun i => !i.refused } ∧ WentOn u s.cur t) ∧
      (kind = 4 → s.guest.st = .frozen → Reaches (.thaw a e) s fun u => u.guest.st = s.guest.was ∧ WentOn u s.cur t)) ∧
    (∀ d a, Passes s t 0 e [.s a, .s d] [] →
      let A := s.sval t a
      let D := s.sval t d
      let n := stationOfWord A
      (∀ i : BitVec 6, Reaches (.rgnw d a i e) s fun u => WentOn u s.cur t ∧ u.mem = s.mem ∧
        (u.die s.curDie).region[(Fin.ofNat 64 i.toNat)] = (A &&& 0xFF80FFFFFFFF0000, D &&& 0x0000FFFFFFFF0000) ∧
        ∀ j : Fin 64, j.val ≠ i.toNat → (u.die s.curDie).region[j] = (s.die s.curDie).region[j]) ∧
      (∀ i : BitVec 4, isBridge s.cfg n = true → exec (.puw d a i e) s = .next s.advance) ∧
      (∀ i : BitVec 4, isBridge s.cfg n = false → Reaches (.puw d a i e) s fun u => WentOn u s.cur t ∧ u.mem = s.mem ∧
        (u.station n).prot[(Fin.ofNat 16 i.toNat)] = D &&& 0xFC003FFF00003FFF ∧
        ∀ j : Fin 16, j.val ≠ i.toNat → (u.station n).prot[j] = (s.station n).prot[j]))

/-! ### The memory system's events (R193, R195, R203, R212, R245, R357 to R364) -/

/-- STORE_MERGE and MERGE_AT_HOME (R195, R203). When every store of the line may merge, its dirty bytes leave the write set in one
merge that carries them, and stay held as clean copies, also of a line that no fill installed, and a line without dirty bytes is
discarded (the model, log entry 13); the stores are those of one authority, as all of a station are between two
passings of the station to another context. At the home, the enabled bytes are written as one write; no other
byte of memory changes; a conflict with a far atomic marks the context and the line. -/
def Sys2Proof.Claims.StoresMergeAtHome : Prop :=
  (∀ (s : State) (st line : Nat) (w : Who), (∃ x ∈ (s.station st).stores, x.line = line) →
    (∀ x ∈ (s.station st).stores, x.line = line → x.mergeable = true ∧ x.who = w) →
    Reaches (.storeMerge st line) s fun u => u.mem = s.mem ∧
      (u.station st).stores = (s.station st).stores.filter (fun x => x.line != line) ∧
      ∃ r, u.req s.nextId = some r ∧ r.kind = .merge ∧ r.station = st ∧ r.gva = BitVec.ofNat 64 (line * 64) ∧
        ∀ i, i < 64 → (r.mask.getLsbD i = ((s.station st).dirtyByte (line * 64 + i)).isSome ∧
          ∀ b, (s.station st).dirtyByte (line * 64 + i) = some b →
            r.data.extractLsb' (8 * i) 8 = b ∧ ∃ c, tblGet (u.station st).clean (line * 64 + i) = some c ∧ c.val = b ∧
              ((∀ x ∈ (s.station st).stores, x.bad = false) → c.poison = none))) ∧
  (∀ (s : State) (st line : Nat), (∀ x ∈ (s.station st).stores, x.line ≠ line) → Reaches (.storeMerge st line) s fun u =>
    (u.station st).stores = (s.station st).stores ∧ ∀ i, i < 64 → tblGet (u.station st).clean (line * 64 + i) = none) ∧
  (∀ (s : State) (n : Nat) (r : Req) (l : Loc) (key : Nat), AtBank s n r l 64 key → r.kind = .merge → s.mayServe r = true →
    Memory.wf s.mem = true → key % 64 = 0 → (∀ i, i < 64 → s.inPlate (l.plus i) = true ∧ (l.plus i).key = some (key + i)) →
    Reaches (.mergeAtHome n) s fun u => u.req n = none ∧
      (∀ i, i < 64 → memGet u.mem (key + i) =
        if r.mask.getLsbD i then r.data.extractLsb' (8 * i) 8 else memGet s.mem (key + i)) ∧
      (∀ k, (k < key ∨ key + 64 ≤ k) → memGet u.mem k = memGet s.mem k) ∧
      ∀ c, tblGet s.ctxs r.ctx = some c → s.amoConflict r (r.gva.toNat / 64) key = true →
        (u.ctx r.ctx).amoconf = true ∧ key / 64 ∈ u.marked)

/-- FILL_AT_HOME (R193): the line as the home holds it becomes the station's clean copy, the instruction that lacks bytes of it
receives them, and its result is ready when none is left. The request is a station's of the package, and no byte of it stood in the
write set when it was made. -/
def Sys2Proof.Claims.FillsSupplyLines : Prop :=
  ∀ (s : State) (n m : Nat) (r : Req) (l : Loc) (key : Nat) (x : PRes),
    AtBank s n r l 64 key → r.kind = .fill false → s.mayServe r = true → r.install = true → r.src ≠ 2 →
    r.res = some m → tblGet s.results m = some x → (∀ e ∈ s.reqs, e.2.kind ≠ .merge) → r.from_ = none → r.held = 0 →
    s.recall l 64 false = none →
    (∀ i, i < 64 → s.inPlate (l.plus i) = true ∧ (l.plus i).key = some (key + i)) →
    let line := r.gva.toNat / 64
    Reaches (.fillAtHome n) s fun u => u.req n = none ∧ u.mem = s.mem ∧
      (∀ i, i < 64 → tblGet (u.station r.station).clean (line * 64 + i) = some { val := memGet s.mem (key + i) }) ∧
      tblGet (u.station r.station).kinds (gvaPage r.gva) = some l.kind ∧
      ∃ y, tblGet u.results m = some y ∧ y.pend = x.pend.filter (fun p => p.2 / 64 != line) ∧
        (y.ready = true ↔ ∀ p ∈ x.pend, p.2 / 64 = line) ∧
        y.value.toNat = (x.value.toNat + ((x.pend.filter fun p => p.2 / 64 == line).map fun p =>
          (memGet s.mem (key + p.2 % 64)).toNat * 2 ^ (8 * p.1)).sum) % 2 ^ 2048

/-- KIND_QUERY_REPLY (R212) gives the page's kind to the station and to its stores of the page. HOST_WINDOW_WRITE_SEND (R245) sends
the first host-window store as posted writes, or, when its page is another package's, as a merge to that package, and the store leaves
the write set; one store at a time is on its way to another package. -/
def Sys2Proof.Claims.PageKindsAndHostWrites : Prop :=
  (∀ (s : State) (n : Nat) (r : Req) (l : Loc), s.req n = some r → r.kind = .kindQuery → r.stage = .translated l →
    r.from_ = none →
    Reaches (.kindQueryReply n) s fun u => u.req n = none ∧ u.mem = s.mem ∧
      tblGet (u.station r.station).kinds (gvaPage r.gva) = some l.kind ∧
      (u.station r.station).stores = (s.station r.station).stores.map fun x =>
        if x.line / 1024 = gvaPage r.gva ∧ x.kind = none then { x with kind := some l.kind } else x) ∧
  (∀ (s : State) (st a : Nat) (k : Fin 4) (x : Store),
    (s.station st).stores.find? (fun x => x.kind == some 3 || x.kind == none) = some x → x.kind = some 3 →
    s.releaseAhead st x.age = false → s.hostAway st = false →
    let g : Word := BitVec.ofNat 64 (x.line * 64)
    (gvaPkg g ≠ s.cfg.pkg → Reaches (.hostWindowWriteSend st) s fun u =>
      (u.station st).stores = (s.station st).stores.filter (fun y => y.age != x.age) ∧ u.mem = s.mem ∧ u.pcie = s.pcie ∧
      ∃ r, u.req s.nextId = some r ∧ r.kind = .merge ∧ r.hostw = true ∧ r.stage = .toDtu ∧ r.gva = g ∧ r.mask = x.mask ∧ r.data = x.data) ∧
    (gvaPkg g = s.cfg.pkg → s.translateBehind st x.who g .write = .ok (.pcie a) k →
    Reaches (.hostWindowWriteSend st) s fun u =>
      (u.station st).stores = (s.station st).stores.filter (fun y => y.age != x.age) ∧ u.mem = s.mem ∧
      (x.mask = 0xFF → u.pcie = s.pcie ++
        [.write ((s.die (gvaDie g)).ctxEntry x.ctx).func.toNat a 8 (BitVec.ofNat 2048 (x.data.toNat % 2 ^ 64)) x.bad])))

/-- The DTU (R357 to R364): a request for an address of the package with no translation at hand starts a walk, which goes by the
context's entry as it stands then (R353); with one, it is translated; the end of a walk keeps the leaf and translates its
requests; an absent page puts the request into a free entry of the fault buffer, counts it and enqueues the notification of R363 at
the pager, or, with no free entry, a full request store or a full pager queue, refuses it to its station; a reissue sends the station's kept
requests again, in their order. A request for another package leaves on the String, or takes LINKFAIL where the ring is broken
on its way (R214, R406). -/
def Obligations.TranslationEvents : Prop :=
  (∀ (s : State) (n : Nat) (r : Req), s.req n = some r → r.stage = .toDtu → r.kind = .merge →
    let d := gvaDie r.gva
    let page := gvaPage r.gva
    (gvaPkg r.gva ≠ s.cfg.pkg → s.leavesLater r = false → s.broken (gvaPkg r.gva) = false → Reaches (.dtuTranslate n) s fun u =>
      u.req n = some { r with stage := .remote } ∧
      u.string = s.string ++ [.request (gvaPkg r.gva) (s.flitOf n r (.write true))]) ∧
    (gvaPkg r.gva ≠ s.cfg.pkg → s.leavesLater r = true → exec (.dtuTranslate n) s = .next s) ∧
    (gvaPkg r.gva ≠ s.cfg.pkg → s.leavesLater r = false → s.broken (gvaPkg r.gva) = true →
      exec (.dtuTranslate n) s = .next (s.faultReq n r (causeOf 14 r.src 1))) ∧
    (gvaPkg r.gva = s.cfg.pkg → s.reissuedBefore r = true → exec (.dtuTranslate n) s = .next s) ∧
    (gvaPkg r.gva = s.cfg.pkg → s.reissuedBefore r = false → (s.station r.station).refused = [] →
      (s.die d).fbFind r.ctx page = none → (s.die d).walking r.ctx page = false →
      (∀ p big l k, (s.die d).tlbHit r.ctx r.gva = some (p, big) → s.useLeaf d r.authority r.gva .write p big = .ok l k →
        Reaches (.dtuTranslate n) s fun u => u.mem = s.mem ∧
          u.req n = some (if s.sentLater r || s.pageHeld n r
            then { r with turn := 0, stage := .toDtu, joined := false, sent := if r.sent = 0 then s.nextId else r.sent }
            else { r with turn := 0, stage := .translated l, joined := false, sent := s.nextId })) ∧
      ((s.die d).tlbHit r.ctx r.gva = none → (s.die d).walks = [] → Reaches (.dtuTranslate n) s fun u =>
        u.req n = some { r with turn := 0, stage := .walking } ∧ u.mem = s.mem ∧
        (u.die d).walks = [{ ctx := r.ctx, page := page, entry := (s.die d).ctxEntry r.ctx, reqs := [n] }]))) ∧
  (∀ (s : State) (n d page : Nat) (r : Req) (en : CtxEntry), s.req n = some r → r.kind = .merge → d < 4 →
    (s.die d).walks = [{ ctx := r.ctx, page := page, entry := en, reqs := [n] }] →
    let g : Word := BitVec.ofNat 64 (page * 65536)
    let walk := s.walkBy d en { ctx := r.ctx, world := r.world } g
    s.walkLines d en { ctx := r.ctx, world := r.world } g = [] →
    (∀ p big l k, walk = .leaf p big → s.sentLater r = false → s.pageHeld n r = false → s.useLeaf d r.authority r.gva .write p big = .ok l k →
      Reaches (.walkComplete d r.ctx page) s fun u => (u.die d).walks = [] ∧
        ({ ctx := r.ctx, page := page, leaf := p, big := big } : TlbEntry) ∈ (u.die d).tlb ∧
        (u.req n).map (·.stage) = some (.translated l)) ∧
    (walk = .notPresent → (s.die d).fbFind r.ctx (gvaPage r.gva) = none → s.gridStopped r.grid = false →
      (∀ (i : Fin 8) lq wq lp wp kq kp, (s.die d).fbFree = some i → (s.die d).fbCount < 512 →
        let q := s.qdesc lq
        let f : FbEntry := { acc := r.acc, page := gvaPage r.gva, ctx := r.ctx, reqs := [n], first := first10 r.station,
                             order := (s.die d).fbOrder }
        s.translate fwWho s.cfg.pagerGva[(Fin.ofNat 4 d)] .queueOp = .ok lq wq → q.valid = true → q.guestq = false → q.full = false →
        s.translate fwWho (q.slot q.tail) .write = .ok lp wp → BlockAt s lq kq → BlockAt s lp kp → kp ≠ kq →
        s.readPoison lq 64 = none → Memory.wf s.mem = true →
        Reaches (.walkComplete d r.ctx page) s fun u => (u.die d).walks = [] ∧ (u.req n).map (·.stage) = some (.buffered i) ∧
          (u.die d).fbuf[i] = some f ∧ (∀ j : Fin 8, j ≠ i → (u.die d).fbuf[j] = (s.die d).fbuf[j]) ∧
          (u.die d).faultsCnt = (s.die d).faultsCnt + 1 ∧ u.qdesc lq = { q with tail := q.tail + 1 } ∧
          (bytesNat 64 fun x => u.homeByte (lp.plus x)) = 1 + i.val * 2 ^ 8 + r.ctx % 2 ^ 8 * 2 ^ 16 + r.acc.toNat * 2 ^ 24 +
            gvaPage r.gva * 2 ^ 16 * 2 ^ 64 + (f.word1 0).toNat * 2 ^ 128 ∧
          ∀ k, (k < kp ∨ kp + 64 ≤ k) → (k < kq + 16 ∨ kq + 24 ≤ k) → memGet u.mem k = memGet s.mem k) ∧
      (((s.die d).fbFree = none ∨ 512 ≤ (s.die d).fbCount ∨
          ∃ lq wq, s.translate fwWho s.cfg.pagerGva[(Fin.ofNat 4 d)] .queueOp = .ok lq wq ∧ (s.qdesc lq).full = true) →
        Reaches (.walkComplete d r.ctx page) s fun u => (u.die d).walks = [] ∧ (u.req n).map (·.stage) = some .refused ∧
          (u.die d).fbuf = (s.die d).fbuf ∧ (u.die d).dropped = true ∧
          (u.station r.station).refused = (s.station r.station).refused ++ [n]))) ∧
  (∀ (s : State) (st n : Nat) (r : Req), (s.station st).reissue = true → (s.station st).refused = [n] → s.req n = some r →
    Reaches (.stationReissue st) s fun u => (u.station st).refused = [] ∧ (u.station st).reissue = false ∧
      u.req n = some { r with stage := .toDtu, turn := s.nextId + 1 } ∧ u.mem = s.mem)

/-! ### Launches, courses, chords and grids (R273 to R289, R304 to R307, R367) -/

/-- LAUNCH_UNIT_ACCEPT (R304, R306, R307). A SPAWN whose record is read and whose launch is accepted answers with its SERIAL, and
one that is refused with its cause; a SPAWNL for a named station of the section gives that station a new loose strand
with the record's entry, SEED and x1 to x5. -/
def Sys2Proof.Claims.LaunchUnitAccepts : Prop :=
  (∀ (s s1 : State) (n : Nat) (r : Req) (bs : List Byte), s.req n = some r → r.kind = .spawn →
    s.unitRead (r.unit n) r.gva 64 = .ok (bs, none) s1 →
    let w (o : Nat) : Word := wordOf bs o
    let bad : Prop := (w 32).toNat % 16 ≠ 0 ∨ (w 40).toNat % 8 ≠ 0 ∨ (w 56).toNat / 2 ^ 16 ≠ 0
    let a : LArgs := { kblk := w 0, arg0 := w 8, arg1 := w 16, bind := w 24, crec := w 32, sig := w 40,
                       launcher := .spawn (w 48) (w 56), pipe := none, spawn := true, ids := [] }
    (bad → exec (.launchUnitAccept n) s = .next (s.spawnAnswer n r (spawnStatus true 0x275 0))) ∧
    (∀ g s2, ¬ bad → s1.acceptLaunch (r.unit n) a = .ok (some g) s2 →
      exec (.launchUnitAccept n) s = .next (s2.spawnAnswer n r (spawnStatus false 0 (BitVec.ofNat 16 g)))) ∧
    (∀ c x, ¬ bad → c ≠ 0 → s1.acceptLaunch (r.unit n) a = .fail c x →
      exec (.launchUnitAccept n) s = .next (s.spawnAnswer n r (spawnStatus true c 0)))) ∧
  (∀ (s s1 : State) (n m k : Nat) (r : Req) (bs : List Byte) (c : PRes), s.req n = some r → r.kind = .spawnl → r.res = some m →
    s.unitRead (r.unit n) r.gva 64 = .ok (bs, none) s1 →
    let w (o : Nat) : Word := wordOf bs o
    let st := stationOfWord (w 8)
    (w 0).toNat % 4 = 0 → (w 8).toNat / 2 ^ 42 = 0 → (w 8).toNat % 2 ^ 32 = 0 →
    s1.inSection r.ctx st = true → s1.looseOn r.ctx (dieOf st) < 4096 → (s1.station st).runq = [] →
    (s1.ctx r.ctx).suspended = false → s1.freeSlotOf st = some k → tblGet s1.results m = some c →
    Reaches (.launchUnitAccept n) s fun u => u.req n = none ∧ u.mem = s1.mem ∧
      (tblGet u.results m).map (fun x => (x.ready, x.value)) = some (true, 0) ∧
      ∃ t, u.slot k = some t ∧ t.pc = w 0 ∧ t.seed = w 16 ∧ t.loose = true ∧ t.priv = false ∧ t.ctx = r.ctx ∧ t.grid = r.grid ∧
        ∀ i : Fin 16, (t.x[i]).val = if 1 ≤ i.val ∧ i.val ≤ 5 then w (16 + 8 * i.val) else 0)

/-- COURSE_PLACE (R284) gives each station of the rectangle a chord of the grid; CHORD_ARMED and CHORD_DISPATCH (R285) arm a chord
whose registrations are answered, and start its strands with the grid's entry, arguments and MODE, once what the station's earlier
strands wrote is at its homes (R201); a restore due on a die of the stations comes before the placement. Here the grid has no
proofs, no plate image, no ports and one stage, and the station no disabled slot. -/
def Sys2Proof.Claims.CoursesAndChordsStart : Prop :=
  (∀ (s : State) (die gk : Nat) (g : Grid) (l : List Nat), s.restoreDue die = false → s.nextPlace die = some (gk, g, [l]) →
    s.restoreFirst [l] = false → s.gridOf gk = some g → g.proofs = [] → g.pimg = 0 → g.st = .placing →
    Reaches (.coursePlace die) s fun u => u.mem = s.mem ∧
      (∀ st ∈ l, ∃ c, (u.station st).chord = some c ∧ c.grid = gk ∧ c.course = g.placed ∧ c.n = g.strands ∧ c.st = .armed s.clock) ∧
      (u.gridOf gk).map (fun g => (g.placed, g.st)) =
        some (g.placed + 1, if g.placed + 1 = g.courses then .running else .placing)) ∧
  (∀ (s : State) (die : Nat), (s.restoreDue die = true ∨ s.nextPlace die = none ∨
      ∃ gk g ls, s.nextPlace die = some (gk, g, ls) ∧ ∃ l ∈ ls, ∃ st ∈ l, s.restoreDue (dieOf st) = true) →
    exec (.coursePlace die) s = .next s) ∧
  (∀ (s : State) (gk no st : Nat) (c : Chord), s.chordAt gk no = some (st, c) → c.st = .pending → c.regs = [] →
    Reaches (.chordArmed gk no) s fun u => (u.station st).chord = some { c with st := .armed s.clock } ∧ u.mem = s.mem) ∧
  (∀ (s : State) (die st : Nat) (p a x : Nat) (c : Chord) (g : Grid), firstArmed (s.armedOn die) = some (p, a, x, st) →
    (s.station st).chord = some c → s.gridOf c.grid = some g → g.ports = [] → g.stages = 1 → (s.station st).disabled = 0 →
    (s.writesHeld st .ring s.nextAge 0 = false → exec (.chordDispatch die) s = .next (s.releaseAll st)) ∧
    (s.writesHeld st .ring s.nextAge 0 = true → Reaches (.chordDispatch die) s fun u => u.mem = s.mem ∧ (u.station st).eng = {} ∧
      (u.station st).chord.map (·.st) = some .resident ∧
      ∀ j k, j < c.n → (s.roomOf st)[j]? = some k → ∃ t, u.slot k = some t ∧ t.pc = g.entry ∧ t.grid = c.grid ∧ t.ctx = g.ctx ∧
        t.world = g.world ∧ t.priv = false ∧ t.loose = false ∧ t.intrap = false ∧ t.mode = g.mode ∧ t.seed = g.seed ∧
        t.index = Fin.ofNat 8 j ∧ (t.x[(1 : Fin 16)]).val = g.arg0 ∧ (t.x[(2 : Fin 16)]).val = g.arg1))

/-- CHORD_END, GRID_COMPLETE and GRID_FAULTED (R288, R289). A chord whose strands have ended and whose engine and writes are quiet
leaves its station; a grid whose chords have all ended completes, tells the ring's other packages, and is done when nothing of it is under way; a grid in
ENDING with nothing under way is FAULTED and its stations are free. -/
def Sys2Proof.Claims.ChordsAndGridsEnd : Prop :=
  (∀ (s : State) (st : Nat) (c : Chord) (g : Grid), (s.station st).chord = some c → c.st = .ending → s.reqs = [] →
    (s.station st).eng = {} → (s.station st).stores = [] → s.gridOf c.grid = some g →
    Reaches (.chordEnd st) s fun u => (u.station st).chord = none ∧ u.mem = s.mem ∧
      u.gridOf c.grid = some { g with ended := g.ended + 1 }) ∧
  (∀ (s : State) (gk : Nat) (g : Grid), s.gridOf gk = some g →
    (g.st = .running → g.placed = g.courses → g.ended = g.chords → g.loose = 0 → Reaches (.gridComplete gk) s fun u =>
      (u.gridOf gk).map (·.st) = some .completing ∧ u.mem = s.mem) ∧
    (g.st = .running → (g.placed ≠ g.courses ∨ g.ended ≠ g.chords ∨ g.loose ≠ 0) → exec (.gridComplete gk) s = .next s) ∧
    (g.st = .completing → s.gridBusy gk = false → 1 < s.cfg.ringN → g.told = false → Reaches (.gridComplete gk) s fun u =>
      u.gridOf gk = some { g with told := true } ∧ u.mem = s.mem ∧
      ∃ l, u.string = s.string ++ l ∧ ∀ x ∈ l, ∃ p f, x = .request p f ∧ p ≠ s.cfg.pkg ∧ f.op = .gridEnd false ∧ f.grid = gk) ∧
    (g.st = .completing → s.gridBusy gk = false → (s.cfg.ringN ≤ 1 ∨ g.told = true) →
      (∀ e ∈ s.reqs, e.2.grid = gk → e.2.waitsAway = false) → g.bound = [] → Reaches (.gridComplete gk) s fun u =>
      (u.gridOf gk).map (·.st) = some .done ∧ u.mem = s.mem) ∧
    (g.st = .ending → g.hold = false → s.reqs = [] → (∀ e ∈ s.stations, e.2.stores = []) → s.guest.sent = [] → g.bound = [] →
      Reaches (.gridFaulted gk) s fun u => (u.gridOf gk).map (·.st) = some .faulted ∧ u.mem = s.mem ∧
        ∀ st c, (u.station st).chord = some c → c.grid ≠ gk) ∧
    (g.st = .ending → g.hold = true → exec (.gridFaulted gk) s = .next s))

/-! ### Host queues (R273 to R283) -/

/-- The registers of a host queue while the package is up (R273, R274): a tail within the ring is taken and an idle queue becomes
active; one beyond it faults the queue with TAILRANGE; DISABLE, ENABLE and RESET change the state as R273 says. The mark kept with
the tail is what the commands' reading waits for (R201); a RESET gives up the open buffers (the model, log entry 45). -/
def Sys2Proof.Claims.HostQueueRegisters : Prop :=
  ∀ (s : State) (q : Nat), s.boot.up = true →
    let Q := s.queue q
    (∀ v, v ≠ Q.tail →
      let fits : Prop := (v - Q.tail).toNat ≤ 2 ^ Q.log2.toNat ∧ (v - Q.head).toNat ≤ 2 ^ Q.log2.toNat
      (fits → exec (.queueTailWrite q v) s =
        .next (s.setQueue q { Q with tail := v, tailMark := s.nextId, st := if Q.st = .idle then .active else Q.st })) ∧
      (¬ fits → Q.st ≠ .disabled → Reaches (.queueTailWrite q v) s fun u =>
        (u.queue q).st = .faulted ∧ (u.queue q).cause = 0x270 ∧ (u.queue q).tail = Q.tail ∧ (u.queue q).faultidx = v)) ∧
    (Q.st = .idle ∨ Q.st = .active ∨ Q.st = .waiting → exec (.queueDisable q) s = .next (s.setQueue q { Q with st := .disabled })) ∧
    (Q.st = .disabled ∨ Q.st = .faulted → exec (.queueReset q) s = .next (s.setQueue q { Q with
      st := .disabled, head := Q.tail, wait := none, polled := false, bufs := []
      cmds := Q.cmds.filter fun c => !(Q.bufs.any fun b => b.cmd == c.1) })) ∧
    (Q.st = .disabled → s.queueWorldOk q = true → 6 ≤ Q.log2.toNat → Q.log2.toNat ≤ 16 → Q.base.toNat % 4096 = 0 →
      exec (.queueEnable q) s = .next (s.setQueue q { Q with st := if Q.bufs = [] ∧ Q.head = Q.tail then .idle else .active })) ∧
    (Q.st = .disabled → s.queueWorldOk q = true → (Q.log2.toNat < 6 ∨ 16 < Q.log2.toNat ∨ Q.base.toNat % 4096 ≠ 0) →
      exec (.queueEnable q) s = .next (s.queueFault q 0x272 Q.head 0)) ∧
    (Q.st = .disabled → s.queueWorldOk q = false → exec (.queueEnable q) s = .next s)

/-- The front end reads a well-formed command of an operation whose fence is open: its number, its address and its words. -/
def Sys2Proof.Claims.ReadsCmd (s s' : State) (q op : Nat) (a : Word) (c : Cmd) : Prop :=
  ∃ bs, s.readCmd q = some (a, .ok (bs, none) s') ∧ c = cmdOf bs (s.queue q) ∧ c.op = op ∧ s.cmdBad q c = false ∧
    (c.fence = true → (s.queue q).fenceOpen = true)

/-- The commands of a host queue (R274 to R279, R282): LAUNCH and LAUNCHP are accepted, or refused with a cause; CALLIB opens a
buffer, or faults at level 4; SIGNAL is complete at once; COPY joins the queue of the Bridge station's copy engine; WAIT on a
timeline goes on when it is met and holds the queue otherwise; a malformed command, or one of no operation, faults the
queue. -/
def Sys2Proof.Claims.HostCommands : Prop :=
  ∀ (s s' : State) (q : Nat) (a : Word) (c : Cmd),
    let n := (s.queue q).nextCmd
    let args (pipe : Bool) (ids : List Nat) : LArgs :=
      { kblk := c.word 0, arg0 := c.word 1, arg1 := c.word 2, bind := c.word 3, crec := c.word 4, sig := c.sig,
        launcher := .queue q n, pipe := some pipe, spawn := false, ids := ids }
    (∀ ids : List Nat, ReadsCmd s s' q 1 a c →
      (∀ g s2, s'.acceptLaunch (s'.queueWho q) (args false ids) = .ok (some g) s2 →
        exec (.launch q ids) s = .next (s2.consume q { c with grid := g })) ∧
      (∀ code x, code ≠ 0 → s'.acceptLaunch (s'.queueWho q) (args false ids) = .fail code x →
        exec (.launch q ids) s = .next (s'.consume q { c with ready := true, refused := true, cause := code, addr := 0 }))) ∧
    (∀ ids : List Nat, ReadsCmd s s' q 2 a c →
      (∀ g s2, s'.acceptLaunch (s'.queueWho q) (args true ids) = .ok (some g) s2 →
        exec (.launchp q ids) s = .next (s2.consume q { c with grid := g })) ∧
      (∀ code x, code ≠ 0 → s'.acceptLaunch (s'.queueWho q) (args true ids) = .fail code x →
        exec (.launchp q ids) s = .next (s'.consume q { c with ready := true, refused := true, cause := code, addr := 0 }))) ∧
    (ReadsCmd s s' q 3 a c →
      (4 ≤ c.level → exec (.callib q) s = .next ((s'.unitEnd q).queueFault q 0x271 (s'.queue q).ringIdx a)) ∧
      (c.level < 4 → Reaches (.callib q) s fun u => ∃ b rest, (u.queue q).bufs = b :: rest ∧ b.addr = c.word 0 ∧
        b.count = (c.word 1).toNat ∧ b.next = 0 ∧ b.cmd = n ∧ (u.queue q).st = .active)) ∧
    (ReadsCmd s s' q 4 a c → exec (.signal q) s = .next (s'.consume q { c with ready := true })) ∧
    (ReadsCmd s s' q 6 a c → (s'.station (s'.queueStation q)).cpy.queue.length < 16 →
      rangeBad s'.cfg false (c.word 0) (c.word 2).toNat = none → rangeBad s'.cfg false (c.word 1) (c.word 2).toNat = none →
      Reaches (.copy q) s fun u => ∃ m, (u.station (s'.queueStation q)).cpy.queue =
          (s'.station (s'.queueStation q)).cpy.queue ++ [m] ∧ m.op = .cpy ∧ m.src = c.word 0 ∧ m.dst = c.word 1 ∧
          m.len = (c.word 2).toNat ∧ m.host = some (q, n)) ∧
    (ReadsCmd s s' q 5 a c → c.word 0 = 0 →
      let met : Prop := 0 ≤ ((s'.queue (c.word 1).toNat).timeline - c.word 2).toInt
      (met → exec (.wait q) s = .next (s'.consume q { c with ready := true })) ∧
      (¬ met → Reaches (.wait q) s fun u => (u.queue q).wait = some n ∧ (u.queue q).st = .waiting ∧ u.mem = s'.mem)) ∧
    (∀ bs, s.readCmd q = some (a, .ok (bs, none) s') → (cmdOf bs (s.queue q)).op = 0 ∨ 7 < (cmdOf bs (s.queue q)).op →
      exec (.badcmd q) s = .next ((s.unitEnd q).queueFault q 0x272 (s.queue q).ringIdx a)) ∧
    (∀ bs p, s.readCmd q = some (a, .ok (bs, some p) s') →
      exec (.badcmd q) s = .next ((s.unitEnd q).queueFault q 0x1F0 (s.queue q).ringIdx a))

/-- Waits and completion (R279, R282): a signal word that is not above the operand is noted, a met condition ends the WAIT, and the
queue consumes again; a completed command without record, signal or timeline leaves the queue, raising its interrupt
when its header asks for one. -/
def Sys2Proof.Claims.HostWaitsAndCompletion : Prop :=
  (∀ (s s' : State) (q n : Nat) (c : Cmd) (bs : List Byte), (s.queue q).waiting = some (n, c) → c.word 0 = 1 → s.boot.up = true →
    s.unitRead { s.queueWho q with own := cmdOwn q n } (c.word 1) 8 = .ok (bs, none) s' →
    Reaches (.waitSignalPoll q) s fun u => u.mem = s'.mem ∧
      ((wordOf bs 0).toInt ≤ (c.word 2).toInt → (u.queue q).polled = true) ∧
      ((c.word 2).toInt < (wordOf bs 0).toInt → u.queues = s'.queues)) ∧
  (∀ (s : State) (q n : Nat) (c : Cmd), (s.queue q).waiting = some (n, c) → (s.queue q).st = .waiting →
    ((c.word 0 = 0 ∧ s.timelineMet c = true) ∨ (c.word 0 = 1 ∧ (s.queue q).polled = true)) →
    Reaches (.waitConditionMet q) s fun u => (u.queue q).wait = none ∧ (u.queue q).st = (s.queue q).run ∧ u.mem = s.mem ∧
      ∃ c', tblGet (u.queue q).cmds n = some c' ∧ c'.ready = true) ∧
  (∀ (s : State) (q n : Nat) (c : Cmd), tblGet (s.queue q).cmds n = some c → c.op = 4 → c.ready = true → s.boot.up = true →
    c.sig = 0 → c.tlv = 0 → c.grid = 0 → Reaches (.commandComplete q n) s fun u =>
      tblGet (u.queue q).cmds n = none ∧ u.mem = s.mem ∧
      u.pcie = s.pcie ++ (if c.header.getLsbD 9 then [.msix (s.queueFunc q) (c.header.toNat / 2 ^ 16 % 2 ^ 11)] else [])) ∧
  (∀ (s : State) (q n : Nat) (c : Cmd), tblGet (s.queue q).cmds n = some c → c.op ≠ 3 → c.ready = false →
    exec (.commandComplete q n) s = .next s)

/-! ### Contexts, spills, heat, waits (R292 to R299, R354, R402, R441) -/

/-- CTXCMD (R295, R354, R369): SUSPEND begins with the context suspended and busy and its queues SUSPENDED, and ends with status 2
once nothing of the context is left on a station; RESUME ends with status 1; MIGRATE moves a suspended section, or is refused
with error 2; RELEASE ends the inspection hold of every grid of the context. -/
def Sys2Proof.Claims.ContextCommands : Prop :=
  (∀ (s : State) (c : Nat), s.hasCtx c = true → (s.ctx c).busy = false → (s.ctx c).parked = true → Reaches (.suspend c) s fun u =>
    (u.ctx c).suspended = true ∧ (u.ctx c).busy = true ∧ (u.ctx c).op = .suspend ∧ u.strands = s.strands ∧ u.mem = s.mem ∧
      ∀ q x, tblGet s.queues q = some x → s.queueCtx q = c → (tblGet u.queues q).map (·.st) = some (match x.st with
        | .idle => .suspended 1
        | .active => .suspended 2
        | .waiting => .suspended 3
        | y => y)) ∧
  (∀ (s : State) (c : Nat), s.hasCtx c = true → (s.ctx c).busy = true → (s.ctx c).op = .suspend → s.suspendedWhole c = true →
    Reaches (.suspend c) s fun u => (u.ctx c).status = 2 ∧ (u.ctx c).busy = false ∧ (u.ctx c).suspended = (s.ctx c).suspended ∧
      u.strands = s.strands ∧ u.mem = s.mem) ∧
  (∀ (s : State) (c : Nat), s.hasCtx c = true → (s.ctx c).busy = true → (s.ctx c).op = .resume →
    s.invDone (s.ctx c).waitInvs (s.ctx c).waitReqs = true → s.saved = [] → Reaches (.ctxResume c) s fun u =>
      (u.ctx c).suspended = false ∧ (u.ctx c).status = 1 ∧ (u.ctx c).busy = false ∧ (u.ctx c).parked = false ∧ u.strands = s.strands ∧
      ∀ q x, tblGet s.queues q = some x → s.queueCtx q = c → x.st = .suspended 3 → (tblGet u.queues q).map (·.st) = some .waiting) ∧
  (∀ (s : State) (c : Nat) (arg : Word), s.hasCtx c = true → (s.ctx c).busy = false →
    (s.mayMove c arg (s.sectionOf c) = false →
      exec (.ctxMigrate c arg) s = .next (s.modCtx c fun x => { x with error := 2 })) ∧
    (s.mayMove c arg (s.sectionOf c) = true → Memory.wf s.mem = true → Reaches (.ctxMigrate c arg) s fun u =>
      (u.ctx c).status = 3 ∧ (u.ctx c).suspended = true ∧
      (∀ st, st < 1024 → ((u.die (dieOf st)).ctxEntry c).sect.getLsbD (st % 256) =
        (s.sectionOf c).any fun x => shiftStation arg x == st) ∧
      ∀ st ∈ s.sectionOf c, (u.station (shiftStation arg st)).mailbox = (s.station st).mailbox ∧
        (u.station (shiftStation arg st)).rq = (s.station st).rq ∧
        ∀ off, off < 2 ^ 22 → memGet u.mem (2 ^ 52 + shiftStation arg st * 2 ^ 23 + off) = memGet s.mem (2 ^ 52 + st * 2 ^ 23 + off))) ∧
  (∀ (s : State) (c : Nat), s.hasCtx c = true → (s.ctx c).busy = false → Reaches (.release c) s fun u =>
    (∀ e ∈ u.grids, e.2.ctx = c → e.2.hold = false) ∧ u.mem = s.mem)

/-- A context's creation and destruction (R250, R265, R353, R402, R412): it is refused above 16,384 proofs of the live contexts on a
die, or on a station that is not free; its quota stands in DTQUOTA on every die, and the descriptor of a guest queue of it in the
memory of die 0, with HEAD, TAIL and DONE 0. A destroyed context leaves no queue, proof, shard or section, and its stations and their ways return to reset. -/
def Sys2Proof.Claims.ContextsBeginAndEnd : Prop :=
  (∀ (s : State) (c quota : Nat) (sts : List Nat) (gqs : List GuestQueue), c < 64 → tblGet s.ctxs c = none →
    (∀ d, d < 4 → s.quotasOn d + quota ≤ 16384) →
    (∀ st ∈ sts, st < 1024 ∧ isBridge s.cfg st = false ∧ s.taken st = false ∧ ∀ e ∈ s.ctxs, s.inSection e.1 st = false) →
    Reaches (.contextCreation c quota sts gqs) s fun u =>
      let world := ((s.die (dieOf (sts.headD 0))).ctxEntry c).world
      (∃ x, tblGet u.ctxs c = some x ∧ x.world = world ∧ x.quota = quota ∧
        x.guestQueues = gqs.map (fun q => (q.gqn, q.pa)) ∧ x.status = 1 ∧ x.suspended = false) ∧
      (∀ e, e ≠ c → tblGet u.ctxs e = tblGet s.ctxs e) ∧
      (∀ d, d < 4 → ((u.die d).ctxEntry c).quota = BitVec.ofNat 15 quota) ∧
      (∀ st, st < 1024 → ((u.die (dieOf st)).ctxEntry c).sect.getLsbD (st % 256) = sts.contains st) ∧
      (gqs = [] → u.mem = s.mem) ∧
      (∀ q, gqs = [q] → q.pa % 64 = 0 → Memory.wf s.mem = true →
        u.homeNat (.lp6 0 q.pa) 8 = q.base.toNat ∧
        u.homeNat (.lp6 0 (q.pa + 8)) 8 =
          2 ^ 63 + 2 ^ 62 + world.toNat * 2 ^ 61 + c * 2 ^ 55 + q.gqn % 64 * 2 ^ 32 + q.log2cap % 32 ∧
        u.homeNat (.lp6 0 (q.pa + 16)) 8 = 0 ∧ u.homeNat (.lp6 0 (q.pa + 24)) 8 = 0 ∧ u.homeNat (.lp6 0 (q.pa + 32)) 8 = 0)) ∧
  (∀ (s : State) (c quota d : Nat) (sts : List Nat) (gqs : List GuestQueue), d < 4 → 16384 < s.quotasOn d + quota →
    exec (.contextCreation c quota sts gqs) s = .next s) ∧
  (∀ (s : State) (c : Nat), (tblGet s.ctxs c).isSome = true → (∀ e ∈ s.grids, e.2.ctx ≠ c) →
    (∀ st ∈ s.sectionOf c, s.writesHeld st .ring s.nextAge 0 = true) → Reaches (.contextDestruction c) s fun u =>
      tblGet u.ctxs c = none ∧ (∀ e ∈ u.proofs, e.2.ctx ≠ c) ∧ (∀ e ∈ u.shards, e.2.ctx ≠ c) ∧ u.sectionOf c = [] ∧
      ∀ st ∈ s.sectionOf c, (u.station st).stores = [] ∧ (u.station st).mailbox = [] ∧ (u.station st).chord = none ∧
        ∀ x ∈ u.mem, keyInPlate st x.1 = false)

/-- SPLS and SPLR (R292, R380): a strand leaves its slot for the save area under a tag that the firmware's register takes; a slot
without a strand gives all ones. By its tag a loose strand returns to a free slot as it left, where the slot's station is one of its
context's section, or a Bridge station for firmware, and waits otherwise (the model, log entry 19). -/
def Sys2Proof.Claims.SlotsSpillAndReturn : Prop :=
  (∀ (s : State) (k n i : Nat) (r : Req) (x : PRes), s.spillReq k = some (n, r) → r.kind = .spls → r.res = some i →
    tblGet s.results i = some x → s.slot k = none → Reaches (.slotSpill k) s fun u =>
      u.req n = none ∧ tblGet u.results i = some { x with value := (BitVec.allOnes 64).setWidth 2048, pend := [], ready := true } ∧
      u.saved = s.saved ∧ u.strands = s.strands) ∧
  (∀ (s : State) (k n i : Nat) (r : Req) (x : PRes) (t : Strand), s.spillReq k = some (n, r) → r.kind = .spls → r.res = some i →
    tblGet s.results i = some x → s.slot k = some t → t.spillable = true → (∀ q : Fin 8, t.ports[q] = .unbound) →
    Reaches (.slotSpill k) s fun u => u.slot k = none ∧ u.req n = none ∧ u.mem = s.mem ∧
      ∃ tag, tag < 65536 ∧ u.saved = s.saved ++ [.slot tag (stationOf k) t true] ∧
        tblGet u.results i = some { x with value := BitVec.ofNat 2048 tag, pend := [], ready := true }) ∧
  (∀ (s : State) (k n i tag st : Nat) (r : Req) (x : PRes) (t : Strand), s.spillReq k = some (n, r) → r.kind = .splr →
    r.b.toNat = tag → r.res = some i → tblGet s.results i = some x → s.slot k = none → s.saved = [.slot tag st t true] →
    t.loose = true →
    let fits : Bool := if t.ctx = 64 then isBridge s.cfg (stationOf k) else s.inSection t.ctx (stationOf k)
    ((s.ctx t.ctx).suspended = false → fits = true → Reaches (.slotSpill k) s fun u =>
      u.slot k = some (seated (s.station (stationOf k)) t) ∧ u.saved = [] ∧ u.req n = none ∧ u.mem = s.mem ∧
      tblGet u.results i = some { x with value := 1, pend := [], ready := true }) ∧
    ((s.ctx t.ctx).suspended = true ∨ fits = false → exec (.slotSpill k) s = .next s)) ∧
  (∀ (s : State) (k n i : Nat) (r : Req) (x : PRes), s.spillReq k = some (n, r) → r.kind = .splr → r.res = some i →
    tblGet s.results i = some x → s.slot k = none → s.saved = [] → Reaches (.slotSpill k) s fun u =>
      u.req n = none ∧ tblGet u.results i = some { x with value := 0, pend := [], ready := true } ∧ u.strands = s.strands)

/-- Chords (R178, R201, R244, R291, R293): with its writes at their homes, and no drain, no drain's action and no copy access in the
air, a chord that has to go is saved with the station's matrix engine, copy engine and protection unit, and leaves a station without
clean copies; it comes back as it was, with the plate ways that were saved with it, to a station of its context's section whose own
writes are at their homes. That its copies go ahead of those that have entered since is the model (log entry 49). -/
def Sys2Proof.Claims.ChordsSpillAndReturn : Prop :=
  (∀ (s : State) (st : Nat) (c : Chord), (s.station st).chord = some c → c.st = .resident → c.evict = true →
    (s.station st).eng.drain = none → s.drainAction st = false → s.copyAway st = false → s.chordSlots st = [] →
    (s.writesHeld st .ring s.nextAge 0 = false → exec (.chordSpill st) s = .next (s.releaseAll st)) ∧
    (s.writesHeld st .ring s.nextAge 0 = true → s.saved = [] →
    Reaches (.chordSpill st) s fun u => (u.station st).chord = none ∧ (u.station st).eng = {} ∧ u.mem = s.mem ∧
      (u.station st).ways = (s.station st).ways ∧ (u.station st).cpy = { entered := (s.station st).cpy.entered } ∧
      u.saved = [.chord st { c with st := .spilled } [] { eng := (s.station st).eng, cpy := (s.station st).cpy }
        (s.station st).ways (s.station st).prot])) ∧
  (∀ (s : State) (st : Nat) (c : Chord), (s.station st).chord = some c → c.st = .resident → c.evict = true →
    (s.drainAction st = true ∨ s.copyAway st = true) → exec (.chordSpill st) s = .next s) ∧
  (∀ (s : State) (st : Nat) (c : Chord) (eng : Engines) (w : Nat) (p : Vector Word 16) (g : Grid), s.saved = [.chord st c [] eng w p] →
    c.evict = false → (s.station st).chord = none → (s.station st).testing = false → (s.station st).failed = false →
    (s.station st).leaving = false → (s.station st).disabled = 0 →
    s.gridOf c.grid = some g → (s.ctx g.ctx).suspended = false → s.inSection g.ctx st = true →
    (s.writesHeld st .ring s.nextAge 0 = false → exec (.chordRestore st) s = .next (s.releaseAll st)) ∧
    (s.writesHeld st .ring s.nextAge 0 = true → Reaches (.chordRestore st) s fun u =>
      (u.station st).chord = some { c with st := .resident } ∧ (u.station st).eng = eng.eng ∧
      (u.station st).cpy = eng.cpy.join (s.station st).cpy ∧ (u.station st).ways = w ∧
      (u.station st).prot = p ∧ u.saved = [] ∧ (eng.plate = none → u.mem = s.mem) ∧
      ∀ cells marks, eng.plate = some (cells, marks) → Memory.wf s.mem = true → (cells.map (·.1)).Nodup →
        (∀ e ∈ cells, e.1 < 2 ^ 22) → ∀ off, off < 2 ^ 22 →
          memGet u.mem (2 ^ 52 + st * 2 ^ 23 + off) = (tblGet cells off).getD 0))

/-- Heat and power (R299, R419, R441): a station is over its limit from 100 degrees until it reads less than 95, and the package above
its power limit; a slot of a station over either is disabled while another stays enabled, and enabled again below both; during a
swap of firmware the settings stay. A strand that is out takes a free enabled slot; with none, that of a strand that
has run for 4,096 cycles. -/
def Sys2Proof.Claims.HeatTakesSlots : Prop :=
  (∀ (s : State) (st c : Nat), Reaches (.thermalThreshold st (.celsius c)) s fun u =>
    ((u.station st).hot = true ↔ 100 ≤ c ∨ (95 ≤ c ∧ (s.station st).hot = true)) ∧ u.powerOver = s.powerOver ∧
    u.strands = s.strands ∧ u.mem = s.mem) ∧
  (∀ (s : State) (st w : Nat), Reaches (.thermalThreshold st (.watts w)) s fun u =>
    (u.powerOver = true ↔ s.powerLimit < w) ∧ u.stations = s.stations ∧ u.strands = s.strands ∧ u.mem = s.mem) ∧
  (∀ (s : State) (k cooler : Nat) (off : Bool), s.fw.swap ≠ none → exec (.thermalSlotChange k off cooler) s = .next s) ∧
  (∀ (s : State) (k cooler : Nat), s.fw.swap = none → ((s.station (stationOf k)).hot = true ∨ s.powerOver = true) → (s.station (stationOf k)).disabled.getLsbD (slotOf k) = false →
    2 ≤ (s.station (stationOf k)).enabled → s.slot k = none → Reaches (.thermalSlotChange k true cooler) s fun u =>
      (∀ i, i < 8 → (u.station (stationOf k)).disabled.getLsbD i =
        (decide (i = slotOf k) || (s.station (stationOf k)).disabled.getLsbD i)) ∧ u.strands = s.strands ∧ u.mem = s.mem) ∧
  (∀ (s : State) (k cooler : Nat), (s.station (stationOf k)).enabled < 2 → exec (.thermalSlotChange k true cooler) s = .next s) ∧
  (∀ (s : State) (k cooler : Nat), s.fw.swap = none → (s.station (stationOf k)).hot = false → s.powerOver = false →
    Reaches (.thermalSlotChange k false cooler) s fun u =>
    ∀ i, i < 8 → (u.station (stationOf k)).disabled.getLsbD i =
      (!decide (i = slotOf k) && (s.station (stationOf k)).disabled.getLsbD i)) ∧
  (∀ (s : State) (st : Nat) (t : Strand) (c : Chord), (s.station st).chord = some c → c.st = .resident →
    s.saved = [.slot 0 st t false] → t.loose = false → (s.ctx t.ctx).suspended = false →
    (∀ k, s.freeSlotOf st = some k → Reaches (.timesliceRotate st) s fun u => u.slot k = some (seated (s.station st) t) ∧ u.saved = []) ∧
    (∀ k o, s.freeSlotOf st = none → stationOf k = st →
      s.strands.filter (fun e => stationOf e.1 == st && !e.2.loose && e.2.spillable) = [(k, o)] → s.slot k = some o →
      (∀ q : Fin 8, o.ports[q] = .unbound) → t.tag ≠ o.tag →
      (o.ranFor < 4096 → exec (.timesliceRotate st) s = .next s) ∧
      (4096 ≤ o.ranFor → Reaches (.timesliceRotate st) s fun u =>
        u.slot k = some (seated (s.station st) t) ∧ u.saved = [.slot 0 st o false])))

/-- The waits (R296 to R298). The walker keeps what its walk found stuck, and reports DEADLOCK to each grid of every set of entries
that stood in the table at both walks unchanged and in which each entry has a wait that only entries of the set can end; what the
walk finds stuck is the largest such set (how a wait is stuck is the model, log entry 34). A context in want at two checks in a row is
rescued: the fewest of its youngest courses that make room, all of whose chords are resident and held, are to be spilled, and when
they are, the course is placed. During a swap of firmware nothing is walked (R419). -/
def Sys2Proof.Claims.WaitsAreWalked : Prop :=
  (∀ l : List WaitEntry, let out := stuckSet (l.length + 1) l
    (∀ e ∈ out, e ∈ l ∧ e.stuck (out.map (·.who)) = true) ∧
    ∀ X : List WaitEntry, (∀ e ∈ X, e ∈ l ∧ e.stuck (X.map (·.who)) = true) → ∀ e ∈ X, e ∈ out) ∧
  (∀ (s : State) (d : Nat), s.fw.swap ≠ none → exec (.waitforWalk d) s = .next s) ∧
  (∀ (s : State) (d : Nat), s.fw.swap = none →
    let now := stuckSet (s.waitTable.length + 1) s.waitTable
    let before := (s.walkers[Fin.ofNat 4 d]).last
    Reaches (.waitforWalk d) s fun u => (u.walkers[Fin.ofNat 4 d]).last = now ∧
      (u.walkers[Fin.ofNat 4 d]).passes = (s.walkers[Fin.ofNat 4 d]).passes + 1 ∧
      ((∀ e ∈ now, e ∉ before) → u.grids = s.grids ∧ u.strands = s.strands) ∧
      ∀ X : List WaitEntry, (∀ e ∈ X, e ∈ s.waitTable ∧ e ∈ before ∧ e.stuck (X.map (·.who)) = true) →
        ∀ e ∈ X, e.conds ≠ [[]] → ∀ g, s.gridOf e.grid = some g → g.st = .running →
          ∃ h, u.gridOf e.grid = some h ∧ h.st = .ending ∧ h.cause = 0x2B0) ∧
  (∀ (s : State) (d : Nat), (s.rescue[Fin.ofNat 4 d]).target = none →
    (∀ c, c < 64 → (s.wanted d c).isSome = true → (s.rescue[Fin.ofNat 4 d]).seen.testBit c = false) →
    Reaches (.rescueCheck d) s fun u => (u.rescue[Fin.ofNat 4 d]).target = none ∧ u.stations = s.stations ∧ u.grids = s.grids ∧
      ∀ c, c < 64 → (u.rescue[Fin.ofNat 4 d]).seen.testBit c = (s.wanted d c).isSome) ∧
  (∀ (s : State) (d c gk : Nat) (g : Grid) (sts : List Nat), (s.rescue[Fin.ofNat 4 d]).target = none → c < 64 →
    (∀ b, b < c → s.wanted d b = none) → s.wanted d c = some (gk, g) → (s.rescue[Fin.ofNat 4 d]).seen.testBit c = true →
    s.rescueSet d g (s.victims d c) [] = some sts → Reaches (.rescueCheck d) s fun u =>
      (u.rescue[Fin.ofNat 4 d]).target = some gk ∧ u.strands = s.strands ∧ u.mem = s.mem ∧
      (∀ st ∈ sts, (u.station st).chord = (s.station st).chord.map fun x => { x with evict := true }) ∧
      ∀ st, st ∉ sts → u.station st = s.station st) ∧
  (∀ (s : State) (d c : Nat) (g : Grid), let l := s.victims d c
    l.Pairwise (fun a b => b.at_ ≤ a.at_) ∧
    (∀ v ∈ l, ∀ st ∈ v.sts, ∃ e ∈ s.stations, e.1 = st ∧ ∃ x, e.2.chord = some x ∧ x.grid = v.grid ∧ x.course = v.course ∧
      x.st = .resident ∧ s.chordHeld x = true) ∧
    ∀ sts, s.rescueSet d g l [] = some sts → ∃ n, sts = (l.take n).flatMap (·.sts) ∧
      (s.placesOn d g (s.takenFor sts)).isSome = true ∧
      ∀ m, 0 < m → m < n → (s.placesOn d g (s.takenFor ((l.take m).flatMap (·.sts)))).isSome = false) ∧
  (∀ (s : State) (d gk : Nat), (s.rescue[Fin.ofNat 4 d]).target = some gk →
    ((∃ e ∈ s.stations, dieOf e.1 = d ∧ ∃ x, e.2.chord = some x ∧ x.evict = true) → exec (.rescueCheck d) s = .next s) ∧
    ((∀ e ∈ s.stations, dieOf e.1 = d → ∀ x, e.2.chord = some x → x.evict = false) →
      ∀ (g : Grid) (l : List Nat), s.gridOf gk = some g → s.wantsPlace g = true → g.proofs = [] → g.pimg = 0 →
        s.placesOn d g (s.takenFor (s.evicted d)) = some [l] → s.restoreFirst [l] = false → Reaches (.rescueCheck d) s fun u =>
          (u.rescue[Fin.ofNat 4 d]).target = none ∧ u.mem = s.mem ∧ (u.gridOf gk).map (·.placed) = some (g.placed + 1) ∧
          ∀ st ∈ l, ∃ x, (u.station st).chord = some x ∧ x.grid = gk ∧ x.course = g.placed ∧ x.n = g.strands))

/-! ### Errors, management, shards, firmware images, registers (R273, R354, R400 to R419, R431) -/

/-- Errors in storage (R398, R400, R401, R405): each adds 1 to UECNT of its die; a clean copy is dropped, dirty bytes and home data are
poisoned, but a clean line of LP6 in a slice is read again; a strand's or an engine's error ends its grid, and one in die-shared
state is recorded. A scrub changes no value, counts what it corrects, and a spare row, of 64 in a slice, replaces each row that needed
more than 4 corrections (R415). A clear of the counters clears those that its mask
names. -/
def Sys2Proof.Claims.StorageErrors : Prop :=
  (∀ (s : State) (st line : Nat),
    Reaches (.uncorrectableError (.cleanCopy st line)) s fun u => (u.die (dieOf st)).uecnt = (s.die (dieOf st)).uecnt + 1 ∧
      u.mem = s.mem ∧ (u.station st).stores = (s.station st).stores ∧
      ∀ i, i < 64 → tblGet (u.station st).clean (line * 64 + i) = none) ∧
  (∀ (s : State) (st line : Nat), (∃ x ∈ (s.station st).stores, x.line = line) →
    Reaches (.uncorrectableError (.dirtyByte st line)) s fun u => u.mem = s.mem ∧ u.poison = s.poison ∧
      (u.die (dieOf st)).uecnt = (s.die (dieOf st)).uecnt + 1 ∧
      (u.station st).stores = (s.station st).stores.map fun x => if x.line = line then { x with bad := true } else x) ∧
  (∀ (s : State) (key : Nat) (clean : Bool), (clean = false ∨ 2 ^ 52 ≤ key) →
    Reaches (.uncorrectableError (.sliceData key clean)) s fun u => u.mem = s.mem ∧ u.poisonAt key = some 0) ∧
  (∀ (s : State) (key : Nat), key < 2 ^ 52 →
    Reaches (.uncorrectableError (.sliceData key true)) s fun u => u.mem = s.mem ∧ u.poison = s.poison) ∧
  (∀ (s : State) (key : Nat), Reaches (.uncorrectableError (.lp6Data key)) s fun u => u.mem = s.mem ∧ u.poisonAt key = some 2) ∧
  (∀ (s : State) (k : Nat) (vector : Bool) (t : Strand) (g : Grid), s.slot k = some t → s.gridOf t.grid = some g →
    g.st = .running → Reaches (.uncorrectableError (.slotState k vector)) s fun u =>
      (∀ e ∈ u.strands, e.2.grid ≠ t.grid) ∧
      ∃ h, u.gridOf t.grid = some h ∧ h.st = .ending ∧ h.cause = causeOf 14 (if vector then 1 else 0) 0) ∧
  (∀ (s : State) (st : Nat) (c : Chord) (g : Grid), (s.station st).chord = some c → s.gridOf c.grid = some g → g.st = .running →
    Reaches (.uncorrectableError (.matrixState st)) s fun u =>
      ∃ h, u.gridOf c.grid = some h ∧ h.st = .ending ∧ h.cause = causeOf 14 2 0) ∧
  (∀ (s : State) (d : Nat) (unit : DieUnit), d < 4 → (s.die d).mgmt.length < 256 →
    Reaches (.uncorrectableError (.dieState d unit)) s fun u => (u.die d).uecnt = (s.die d).uecnt + 1 ∧
      ∃ r, (u.die d).mgmt = (s.die d).mgmt ++ [r] ∧ r.kind = 4 ∧
        r.code = causeOf 14 (match unit with | .directory => 4 | .dtu => 5 | .proofs => 6) 0) ∧
  (∀ (s : State) (st : Nat) (rows : List Nat),
    let slice := s.cfg.physical st
    let used := (tblGet s.sliceRows slice).getD 0
    let taken := min (rows.filter fun n => decide (4 < n)).length (64 - used)
    Reaches (.sliceScrub ⟨st, rows⟩) s fun u => u.mem = s.mem ∧ u.stations = s.stations ∧
    u.reqs = s.reqs ∧ (u.die (dieOf st)).cecnt = (s.die (dieOf st)).cecnt + BitVec.ofNat 64 rows.sum ∧
    (tblGet u.sliceRows slice).getD 0 = used + taken ∧
    (u.die (dieOf st)).repair.extractLsb' 0 16 =
      BitVec.ofNat 16 (min 0xFFFF (((s.die (dieOf st)).repair.extractLsb' 0 16).toNat + taken)) ∧
    (u.die (dieOf st)).repair.extractLsb' 16 48 = (s.die (dieOf st)).repair.extractLsb' 16 48) ∧
  (∀ (s : State) (d : Nat) (m : Word), Reaches (.rasClear d m) s fun u => u.mem = s.mem ∧
    (u.die d).cecnt = (if m.getLsbD 0 then 0 else (s.die d).cecnt) ∧ (u.die d).uecnt = (if m.getLsbD 1 then 0 else (s.die d).uecnt) ∧
    (u.die d).linkrty = (if m.getLsbD 2 then 0 else (s.die d).linkrty) ∧
    (u.die d).lanespare = (if m.getLsbD 3 then 0 else (s.die d).lanespare) ∧
    (u.die d).lateflt = (if m.getLsbD 4 then 0 else (s.die d).lateflt) ∧
    (u.die d).recdrop = (if m.getLsbD 5 then 0 else (s.die d).recdrop) ∧
    (u.die d).repair = (s.die d).repair ∧ (u.die d).rasvec = (s.die d).rasvec)

/-- Self-test and management (R368, R369, R400, R402, R415, R416): a free station with no writes out is tested, and passes or is
retired, to its row's spare first; a failure is recorded, with code 0x380, which is the model's choice (log entry 80), and where no spare is left and the slice fails too, as one in state that
the die shares; management takes the oldest record, ends a frozen master's grid with the record's code, or inspects it,
and resets a die whose shared state failed. -/
def Sys2Proof.Claims.TestsAndManagement : Prop :=
  (∀ (s : State) (st : Nat), (s.station st).testing = false → isBridge s.cfg st = false → s.taken st = false →
    (s.station st).runq = [] → (∀ e ∈ s.strands, stationOf e.1 ≠ st) → s.writesHeld st .ring s.nextAge 0 = true →
    ∀ b rows sl, Reaches (.stationSelfTest st ⟨b, rows, sl⟩) s fun u => (u.station st).testing = true ∧ (u.station st).mailbox = [] ∧
      ∀ x ∈ u.mem, keyInPlate st x.1 = false) ∧
  (∀ (s : State) (st : Nat) (sl : Bool), (s.station st).testing = true →
    (Reaches (.stationSelfTest st ⟨true, 0, sl⟩) s fun u => (u.station st).testing = false ∧ u.dies = s.dies ∧ u.cfg = s.cfg) ∧
    (∀ rows, Reaches (.stationSelfTest st ⟨true, rows, sl⟩) s fun u => (u.station st).testing = false ∧ u.cfg = s.cfg ∧ u.mem = s.mem) ∧
    ((s.die (dieOf st)).mgmt.length < 256 → (s.die (dieOf st)).spareUsed (rowOf st) = false →
      Reaches (.stationSelfTest st ⟨false, 0, sl⟩) s fun u =>
      ∃ r, (u.die (dieOf st)).mgmt = (s.die (dieOf st)).mgmt ++ [r] ∧ r.kind = 4 ∧ r.code = 0x380) ∧
    ((s.die (dieOf st)).spareUsed (rowOf st) = true → Reaches (.stationSelfTest st ⟨false, 0, sl⟩) s fun u =>
      (u.station st).testing = false ∧ (u.station st).failed = true ∧ (u.die (dieOf st)).repair.getLsbD (16 + rowOf st) = true) ∧
    ((s.die (dieOf st)).spareUsed (rowOf st) = true → sl = false → (s.die (dieOf st)).mgmt = [] → Reaches (.stationSelfTest st ⟨false, 0, sl⟩) s fun u =>
      (u.die (dieOf st)).mgmt.map (·.code) = [0x380, causeOf 14 4 0]) ∧
    ((s.die (dieOf st)).spareUsed (rowOf st) = false → Reaches (.stationSelfTest st ⟨false, 0, sl⟩) s fun u =>
      (u.station st).testing = false ∧ (u.station st).failed = (s.station st).failed ∧
        (u.die (dieOf st)).repair.getLsbD (32 + rowOf st) = true)) ∧
  (∀ (s : State) (d : Nat), (s.die d).mgmt = [] → exec (.managementRecordHandle d) s = .next s) ∧
  (∀ (s : State) (d : Nat) (r : Record) (rest : List Record) (g : Grid), (s.die d).mgmt = r :: rest → r.kind = 2 → r.master = 0 →
    s.guest.owned = [] → s.guest.shared = [] →
    s.gridOf r.grid = some g → g.st = .running → g.ctx < 64 → Reaches (.managementRecordHandle d) s fun u =>
      ∃ h, u.gridOf r.grid = some h ∧ h.st = .ending ∧ h.cause = r.code ∧ h.addr = r.addr ∧
        (h.hold = true ↔ g.hold = true ∨ s.cfg.inspect.getLsbD g.ctx = true)) ∧
  (∀ (s : State) (d : Nat) (r : Record) (rest : List Record), d < 4 → (s.die d).mgmt = r :: rest → r.kind = 4 → r.code = 0x3A8 →
    r.master ≠ 7 → s.guest.owned = [] → s.guest.shared = [] → Reaches (.managementRecordHandle d) s fun u => (u.die d).ctxTab = [] ∧ (u.die d).tlb = [] ∧
      (∀ e ∈ u.strands, dieOf (stationOf e.1) ≠ d) ∧ (∀ e ∈ u.proofs, e.1 / 2 ^ 20 ≠ d) ∧
      ∀ x ∈ u.mem, ¬(2 ^ 52 + d * 2 ^ 31 ≤ x.1 ∧ x.1 < 2 ^ 52 + (d + 1) * 2 ^ 31))

/-- Weight shards (R282, R411 to R413): LOADSHARD shows LOADING in STATUS, registers the shard and starts its copy; once STATUS shows
CHECKING, the check of the shard makes it VALID and publishes its proof when the digest is the expected one, else WITHHELD, and
the command does not complete while the publication is under way; a transfer that takes too long leaves it
ABSENT; a recheck withholds a VALID shard whose digest differs. A shard that fails is withheld, every block of DST marked at its home,
before it takes its state. When STATUS is written beside the completion is the model's choice
(log entry 84). -/
def Sys2Proof.Claims.WeightShards : Prop :=
  (∀ (s s' v w : State) (q : Nat) (a : Word) (c : Cmd) (bs : List Byte), ReadsCmd s s' q 7 a c →
    s'.unitRead (s'.queueWho q) (c.word 0) 64 = .ok (bs, none) v → shardBad v.cfg (c.word 0) bs = false → v.shards = [] →
    (∀ b k, v.translate (v.loadWho (v.queueCtx q) (wordOf bs 8)) (wordOf bs 8) .locate ≠ .ok (.pcie b) k) →
    (v.station (v.queueStation q)).cpy.queue.length < 16 →
    v.statusPut (v.queueWho q) (c.word 0) (2 ^ 60) = .go w → w.queueStation q = v.queueStation q →
    (w.station (v.queueStation q)).cpy = (v.station (v.queueStation q)).cpy → Reaches (.loadshard q) s fun u =>
      (∃ x, tblGet u.shards 0 = some x ∧ x.st = .loading ∧ x.fail = none ∧ x.ctx = v.queueCtx q ∧ x.src = wordOf bs 0 ∧ x.dst = wordOf bs 8 ∧
        x.len = (wordOf bs 16).toNat ∧ x.dig = wordOf bs 24 ∧ x.proof = wordOf bs 32 ∧ x.timeout = wordOf bs 40) ∧
      ∃ i, (u.station (v.queueStation q)).cpy.queue = (v.station (v.queueStation q)).cpy.queue ++ [i] ∧
        i.op = .cpy ∧ i.src = wordOf bs 0 ∧ i.dst = wordOf bs 8 ∧ i.len = (wordOf bs 16).toNat) ∧
  (∀ (s u : State) (n : Nat) (x : Shard), tblGet s.shards n = some x → x.st = .checking → x.shown = false → x.fail = none →
    s.statusPut (s.shardWho n x) x.sdesc (2 * 2 ^ 60 + n * 2 ^ 48) = .go u →
    exec (.shardCheck n) s = .next { u with shards := tblMod u.shards n fun x => { x with shown := true } }) ∧
  (∀ (s : State) (q n i : Nat) (c : Cmd) (x : Shard) (m : Nat) (r : Req), tblGet (s.queue q).cmds n = some c → c.op = 7 →
    s.shards = [(i, x)] → x.q = q → x.cmd = n → (m, r) ∈ s.reqs → r.kind = .proofPub → r.src = 6 → r.gva = x.proof → r.ctx = x.ctx →
    exec (.commandComplete q n) s = .next s) ∧
  (∀ (s v : State) (n : Nat) (x : Shard) (good : Bool), tblGet s.shards n = some x → x.fail = none → s.shardDigest n x = .ok good v →
    tblGet v.shards n = some x → hPkg x.proof = s.cfg.pkg → (x.st = .checking → x.shown = true) →
    let fails (u : State) : Prop := ∃ y, tblGet u.shards n = some y ∧
      ((y.st = .withheld ∧ y.fail = none) ∨ ∃ load, y.st = x.st ∧ y.fail = some (.withheld, 0x1F1, load))
    (x.st = .checking → good = true → Reaches (.shardCheck n) s fun u => ((tblGet u.shards n).map (·.st)) = some .valid ∧
      ∃ e ∈ u.reqs, e.2.kind = .proofPub ∧ e.2.gva = x.proof ∧ e.2.ctx = x.ctx) ∧
    (x.st = .checking → good = false → Reaches (.shardCheck n) s fails) ∧
    (x.st = .valid → good = false → Reaches (.shardRecheck n) s fails) ∧
    (x.st = .valid → good = true → Reaches (.shardRecheck n) s fun u => ((tblGet u.shards n).map (·.st)) = some .valid)) ∧
  (∀ (s : State) (n : Nat) (x : Shard), tblGet s.shards n = some x → x.st = .loading → x.timeout ≠ 0 → x.fail = none →
    Reaches (.shardLoadTimeout n) s fun u => ∃ y, tblGet u.shards n = some y ∧
      ((y.st = .absent ∧ y.fail = none) ∨ (y.st = .loading ∧ y.fail = some (.absent, 0x1F2, true)))) ∧
  (∀ (s w : State) (n : Nat) (x : Shard) (st : ShState) (code : Cause) (load : Bool), tblGet s.shards n = some x →
    x.fail = some (st, code, load) → hPkg x.proof = s.cfg.pkg →
    (s.withhold n x = (w, false) → exec (.shardCheck n) s = .next w) ∧
    (s.withhold n x = (w, true) → Reaches (.shardCheck n) s fun u => ∃ y, tblGet u.shards n = some y ∧ y.st = st ∧ y.fail = none) ∧
    (∀ d a b, x.len = 64 → gvaPkg x.dst = s.cfg.pkg → s.translate (s.loadWho x.ctx x.dst) x.dst .locate = .ok (.lp6 d a) b → a % 64 = 0 →
      s.guest.owned = [] → s.guest.shared = [] →
      s.withhold n x = (s.setPoison (d * 2 ^ 48 + a) 1, true) ∧ (s.setPoison (d * 2 ^ 48 + a) 1).poisonAt (d * 2 ^ 48 + a) = some 1))

/-- Firmware images (R417 to R419): STAGE takes a slot that holds no image in use, copies the image that FWSRC and FWLEN name (FWSRC
read as log entry 89 says) and begins its verification; that ends VALID, or INVALID with the cause of the failed signature or version, as
the image has them; ACTIVATE starts the swap to a VALID or STANDBY image, during which no host command is consumed, and the last role's
handover ends it with the image on trial (log entry 53); ABORT and the trial's deadline end the trial with the slot INVALID and the other
image running. -/
def Sys2Proof.Claims.FirmwareImages : Prop :=
  (∀ (s : State) (i : Fin 2), s.fwAccepts = true → s.fw.run ≠ i → (s.fw.slot[i] = .empty ∨ s.fw.slot[i] = .invalid ∨ s.fw.slot[i] = .standby) →
    s.guest.owned = [] → s.guest.shared = [] → Reaches (.stage i) s fun u =>
    u.fw = { s.fw with slot := s.fw.slot.set i .staged, busy := true, copying := false, image := u.fw.image } ∧ u.mem = s.mem ∧
    u.fw.image = s.fw.image.set i u.fw.image[i] ∧ u.fw.image[i].length = s.fw.len.toNat ∧
    ∀ k, k < s.fw.len.toNat → u.fw.image[i][k]? =
      some (memGet s.mem ((s.fw.src.extractLsb' 49 2).toNat * 2 ^ 48 + (s.fw.src.extractLsb' 0 48).toNat + k))) ∧
  (∀ (s : State) (i : Fin 2) (sigs : Bool) (v : Nat), s.fw.slot[i] = .staged → s.fw.copying = false →
    ((sigs ≠ Config.imageSigs s.fw.image[i] ∨ v ≠ Config.imageSvn s.fw.image[i]) → exec (.fwVerifyDone i sigs v) s = .next s) ∧
    (sigs = Config.imageSigs s.fw.image[i] → v = Config.imageSvn s.fw.image[i] →
      (sigs = true → s.fw.minSvn ≤ v → Reaches (.fwVerifyDone i sigs v) s fun u => u.fw.slot[i] = .valid ∧ u.fw.svns[i] = v ∧ u.fw.busy = false) ∧
      (sigs = true → v < s.fw.minSvn → Reaches (.fwVerifyDone i sigs v) s fun u => u.fw.slot[i] = .invalid ∧ u.fw.cause = 0x373) ∧
      (sigs = false → Reaches (.fwVerifyDone i sigs v) s fun u => u.fw.slot[i] = .invalid ∧ u.fw.cause = 0x370 ∧ u.fw.busy = false))) ∧
  (∀ (s : State) (i : Fin 2), s.fw.busy = false → s.fw.slot[i] = .valid ∨ s.fw.slot[i] = .standby →
    (s.boot.up = true → exec (.activate i) s =
      .next { s with fw := { s.fw with slot := s.fw.slot.set i .trial, busy := true, swap := some i, handover := [] } }) ∧
    (s.boot.recovery = true → s.boot.step = 5 → s.cfg.rolesOk = true → s.cfg.limitsOk = true → s.boot.up = false → Reaches (.activate i) s fun u =>
      u.boot.up = true ∧ u.fw.run = i ∧ u.fw.slot = s.fw.slot.set i .trial)) ∧
  (∀ (s : State) (i : Fin 2) (st : Nat), s.boot.up = true → s.fw.swap = some i →
    (∀ q, exec (.signal q) s = .next s ∧ exec (.loadshard q) s = .next s) ∧
    (((∃ r, (st, r) ∈ s.cfg.roles) ∧ ∀ e ∈ s.cfg.roles, e.1 ≠ st → e.1 ∈ s.fw.handover) → ∃ l, s.serve (.handover st) =
      { s with fw := { s.fw with busy := false, run := i, swap := none, handover := l } }) ∧
    ((∃ e ∈ s.cfg.roles, e.1 ≠ st ∧ e.1 ∉ s.fw.handover) → (s.serve (.handover st)).fw.swap = some i)) ∧
  (∀ s : State, s.fw.busy = false → s.fw.slot[s.fw.run] = .trial →
    (s.boot.up = true → Reaches .abort s fun u => u.fw.slot[s.fw.run] = .invalid ∧ u.fw.run = 1 - s.fw.run ∧ u.fw.cause = 0x372 ∧ u.mem = s.mem) ∧
    Reaches .trialDeadline s fun u => u.fw.slot[s.fw.run] = .invalid ∧ u.fw.run = 1 - s.fw.run ∧ u.fw.cause = 0x372 ∧
      u.mem = s.mem)

/-- Writes to BAR0 (R273, R354, R401, R410, R417, R418, R431, R432): a window block, a RAS block, the firmware block, CTXCMD, and a
host queue block, which a virtual function sees when it is its own; every other write is ignored. WINBASE and FWSRC keep any value
written (log entry 60); FWCMD takes an ABORT as log entry 53 says. -/
def Sys2Proof.Claims.RegisterWrites : Prop :=
  (∀ (s : State) (f : Nat) (v : Word), s.boot.up = true → f < 17 →
    (Reaches (.registerWrite 0 (0x3000 + 16 * f) v) s fun u => (u.window f).valid = v.getLsbD 63 ∧
      (u.window f).ctx = v.extractLsb' 0 6 ∧ (u.window f).base = (s.window f).base ∧ (u.window f).frozen = (s.window f).frozen) ∧
    Reaches (.registerWrite 0 (0x3008 + 16 * f) v) s fun u => (u.window f).base = v ∧ (u.window f).valid = (s.window f).valid) ∧
  (∀ (s : State) (d : Nat) (v : Word), s.boot.up = true → d < 4 →
    (Reaches (.registerWrite 0 (0x4040 + 256 * d) v) s fun u => (u.die d).rasvec = v.setWidth 16 &&& 0x87FF) ∧
    exec (.registerWrite 0 (0x4038 + 256 * d) v) s = exec (.rasClear d v) s) ∧
  (∀ (s : State) (v : Word), s.boot.up = true →
    (Reaches (.registerWrite 0 0x6008 v) s fun u => u.fw = { s.fw with src := v }) ∧
    (Reaches (.registerWrite 0 0x6010 v) s fun u => u.fw = { s.fw with len := v.setWidth 32 }) ∧
    (Reaches (.registerWrite 0 0x6018 v) s fun u => u.fw = { s.fw with trialTime := v.setWidth 32 }) ∧
    (v.extractLsb' 0 4 = 1 → s.fw.busy = false →
      exec (.registerWrite 0 0x6020 v) s = exec (.stage (if v.getLsbD 8 then 1 else 0)) s) ∧
    (v.extractLsb' 0 4 = 2 → s.fw.busy = false →
      exec (.registerWrite 0 0x6020 v) s = exec (.activate (if v.getLsbD 8 then 1 else 0)) s) ∧
    (v.extractLsb' 0 4 = 3 → s.fw.busy = false → s.fw.slot[s.fw.run] = .trial →
      s.fw.run = (if v.getLsbD 8 then 1 else 0 : Fin 2) → exec (.registerWrite 0 0x6020 v) s = exec .abort s) ∧
    (v.extractLsb' 0 4 = 3 → s.fw.slot[(if v.getLsbD 8 then 1 else 0 : Fin 2)] ≠ .trial → exec (.registerWrite 0 0x6020 v) s = .next s) ∧
    ((s.fw.busy = true ∨ 4 ≤ v.toNat % 16 ∨ v.toNat % 16 = 0) → exec (.registerWrite 0 0x6020 v) s = .next s)) ∧
  (∀ (s : State) (c : Nat) (v : Word), s.boot.up = true → c < 64 →
    (v.extractLsb' 0 4 = 1 → s.managed c = true → (s.ctx c).busy = false →
      exec (.registerWrite 0 (0x8000 + 32 * c) v) s = exec (.suspend c) s) ∧
    (v.extractLsb' 0 4 = 3 → s.managed c = true → exec (.registerWrite 0 (0x8000 + 32 * c) v) s = exec (.ctxMigrate c v) s) ∧
    (v.extractLsb' 0 4 = 4 → s.managed c = true → exec (.registerWrite 0 (0x8000 + 32 * c) v) s = exec (.release c) s) ∧
    (s.managed c = false ∨ (s.ctx c).busy = true → exec (.registerWrite 0 (0x8000 + 32 * c) v) s = .next s) ∧
    (v.extractLsb' 0 4 = 9 → s.managed c = true → (s.ctx c).busy = false →
      Reaches (.registerWrite 0 (0x8000 + 32 * c) v) s fun u => (u.ctx c).error = 1)) ∧
  (∀ (s : State) (f q : Nat) (v : Word), s.boot.up = true → q < 256 →
    ((s.cfg.queueFunc.any fun e => e.1 == q && e.2.1 == f) = true →
      exec (.registerWrite f (0x10010 + 64 * q) v) s = exec (.queueTailWrite q v) s ∧
      ((s.queue q).st = .disabled → Reaches (.registerWrite f (0x10000 + 64 * q) v) s fun u => (u.queue q).base = v) ∧
      ((s.queue q).st ≠ .disabled → exec (.registerWrite f (0x10000 + 64 * q) v) s = .next s)) ∧
    ((s.cfg.queueFunc.any fun e => e.1 == q && e.2.1 == f) = false → exec (.registerWrite f (0x10010 + 64 * q) v) s = .next s))

/-! ### The package's edge (R211, R214, R245, R246, R402, R406, R432, R434, R438, R441) -/

/-- Requests from the PCIe link (R211, R406, R430, R432): a frozen path drops writes and answers reads Unsupported Request, and so does a request
that needs ATS, PRI, PASID or MSI, or that lies past BAR2's size; a path that does not
translate freezes, with a cause of class 5 whose detail the rule leaves open (log entry 23); otherwise each line touched becomes a
request with the window's context's authority, and a poisoned write carries its poison; a boot that has halted reads as zero and
ignores writes (R438). The end of a read to the link, and its timeout unless the function has disabled it (R443; log entry 55), reach
the access that waits. -/
def Sys2Proof.Claims.LinkRequests : Prop :=
  (∀ (s : State) (f off : Nat) (bytes : List Byte) (w : WriteTlp), s.boot.up = true →
    let a := (s.window f).base + BitVec.ofNat 64 off
    let o := a.toNat % 64
    let inside : Prop := w.unsupported = false ∧ off + bytes.length ≤ 2 ^ s.cfg.barLog2
    (¬ inside → exec (.inboundWrite f off bytes w) s = .next s) ∧
    ((s.window f).frozen.isSome = true → exec (.inboundWrite f off bytes w) s = .next s) ∧
    (inside → (s.window f).frozen = none → (s.windowOk f = false ∨ gvaOk s.cfg a = false) →
      Reaches (.inboundWrite f off bytes w) s fun u =>
      (u.window f).frozen = some (windowCause f) ∧ u.reqs = s.reqs ∧ u.mem = s.mem) ∧
    (inside → (s.window f).frozen = none → s.windowOk f = true → gvaOk s.cfg a = true → 0 < bytes.length → o + bytes.length ≤ 64 →
      Reaches (.inboundWrite f off bytes w) s fun u => u.mem = s.mem ∧ ∃ r, u.req s.nextId = some r ∧ r.kind = .inWrite f ∧
        r.ctx = (s.window f).ctx.toNat ∧ r.gva = BitVec.ofNat 64 (a.toNat / 64 * 64) ∧ r.bad = w.poisoned ∧
        ∀ i, i < 64 → r.mask.getLsbD i = decide (o ≤ i ∧ i < o + bytes.length) ∧
          ∀ b, o ≤ i → bytes[i - o]? = some b → r.data.extractLsb' (8 * i) 8 = b)) ∧
  (∀ (s : State) (f off n : Nat), s.boot.up = true →
    let a := (s.window f).base + BitVec.ofNat 64 off
    let turned : State := { s with pcie := s.pcie ++ [.completion f n 0 .unsupported] }
    (exec (.inboundRead f off ⟨n, true⟩) s = .next turned) ∧
    (2 ^ s.cfg.barLog2 < off + n → exec (.inboundRead f off ⟨n, false⟩) s = .next turned) ∧
    ((s.window f).frozen.isSome = true → exec (.inboundRead f off ⟨n, false⟩) s = .next turned) ∧
    (off + n ≤ 2 ^ s.cfg.barLog2 → (s.window f).frozen = none → (s.windowOk f = false ∨ gvaOk s.cfg a = false) →
      Reaches (.inboundRead f off ⟨n, false⟩) s fun u => (u.window f).frozen = some (windowCause f) ∧
        u.pcie = s.pcie ++ [.completion f n 0 .unsupported] ∧ u.reqs = s.reqs ∧ u.mem = s.mem) ∧
    (off + n ≤ 2 ^ s.cfg.barLog2 → (s.window f).frozen = none → s.windowOk f = true → gvaOk s.cfg a = true → 0 < n → a.toNat % 64 + n ≤ 64 →
      exec (.inboundRead f off ⟨n, false⟩) s = .next (s.addReq (s.inboundReq f (.inRead f n) a)))) ∧
  (∀ (s : State) (f off n : Nat) (bytes : List Byte) (w : WriteTlp) (unsupported : Bool), s.boot.up = false →
    exec (.inboundWrite f off bytes w) s = .next s ∧
    (s.boot.recovery = true →
      exec (.inboundRead f off ⟨n, unsupported⟩) s = .next { s with pcie := s.pcie ++ [.completion f n 0 .success] })) ∧
  (∀ (s : State) (n : Nat) (r : Req) (x : CplStatus) (data : BitVec 2048), s.req n = some r → r.atHost = true → r.kind = .unitRead →
    r.from_ = none →
    Reaches (.hostReadCompletion n x data) s (fun u => u.req n = some { r with
      stage := .replied true (if x = .success then 0 else 0x1F0), data := data.setWidth 512 }) ∧
    (s.waitsForever r = false → Reaches (.completionTimeout n) s (fun u => u.req n = some { r with stage := .replied true 0x1F0, data := 0 })) ∧
    (s.waitsForever r = true → exec (.completionTimeout n) s = .next s)) ∧
  (∀ (s : State) (n : Nat) (x : CplStatus) (data : BitVec 2048), s.req n = none →
    exec (.hostReadCompletion n x data) s = .next s ∧ exec (.completionTimeout n) s = .next s)

/-- The String and the links (R214, R406): every operation from another package becomes a request at its home here, with what the
flit carries, for a grid that the package tells apart from its own, and an answer ends the request it answers, a clamped sum telling its
strand (R224); with both ports down none arrives (R434); failed flits are counted, and 16 failures of one move a mesh link to its
spare wires; a lost mesh link is recorded; a lost String port breaks the ring there, and what travels through it takes
LINKFAIL; retraining loses nothing. -/
def Sys2Proof.Claims.LinksCarryTraffic : Prop :=
  (∀ (s : State) (f : Flit), s.eastDown = true → s.westDown = true → exec (.stringFlitArrive f) s = .next s) ∧
  (∀ (s : State) (q : FlitReq) (k : ReqKind), (s.eastDown && s.westDown) = false →
    (match q.op with
      | .write m => k = if m then .merge else .copyWrite
      | .fill pf => k = .fill pf
      | .read n => k = .copyRead n
      | .fetch => k = .fetch
      | .kindQuery => k = .kindQuery
      | .atomic op dbl => k = .amo op dbl
      | .lrw => k = .lrw
      | .sch => k = .sch
      | .rrel => k = .rrel
      | .enq nw => k = .enq nw
      | .deq nw => k = .deq nw
      | .publish => k = .proofPub
      | .wait => k = .proofWait
      | .take => k = .proofTake
      | .test => k = .proofTest
      | .readGen => k = .proofRead
      | .advance => k = .proofAdvance
      | .check => k = .prarm
      | .armWait => k = .armWait 1024
      | .armTake => k = .armTake 1024
      | .withdraw => False
      | .gridEnd _ => False
      | .dtu => False) →
    Reaches (.stringFlitArrive (.request q)) s fun u => u.mem = s.mem ∧ u.proofs = s.proofs ∧
      ∃ r, u.req s.nextId = some r ∧ r.kind = k ∧ r.stage = .toDtu ∧ r.ctx = q.ctx ∧ r.world = q.world ∧ r.gva = q.gva ∧
        r.b = q.b ∧ r.mask = q.mask ∧ r.data = q.data ∧ r.bad = q.poisoned ∧ r.from_ = some (flitFrom q, q.id) ∧
        r.grid = flitGrid q ∧ r.a = if k = .proofPub then 0 else q.a) ∧
  (∀ (s : State) (n i : Nat) (r : Req) (x : PRes) (data : BitVec 2048) (kind : Fin 4), s.req n = some r → r.stage = .remote →
    (s.eastDown && s.westDown) = false → r.res = some i → tblGet s.results i = some x →
    (r.kind = .lrw → Reaches (.stringFlitArrive (.reply n data 0 kind)) s fun u => u.req n = none ∧
      tblGet u.results i = some { x with value := data, pend := [], ready := true }) ∧
    (∀ op dbl, r.kind = .amo op dbl → Reaches (.stringFlitArrive (.reply n data 0 kind)) s fun u => u.req n = none ∧
      tblGet u.results i = some { x with value := data, pend := [], ready := true, setSat := x.setSat || kind == 1 })) ∧
  (∀ (s : State) (l : Link) (fails : Nat), Reaches (.meshFlitRetry l fails) s fun u =>
    (u.die (Link.die l)).linkrty = (s.die (Link.die l)).linkrty + BitVec.ofNat 64 fails ∧
    (u.die (Link.die l)).lanespare = (s.die (Link.die l)).lanespare + (if 16 ≤ fails then 1 else 0) ∧ u.reqs = s.reqs) ∧
  (∀ (s : State) (l : Link), exec (.linkRetrainComplete l) s = .next s) ∧
  (∀ (s : State) (d n : Nat), d < 4 → (s.die d).mgmt.length < 256 → Reaches (.linkFail (.mesh d n) []) s fun u =>
    ∃ r, (u.die d).mgmt = (s.die d).mgmt ++ [r] ∧ r.link = some (.mesh d n) ∧ r.kind = 4 ∧ u.grids = s.grids) ∧
  (∀ (s : State) (east : Bool) (reqs : List Nat), Reaches (.linkFail (.string east) reqs) s fun u =>
    u.eastDown = (s.eastDown || east) ∧ u.westDown = (s.westDown || !east)) ∧
  (∀ (s : State) (east : Bool) (reqs : List Nat) (k g slot : Nat) (r : Req) (x : Grid), s.reqs = [(k, r)] → r.kind = .merge →
    r.stage = .remote → r.from_ = none → r.front = false → r.writers = [(slot, g)] →
    Config.routeEast s.cfg.ringN s.cfg.pkg r.ringDest = east → s.gridOf g = some x → x.st = .running →
    Reaches (.linkFail (.string east) reqs) s fun u => u.req k = none ∧
      ∃ y, u.gridOf g = some y ∧ y.st = .ending ∧ y.cause = causeOf 14 r.src 1)

/-- Power, reset and boot (R402, R434, R438, R441): a package reset, THERMTRIP and the removal of power empty every volatile part;
after THERMTRIP only the removal of power ends the reset. When PERST# is deasserted the boot runs to step 7, or halts at the
step that failed, with its cause, in recovery after any step but the first; a station that fails its test is retired; the slots that
are ACTIVE, then those that are STANDBY, are tried in turn, and one whose signatures fail or whose version is below the minimum is
INVALID and gives way to the next (over ACTIVE and STANDBY slots alone, and with cause 0 at step 1: log entry 53). The table's LP6
shares are judged at step 4 and its role map and other limits at step 6 (log entry 90): a map that boots gives each die one pager and one
management, thermal and launch supervisor station, all in the Bridge column (R439). A configuration write is kept (log entry 55). Until
step 7 configuration requests are to be retried. -/
def Sys2Proof.Claims.PowerAndBoot : Prop :=
  (∀ s : State, (s.boot.trip = true → exec .packageReset s = .next s) ∧
    (s.boot.trip = false → Reaches .packageReset s fun u => u.boot = { step := 0, perst := true } ∧ u.mem = State.reset.mem ∧
      u.strands = State.reset.strands ∧ u.grids = State.reset.grids ∧ u.fw.slot = s.fw.slot)) ∧
  (∀ s : State, s.boot.off = false → Reaches .thermtrip s fun u => u.boot = { step := 0, trip := true } ∧ u.strands = State.reset.strands) ∧
  (∀ s : State, Reaches .powerRemoval s fun u => u.boot = { step := 0, off := true } ∧ u.strands = State.reset.strands) ∧
  (∀ s : State, s.boot.perst = true → Reaches .ringTokenTimeout s fun u => u.cfg.ringN = 1 ∧ u.cfg.pkg = 0 ∧ u.boot = s.boot ∧
    u.eastDown = true ∧ u.westDown = true) ∧
  (∀ (s : State) (im : Vector Bool 2), s.boot.perst = true →
    let boots (found : BootCheck) (lp6Ok : Bool) : Instr := .perstDeassertion found lp6Ok im
    let good : BootCheck := ⟨true, true, [], [], []⟩
    let fine (i : Fin 2) : Prop := im[i] = true ∧ s.fw.minSvn ≤ s.fw.svns[i]
    let why (i : Fin 2) : Cause := if im[i] then 0x373 else 0x370
    let halts (u : State) (n : Nat) (c : Cause) : Prop := u.boot.step = n ∧ u.boot.halted = some c ∧ u.fw.cause = c ∧
      (u.boot.recovery = true ↔ 1 < n)
    let roles : Prop := s.cfg.rolesOk = true ∧ s.cfg.limitsOk = true
    (∀ x b, x.clocks = false → Reaches (boots x b) s fun u => halts u 1 0) ∧
    (∀ x b, x.clocks = true → x.table = false → Reaches (boots x b) s fun u => halts u 2 0x371) ∧
    (∀ x b, x.clocks = true → x.table = true → (b = false ∨ s.cfg.sharesOk = false) → Reaches (boots x b) s fun u => halts u 4 0x374) ∧
    (s.cfg.sharesOk = true →
      (∀ i l, s.fw.bootOrder = i :: l → fine i →
        (roles → Reaches (boots good true) s fun u => u.boot.up = true ∧ u.fw.run = i ∧ u.fw.slot = s.fw.slot ∧
          u.cfg.shift = s.cfg.tableShift ∧ (s.cfg.guestPresent = true → u.guest.st = .resetting)) ∧
        (¬ roles → Reaches (boots good true) s fun u => halts u 6 0x374)) ∧
      (∀ i j l, s.fw.bootOrder = i :: j :: l → i ≠ j → ¬ fine i → fine j → roles → Reaches (boots good true) s fun u =>
        u.boot.up = true ∧ u.fw.run = j ∧ u.fw.slot = s.fw.slot.set i .invalid ∧ u.fw.cause = why i) ∧
      (∀ i, s.fw.bootOrder = [i] → ¬ fine i → Reaches (boots good true) s fun u =>
        halts u 5 (why i) ∧ u.fw.slot = s.fw.slot.set i .invalid) ∧
      (∀ i j, s.fw.bootOrder = [i, j] → i ≠ j → ¬ fine i → ¬ fine j → Reaches (boots good true) s fun u =>
        halts u 5 (why j) ∧ u.fw.slot[i] = .invalid ∧ u.fw.slot[j] = .invalid) ∧
      (∀ st i l, s.fw.bootOrder = i :: l → fine i → roles → st < 1024 → s.cfg.tableShift = List.replicate 64 16 →
        Reaches (boots ⟨true, true, [st], [], []⟩ true) s fun u => u.boot.up = true ∧ (u.station st).failed = (s.station st).failed ∧
          (u.die (dieOf st)).repair.getLsbD (32 + rowOf st) = true ∧
          u.cfg.shift = (List.replicate 64 16).set (16 * dieOf st + rowOf st) (colOf st)))) ∧
  (∀ c : CfgTable, c.rolesOk = true → (∀ e ∈ c.roles, e.1 < 1024 ∧ isBridge c e.1 = true) ∧
    (∀ e ∈ c.roles, ∀ e' ∈ c.roles, e.1 = e'.1 → e = e') ∧
    (∀ d, d < 4 → ∀ r : Role, r ∈ ([.pager, .management, .thermal, .supervisor] : List Role) →
      ∃ st, dieOf st = d ∧ (st, r) ∈ c.roles ∧ ∀ st', dieOf st' = d → (st', r) ∈ c.roles → st' = st) ∧
    (∃ st, (st, .frontEnd) ∈ c.roles) ∧ ∃ st, (st, .scrubber) ∈ c.roles) ∧
  (∀ (f : Firmware) (i : Fin 2), i ∈ f.bootOrder ↔ (f.slot[i] = .active ∨ f.slot[i] = .standby)) ∧
  (∀ (s : State) (f off : Nat) (v : BitVec 32), s.boot.off = false → s.boot.trip = false → s.boot.halted = none →
    (s.boot.recovery = false → s.boot.step ≠ 7 →
      exec (.configurationRequest (.read f off)) s = .next { s with pcie := s.pcie ++ [.config 0 true] }) ∧
    (s.boot.recovery = false → s.boot.step = 7 → f < s.cfg.funcWorlds.length →
      Reaches (.configurationRequest (.write f off v)) s fun u => tblGet u.cfgSpace (f * 4096 + off) = some v ∧
        u.pcie = s.pcie ++ [.config v false]))

/-! ### The guest (R213, R267 to R271, R300, R372 to R374, R406 to R410, R436) -/

/-- Packets at the guest (R267 to R271, R300, R351, R408): a TAKE waits for a packet; the packet at its queue's head whose wait is
answered is delivered to it, as its slot then reads; DONE and FAULT make a delivered packet final, and
publish its proof or end its grid; a packet that is not delivered makes the answer a violation, which freezes the guest; a
pre-empted context's packets go back. -/
def Sys2Proof.Claims.GuestPackets : Prop :=
  (∀ (s : State) (q : Nat), s.guest.st = .online → s.nextPacket q = none → s.queueOwner q = none → Reaches (.guestTake q) s fun u =>
    u.guest = { s.guest with takes := s.guest.takes ++ [q] } ∧ u.mem = s.mem) ∧
  (∀ (s : State) (q : Nat) (e : GSent) (p : Pkt) (r : Req) (c : Cause), s.guest.st = .online → s.guest.sent = [e] → e.gqn = q →
    s.gridGone e.grid = false → (s.ctx e.ctx).suspended = false → s.guest.pkts = [p] → p.gqn = q → p.seq.toNat = e.seq →
    p.st = .waiting → s.guest.returned = [] → s.guest.takes = [q] → s.req p.req = some r → s.queueWaits = [] →
    s.nextPacket q = some e → e.world = s.cfg.guestWorld → s.recallDescs [e] = none → s.slotBusy (e.desc.key.getD 0) s.nextId = false →
    (r.stage = .waiting → exec (.guestWaithSatisfied q) s = .next s) ∧
    (∀ b, r.stage = .replied true c → s.packetBytes e = .ok (b, false) s → packetBad s.cfg b = none →
      (s.deliverPacket e b).nextPacket q = none → Reaches (.guestWaithSatisfied q) s fun u => u.req p.req = none ∧ u.guest.takes = [] ∧
      u.guest.pkts = [{ gqn := q, seq := p.seq, bytes := b, st := .delivered }] ∧
      u.guest.out = s.guest.out ++ [.packet q p.seq b])) ∧
  (∀ (s : State) (q : Nat) (seq : Word) (e : GSent) (p : Pkt), s.guest.st = .online → s.guest.ignored = [] → s.guest.takes = [] →
    s.guest.pkts = [p] → p.gqn = q → p.seq = seq → p.st = .delivered → s.guest.sent = [e] → e.gqn = q → e.seq = seq.toNat →
    (s.ctx e.ctx).parked = false → s.recallDescs [e] = none →
    (pktPub p.bytes = true → Reaches (.guestDone q seq) s fun u =>
      u.guest.sent = [] ∧ u.guest.pkts = [] ∧ ∃ r, u.req s.nextId = some r ∧ r.kind = .proofPub ∧ r.gva = pktWord p.bytes 8 ∧
        r.b = pktWord p.bytes 16 ∧ r.grid = e.grid) ∧
    (∀ (cause : Cause) (g : Grid), cause.toNat / 64 ≠ 0 → cause.toNat / 64 ≠ 12 → cause.toNat / 64 ≠ 15 → s.gridOf e.grid = some g →
      g.st = .running → e.from_ = none → Reaches (.guestFault q seq cause) s fun u => u.guest.sent = [] ∧
        ∃ h, u.gridOf e.grid = some h ∧ h.st = .ending ∧ h.cause = causeOf (cause.toNat / 64) 7 (cause.toNat % 8)) ∧
    (s.guest.preempting = [e.ctx] → Reaches (.guestReturn q seq) s fun u => u.guest.pkts = [] ∧
      u.guest.returned = s.guest.returned ++ [p] ∧ u.guest.sent = s.guest.sent)) ∧
  (∀ (s : State) (q : Nat) (seq : Word), s.guest.st = .online → s.guest.ignored = [] → s.guest.pkts = [] →
    Reaches (.guestDone q seq) s fun u => u.guest.st = .frozen ∧ u.guest.lastCause = 0x339)

/-- Parking, translations and coherence of the guest (R213, R300, R372 to R374): PARKED is accepted once no delivered packet of the
context is left; a late PARKED or INVACK freezes the guest; TRQ is translated like any request or refused; a coherent request
is performed on a frame that an entry of the directory gives and the firewall passes, an eviction of a clean line needing no right, and freezes the guest otherwise, with the frame in its record (R368); a snoop takes
a line from the guest's cache, or leaves it a copy without ownership, as its kind says. -/
def Sys2Proof.Claims.GuestMemory : Prop :=
  (∀ (s : State) (c : Nat) (x : Context), s.guest.st = .online → s.guest.preempting = [c] → s.guest.pkts = [] →
    tblGet s.ctxs c = some x → Reaches (.parked c) s fun u => u.guest.preempting = [] ∧ (u.ctx c).parked = true) ∧
  (∀ (s : State) (c : Nat), s.guest.st = .online → s.guest.preempting.contains c = true → Reaches (.parklate c) s fun u =>
    u.guest.st = .frozen ∧ u.guest.lastCause = 0x338) ∧
  (∀ (s : State) (c : Nat) (g : Word) (wr : Bool), s.guest.st = .online →
    (s.guestMay c = false → Reaches (.trq c g wr) s fun u => u.reqs = s.reqs ∧
      u.guest.out = s.guest.out ++ [.trsStatus (gvaPage g) true]) ∧
    (s.guestMay c = true → gvaOk s.cfg g = true → gvaPkg g = s.cfg.pkg → Reaches (.trq c g wr) s fun u =>
      ∃ r, u.req s.nextId = some r ∧ r.kind = .trq ∧ r.ctx = c ∧ r.gva = g ∧ r.world = s.cfg.guestWorld)) ∧
  (∀ (s : State) (i : Nat), Reaches (.invack i) s fun u => u.guest.st = s.guest.st ∧
    u.guest.invs = s.guest.invs.filter (fun x => x.id != i) ∧ u.guest.out = s.guest.out) ∧
  (∀ (s : State) (i : Nat), (s.guest.invs.any fun x => x.id == i) = true → Reaches (.invlate i) s fun u =>
    u.guest.invs = s.guest.invs.filter (fun x => x.id != i) ∧ u.guest.st = .frozen ∧ u.guest.lastCause = 0x33A) ∧
  (∀ (s : State) (a : Word) (d : BitVec 512) (e : DirEntry) (die off : Nat), s.guest.st = .online → s.guest.invs = [] →
    s.guest.dir = [e] → e.frame = a &&& 0xFFFFFFFFFFFF0000#64 → guestLoc a = some (die, 2, .lp6 die off) → off % 64 = 0 →
    (s.ctx e.ctx).parked = false →
    let passes : Bool := s.fwPass { ctx := e.ctx, world := s.cfg.guestWorld, guest := true } 0 die fun _ => (Loc.lp6 die off).home die
    (e.r = true → passes = true → (s.die die).regionHas { ctx := e.ctx, world := s.cfg.guestWorld, guest := true } .read 2 (bits a 47 16) = true →
      Reaches (.guestCoherentRequest .rdCurr a d) s fun u => u.mem = s.mem ∧ u.guest.out = s.guest.out ++
        [.data (BitVec.ofNat 512 (s.homeNat (.lp6 die off) 64)) (s.readPoison (.lp6 die off) 64).isSome]) ∧
    (e.r = true → passes = false →
      (s.die die).regionHas { ctx := e.ctx, world := s.cfg.guestWorld, guest := true } .read 2 (bits a 47 16) = true →
      Reaches (.guestCoherentRequest .rdCurr a d) s fun u => u.guest.st = .frozen ∧ u.guest.lastCause = 0x2F0 ∧ u.mem = s.mem) ∧
    (e.w = true → passes = true → (s.die die).regionHas { ctx := e.ctx, world := s.cfg.guestWorld, guest := true } .write 2 (bits a 47 16) = true →
      Memory.wf s.mem = true → Reaches (.guestCoherentRequest .wrCur a d) s fun u =>
        (∀ i, i < 64 → memGet u.mem (die * 2 ^ 48 + off + i) = d.extractLsb' (8 * i) 8) ∧
        ∀ k, (k < die * 2 ^ 48 + off ∨ die * 2 ^ 48 + off + 64 ≤ k) → memGet u.mem k = memGet s.mem k) ∧
    (passes = true → (s.die die).regionHas { ctx := e.ctx, world := s.cfg.guestWorld, guest := true } .locate 2 (bits a 47 16) = true →
      Reaches (.guestCoherentRequest .cleanEvict a d) s fun u => u.mem = s.mem ∧
        (die * 2 ^ 48 + off) / 64 ∉ u.guest.owned ∧ (die * 2 ^ 48 + off) / 64 ∉ u.guest.shared)) ∧
  (∀ (s : State) (a : Word) (d : BitVec 512), s.guest.st = .online → s.guest.invs = [] → s.guest.dir = [] → (s.die 0).mgmt.length < 256 →
    Reaches (.guestCoherentRequest .rdCurr a d) s fun u => u.guest.st = .frozen ∧ u.guest.lastCause = 0x33B ∧ u.mem = s.mem ∧
      ∃ r, (u.die 0).mgmt = (s.die 0).mgmt ++ [r] ∧ r.code = 0x33B ∧ r.addr = a &&& 0xFFFFFFFFFFFF0000#64) ∧
  (∀ (s : State) (i line : Nat), s.guest.snoops = [(i, line, .inv)] → Reaches (.guestSnoopResponse i .noData) s fun u =>
    u.guest.snoops = [] ∧ line ∉ u.guest.owned ∧ line ∉ u.guest.shared ∧ u.mem = s.mem) ∧
  (∀ (s : State) (i line : Nat), s.guest.snoops = [(i, line, .data)] → line ∈ s.guest.owned →
    Reaches (.guestSnoopResponse i .noData) s fun u =>
      u.guest.snoops = [] ∧ line ∉ u.guest.owned ∧ line ∈ u.guest.shared ∧ u.mem = s.mem)

/-- The guest's reset and its link (R406, R410, R436): the reset forgets takes, directory and cache, counts itself, and the guest is
RESETTING until READY makes it ONLINE, or the deadline OFFLINE; it drops pending TAKEs and parks the contexts being pre-empted, of
which R410 is silent (log entry 21); a lost link and an overloaded rail end in it too. -/
def Sys2Proof.Claims.GuestResets : Prop :=
  (∀ s : State, s.guest.st = .online → s.guest.sent = [] → Reaches .guestReset s fun u => u.guest.st = .resetting ∧
    u.guest.lastCause = 0x33D ∧ u.guest.resets = s.guest.resets + 1 ∧ u.guest.takes = [] ∧ u.guest.dir = [] ∧ u.guest.invs = [] ∧
    u.guest.owned = [] ∧ u.guest.railsCut = false ∧ ∀ c ∈ s.guest.preempting, ∀ x, tblGet s.ctxs c = some x → (u.ctx c).parked = true) ∧
  (∀ s : State, s.guest.st = .resetting → s.guest.railsCut = false → s.guest.sent = [] →
    exec .ready s = .next { s with guest := { s.guest with st := .online } }) ∧
  (∀ s : State, s.guest.st = .online → Reaches .ready s fun u => u.guest.st = .frozen ∧ u.guest.lastCause = 0x339) ∧
  (∀ s : State, s.guest.st = .resetting → exec .readyTimeout s = .next { s with guest := { s.guest with st := .offline } }) ∧
  (∀ s : State, s.guest.st = .online → s.guest.sent = [] → (s.die 0).mgmt.length < 256 →
    (Reaches .linkdown s fun u => u.guest.st = .resetting ∧ u.guest.lastCause = 0x33C ∧
      ∃ r, (u.die 0).mgmt = (s.die 0).mgmt ++ [r] ∧ r.code = 0x33C) ∧
    Reaches .guestRailOverload s fun u => u.guest.st = .resetting ∧ u.guest.railsCut = true)

/-! ### Completion: the state and the operands in which an instruction goes on (R53, R128, R198, R218 to R221) -/

/-- The instruction completes: its strand goes on to the next instruction. -/
def Sys2Proof.Claims.GoesOn (i : Instr) (s : State) (t : Strand) : Prop := Reaches i s fun u => WentOn u s.cur t

/-- PHASE and the fences (R198, R199, R206, R218 to R221). PHASE.R and PHASE.RA begin their release and are held; once the release is
done the strand goes on. PHASE.A and FENCEI go on at once, QFENCE once its conditions hold, and a prefetch whatever its
address. -/
def Sys2Proof.Claims.PhasesAndFencesGoOn : Prop :=
  ∀ (s : State) (t : Strand) (sc : Scope) (e : Bool), s.curStrand = some t → t.frozen = none →
    let st := s.curStation
    let mark := (s.station st).cycAge
    let released (i : Instr) : Prop := Reaches i s fun u => pcOf u s.cur = some t.pc ∧
      (u.releaseDone t st sc mark s.nextAge = true → Reaches (.phaseReleaseComplete s.cur) u fun v => WentOn v s.cur t)
    released (.phaseR sc e) ∧ released (.phaseRa sc e) ∧ GoesOn (.phaseA sc e) s t ∧ GoesOn (.fencei e) s t ∧
    (∀ m : BitVec 4, t.hold = .none →
      s.qfenceDone t st m (s.station st).cpy.entered (s.station st).eng.entered s.nextId = true → GoesOn (.qfence m e) s t) ∧
    (∀ a : SReg, Passes s t 0 e [.s a] [] → GoesOn (.prefL1 a e) s t ∧ GoesOn (.prefHome a e) s t)

/-- Floating, comparing, moving and counting vector instructions (R133 to R138, R141, R147 to R153): with usable operands each goes
on, whatever the values are. -/
def Sys2Proof.Claims.VectorInstructionsGoOn : Prop :=
  ∀ (s : State) (t : Strand) (vd va vb : VReg) (d a b : SReg) (pd pa pb pg : PReg) (e : Bool) (it : ITy) (ft : FTy) (ty : ETy),
    (Passes s t 1 e [.v va, .v vb] [.v vd] →
      GoesOn (.fadd ft vd va vb pg e) s t ∧ GoesOn (.fsub ft vd va vb pg e) s t ∧ GoesOn (.fmul ft vd va vb pg e) s t ∧
      GoesOn (.fmin ft vd va vb pg e) s t ∧ GoesOn (.fmax ft vd va vb pg e) s t ∧ GoesOn (.vsel ty vd va vb pg e) s t ∧
      GoesOn (.vperm it vd va vb pg e) s t ∧ GoesOn (.vzip ty vd va vb pg e) s t ∧ GoesOn (.vuzp ty vd va vb pg e) s t) ∧
    (Passes s t 1 e [.v va, .v vb, .v vd] [.v vd] → GoesOn (.fma ft vd va vb pg e) s t) ∧
    (Passes s t 1 e [.v va, .s b] [.v vd] →
      GoesOn (.faddVs ft vd va b pg e) s t ∧ GoesOn (.fsubVs ft vd va b pg e) s t ∧ GoesOn (.fmulVs ft vd va b pg e) s t ∧
      GoesOn (.fminVs ft vd va b pg e) s t ∧ GoesOn (.fmaxVs ft vd va b pg e) s t ∧ GoesOn (.vslideUp ty vd va b pg e) s t ∧
      GoesOn (.vslideDn ty vd va b pg e) s t) ∧
    (Passes s t 1 e [.v va, .s b, .v vd] [.v vd] → GoesOn (.fmaVs ft vd va b pg e) s t) ∧
    (Passes s t 1 e [.v va] [.v vd] →
      GoesOn (.fabs ft vd va pg e) s t ∧ GoesOn (.fneg ft vd va pg e) s t ∧ GoesOn (.vmov ty vd va pg e) s t ∧
      (∀ m : BitVec 5, GoesOn (.vhad32 ty vd va m pg e) s t ∧ GoesOn (.vmaxx ty vd va m pg e) s t) ∧
      (∀ op : RedOp, GoesOn (.vred op ty vd va pg e) s t) ∧
      ((s.station s.curStation).sfu.length < 16 → ∀ fn : SfuFn, GoesOn (.vsfu fn ft vd va pg e) s t)) ∧
    (Passes s t 1 e [.v va, .v vb] [] →
      GoesOn (.vcmpEq it pd va vb pg e) s t ∧ GoesOn (.vcmpNe it pd va vb pg e) s t ∧ GoesOn (.vcmpLt it pd va vb pg e) s t ∧
      GoesOn (.vcmpLe it pd va vb pg e) s t ∧ GoesOn (.vcmpLtu it pd va vb pg e) s t ∧ GoesOn (.vcmpLeu it pd va vb pg e) s t ∧
      GoesOn (.fcmpEq ft pd va vb pg e) s t ∧ GoesOn (.fcmpNe ft pd va vb pg e) s t ∧ GoesOn (.fcmpLt ft pd va vb pg e) s t ∧
      GoesOn (.fcmpLe ft pd va vb pg e) s t ∧ GoesOn (.fcmpUn ft pd va vb pg e) s t) ∧
    (Passes s t 1 e [.s a] [.v vd] → GoesOn (.vbcast ty vd a pg e) s t) ∧
    (Passes s t 1 e [.v va, .s b] [.s d] → GoesOn (.vext ty d va b e) s t) ∧
    (∀ n : BitVec 16, Passes s t 1 e [] [.v vd] → GoesOn (.vbcasthBf16 vd n e) s t ∧ GoesOn (.vbcasthF32 vd n e) s t) ∧
    (Passes s t 1 e [.s a, .s b] [] → GoesOn (.vwhile ty pd a b e) s t) ∧
    (Passes s t 1 e [] [.s d] → GoesOn (.vwidth ty d e) s t ∧ GoesOn (.pcnt ty d pa pg e) s t) ∧
    (s.curStrand = some t →
      GoesOn (.pand pd pa pb pg e) s t ∧ GoesOn (.por pd pa pb pg e) s t ∧ GoesOn (.pxor pd pa pb pg e) s t ∧
      GoesOn (.pnot pd pa pg e) s t ∧ GoesOn (.pfirst ty pd pa pg e) s t)

/-- Conversions and vector memory (R98, R139 to R141, R143 to R146, R149, R150): a conversion goes on unless MODE.CVM asks for a trap, and
VDQ's tag must agree; an access by address goes on when the active elements' addresses are aligned and in range; a plate access
when they are aligned, in range and granted, and the guest's cache holds none of the lines. -/
def Sys2Proof.Claims.VectorConversionsAndMemoryGoOn : Prop :=
  ∀ (s : State) (t : Strand) (vd va vb : VReg) (a b : SReg) (pg : PReg) (e : Bool) (ft : FTy) (ty sty : ETy) (rs : RSel),
    (t.cvmTrap = false →
      (Passes s t 1 e [.v va] [.v vd] →
        GoesOn (.vcvt ty sty rs vd va pg e) s t ∧ (∀ fmt : PsFmt, GoesOn (.vqps fmt ft rs vd va pg e) s t) ∧
        (∀ h : BitVec 4, GoesOn (.vunpk5 vd va h pg e) s t ∧ GoesOn (.vpack5 vd va h pg e) s t) ∧
        (∀ fmt : DqFmt, fmt ≠ .mx → s.xrMismatch t va = false → GoesOn (.vdq ft fmt rs vd va pg e) s t)) ∧
      (Passes s t 1 e [.v va, .v (nextReg va)] [.v vd] → GoesOn (.vdq ft .mx rs vd va pg e) s t) ∧
      (Passes s t 1 e [.v va] [.v vd, .v (nextReg vd)] → GoesOn (.vqnt ft rs vd va pg e) s t)) ∧
    (let sz := ty.size
     let along := seqA (s.sval t a + s.sval t b) sz
     let spread := offA (s.sval t a) sz (s.oldV t vb)
     (Passes s t 1 e [.s a, .s b] [.v vd] → AddrsOk s sz (t.pred pg) along → GoesOn (.vld ty vd a b pg e) s t) ∧
     (Passes s t 1 e [.s a, .s b, .v vd] [] → AddrsOk s sz (t.pred pg) along → GoesOn (.vst ty vd a b pg e) s t) ∧
     (Passes s t 1 e [.s a, .v vb] [.v vd] → AddrsOk s sz (t.pred pg) spread → GoesOn (.vgath ty vd a vb pg e) s t) ∧
     (Passes s t 1 e [.s a, .v vb, .v vd] [] → AddrsOk s sz (t.pred pg) spread → GoesOn (.vscat ty vd a vb pg e) s t)) ∧
    (let sz := ty.size
     let st := s.curStation
     let base := (s.sval t a + s.sval t b).toNat % 2 ^ 32
     let sla (j : Nat) : Nat := (base + sz * j) % 2 ^ 32
     let on (j : Nat) : Prop := j < 256 / sz ∧ active sz (t.pred pg) j = true
     let slas := ((List.range (256 / sz)).filter fun j => active sz (t.pred pg) j).map sla
     let fits (wr : Bool) : Prop := ∀ j, on j → sla j % sz = 0 ∧ sla j + sz ≤ s.plateSize st ∧
       ∀ j', on j' → sla j ≤ sla j' → (s.station st).protOk t.protKind wr (sla j) (sla j' + sz - sla j) = true
     (Passes s t 1 e [.s a, .s b] [.v vd] → fits false → s.recallPlate st slas sz false = none → GoesOn (.vlds ty vd a b pg e) s t) ∧
     (Passes s t 1 e [.s a, .s b, .v vd] [] → fits true → s.recallPlate st slas sz true = none → GoesOn (.vsts ty vd a b pg e) s t))

/-- The engines' instructions, ports and control (R157, R167 to R171, R175, R177, R231 to R239, R310 to R317, R377 to R382): with room
in the queue an entry goes in and its strand goes on; a stream is bound to a free port; the ready queue, the timer and the
privileged instructions answer at once; a barrier goes on for its last strand. Room for a handler's entries is that of places of its own
(log entry 38); FREEZE and THAW of a KIND above 4 go on, and reserved operand bits are ignored (log entries 98 and 43). -/
def Sys2Proof.Claims.EngineAndControlInstructionsGoOn : Prop :=
  ∀ (s : State) (t : Strand) (a b c d : SReg) (e : Bool), s.curStrand = some t → t.hold = .none →
    let st := s.curStation
    let g := (s.station st).eng
    let room : Prop := (if t.ahead 2 g.halted then g.handlerQ else g.queue).length < 16
    (t.loose = false → room → GoesOn (.mswapL e) s t ∧ GoesOn (.mswapA e) s t ∧ GoesOn (.mswapLa e) s t ∧
      (∀ back, GoesOn (.mzero back e) s t) ∧
      (∀ sel : Fin 7, Passes s t 2 e [.s b] [.s a] → GoesOn (.mstat sel a b e) s t) ∧
      (Passes s t 2 e [.s a] [] →
        ((s.sval t a).toNat < 2 ^ 12 → (s.sval t a).toNat / 2 ^ 6 % 4 = 0 → (s.sval t a).toNat % 2 ^ 6 ≤ 40 → GoesOn (.mcfg a e) s t) ∧
        (∀ (fmt : DrainFmt) (back : Bool), (s.sval t a).toNat < 2 ^ 32 → (s.sval t a).toNat % 64 = 0 →
          GoesOn (.mdrain fmt .none back a b c e) s t)) ∧
      (∀ (va vb : VReg) (n : Fin 8), Passes s t 2 e [.v va, .v vb] [] →
        (g.issueConfig (t.ahead 2 g.halted)).getLsbD 11 = true → n.val ≤ (g.issueConfig (t.ahead 2 g.halted)).toNat / 2 ^ 8 % 8 →
        GoesOn (.mstep va vb n e) s t)) ∧
    (t.loose = false → s.engDone st t g.entered = true → GoesOn (.mwait e) s t) ∧
    (∀ tr : Bool, t.loose = false → Passes s t 2 e [.s a] [] → (s.sval t a).toNat % 128 = 0 → gvaOk s.cfg (s.sval t a) = true →
      s.latchFree st s.nextId = true →
      (Reaches (.mldwT64 false tr a e) s fun u => (u.station st).eng.loading = some t.tag) ∧
      (Reaches (.mldwC64 false tr a e) s fun u => (u.station st).eng.loading = some t.tag)) ∧
    (∀ q : Fin 8, t.ports[q] = .unbound → t.stageCsr.toNat / 8 = 0 →
      GoesOn (.punbind q e) s t ∧ (Passes s t 3 e [] [.s a] → GoesOn (.pstat a q e) s t) ∧
      (Passes s t 3 e [.s a, .s b] [] → (s.sval t a).toNat / 2 ^ 60 = 2 → (s.sval t a).toNat / 2 ^ 16 % 16 = 0 →
        (s.sval t b).toNat % 64 = 0 → GoesOn (.pbind q a b e) s t)) ∧
    (∀ (q : Fin 8) (p : Stream), t.ports[q] = .stream p → Passes s t 3 e [.s a] [] → GoesOn (.pskip q a e) s t) ∧
    ((s.station st).wakes t = true → GoesOn (.sleep e) s t) ∧
    (t.loose = false → s.timeSliced st = false → GoesOn (.yield e) s t) ∧
    (∀ ch, t.loose = false → (s.station st).chord = some ch → ch.cbarCount + 1 = ch.live.length → ch.live.Nodup → t.tag ∈ ch.live →
      GoesOn (.cbar e) s t) ∧
    (Passes s t 0 e [.s a, .s b] [.s d] → (s.sval t a).toNat < 4 → GoesOn (.rqpush d a b e) s t) ∧
    (Passes s t 0 e [.s a] [.s d] →
      ((s.sval t a).toNat < 16 → GoesOn (.rqpop d a e) s t) ∧ ((s.sval t a).toNat < 2 ^ 32 → GoesOn (.tmrset d a e) s t) ∧
      (s.sval t a = 1 → GoesOn (.mrecv d a e) s t)) ∧
    (t.priv = true →
      (Passes s t 0 e [.s a] [.s d] →
        GoesOn (.spls d a e) s t ∧ GoesOn (.splr d a e) s t ∧ GoesOn (.commit d a e) s t ∧ GoesOn (.dtqry 3 d a e) s t ∧
        ((∀ j : Fin 8, (s.die s.curDie).fbuf[j] = none) → GoesOn (.dtrepFail d a e) s t)) ∧
      (Passes s t 0 e [] [.s d] → (∀ j : Fin 8, (s.die s.curDie).fbuf[j] = none) → GoesOn (.dtrep d e) s t) ∧
      (Passes s t 0 e [.s a] [] →
        (4 < (s.sval t a).toNat / 2 ^ 60 → GoesOn (.freeze a e) s t ∧ GoesOn (.thaw a e) s t) ∧
        (dtPkg (s.sval t a) = s.cfg.pkg → s.reqs = [] → s.guest.dir = [] → s.guest.invs = [] →
          GoesOn (.dtinvPage a e) s t ∧ GoesOn (.dtinvCtx a e) s t ∧ GoesOn (.dtinvAll a e) s t)) ∧
      (∀ n : BitVec 6, Passes s t 0 e [.s a, .s d] [] → GoesOn (.rgnw d a n e) s t) ∧
      (∀ n : BitVec 4, Passes s t 0 e [.s a, .s d] [] → GoesOn (.puw d a n e) s t))

/-- The copy engine's instructions (R238, R239), here without a completion action: an aligned descriptor of the plate that the
protection unit grants, that the guest's cache does not hold, that is not poisoned and breaks no rule joins a queue that has
room, and the strand goes on. -/
def Sys2Proof.Claims.CopyInstructionsGoOn : Prop :=
  ∀ (s : State) (t : Strand) (a b c : SReg) (e : Bool), Passes s t 3 e [.s a] [] → t.loose = false →
    let st := s.curStation
    let sla := (s.sval t a).toNat % 2 ^ 32
    let g := (s.station st).cpy
    let room : Prop := (if t.ahead 3 g.halted then g.handlerQ else g.queue).length < 16
    let fine (op : CopyOp) : Prop := (s.copyDesc st sla).check s.cfg op (BitVec.ofNat 64 sla) = none
    sla % 64 = 0 → sla + 64 ≤ s.plateSize st → (s.station st).protOk t.protKind false sla 64 = true →
    s.recall (.plate st sla) 64 false = none → s.readPoison (.plate st sla) 64 = none → room →
    (fine .cpy → GoesOn (.cpy .none a b c e) s t) ∧ (fine .cpyt → GoesOn (.cpyt .none a b c e) s t) ∧
    (fine .cpyd → GoesOn (.cpyd .none a b c e) s t) ∧ (fine .cpys → GoesOn (.cpys .none a b c e) s t)

/-! ### Frames: what an instruction leaves alone (R3, R28 to R33) -/

/-- The strand of the executing slot after an instruction whose destinations are `dst`: every other register, predicate, port and
control register is as before, MSTICKY and SEED aside, and so is every other slot. -/
def Sys2Proof.Claims.StrandKept (s u : State) (t : Strand) (dst : List Opnd) : Prop :=
  (∀ k, k ≠ s.cur → u.slot k = s.slot k) ∧
  ∃ c, u.curStrand = some c ∧ c.hold = .none ∧
    { c with x := t.x, v := t.v, pc := t.pc, hold := t.hold, rep := t.rep, msticky := t.msticky, seed := t.seed } = t ∧
    (∀ r, Opnd.s r ∉ dst → u.scellNow s.cur c r = s.scellNow s.cur t r) ∧
    (∀ r, Opnd.v r ∉ dst → u.vcellNow s.cur c r = s.vcellNow s.cur t r)

/-- The stations after an instruction that writes registers alone: at most the shared registers of the strand's station change. -/
def Sys2Proof.Claims.StationsKept (s u : State) : Prop :=
  (∀ n, n ≠ s.curStation → u.station n = s.station n) ∧
  { u.station s.curStation with chord := (s.station s.curStation).chord, same := (s.station s.curStation).same } = s.station s.curStation ∧
  ∀ c, (u.station s.curStation).chord = some c → ∃ c0, (s.station s.curStation).chord = some c0 ∧
    { c with yreg := c0.yreg, wreg := c0.wreg } = c0

/-- The frame of every instruction whose result a statement gives as "writes v to the scalar register d": nothing outside the
strand changes but a shared register; no other register, predicate, port, flag, control register or byte of memory changes. An
x register holds v and is full, x0 takes nothing, a y register still reads as before in this cycle (R28, R30). -/
def Sys2Proof.Claims.ScalarResultFrame : Prop :=
  ∀ (i : Instr) (s u : State) (t : Strand) (d : SReg) (v : Word), s.curStrand = some t → Writes i s d v → exec i s = .next u →
    { u with strands := s.strands, stations := s.stations } = s ∧ StrandKept s u t [.s d] ∧ StationsKept s u ∧
    ((∀ j, d ≠ .y j) → ∀ n, u.station n = s.station n) ∧
    ∃ c, u.curStrand = some c ∧ c.v = t.v ∧ c.msticky = t.msticky ∧ c.seed = t.seed ∧ (d = .x 0 → c.x = t.x) ∧
      (∀ j, j ≠ 0 → d = .x j → c.x[j] = { val := v }) ∧ ∀ r, u.scell s.cur c (.y r) = s.scell s.cur t (.y r)

/-- The frame of every instruction whose result a statement gives as `vecNext`, in a register, and of the comparisons: only that
register (when a source was a port, marked empty for the result that follows), MSTICKY and SEED, or the predicate, change; and
where a port is written or read, that port alone changes (R50). -/
def Sys2Proof.Claims.VectorResultFrame : Prop :=
  (∀ (s : State) (t : Strand) (viaPort sr : Bool) (vd : VReg) (v : VWord) (fl : FlagSet), s.curStrand = some t →
    (∀ q, vd ≠ .q q) →
    let u := vecNext s t viaPort sr vd v fl
    { u with strands := s.strands, stations := s.stations, results := s.results, nextId := s.nextId } = s ∧
    StrandKept s u t [.v vd] ∧ StationsKept s u ∧ (∀ n, n ≠ s.nextId → tblGet u.results n = tblGet s.results n) ∧
    (viaPort = false → u.results = s.results) ∧
    ∃ c, u.curStrand = some c ∧ c.x = t.x ∧ c.msticky = t.msticky ||| fl ∧ c.seed = (if sr then t.seed + 1 else t.seed) ∧
      (∀ j, vd = .v j → viaPort = false → c.v[j] = { val := v, xr := t.xr }) ∧
      (∀ j, vd = .v j → viaPort = true → (c.v[j]).full = false ∧
        (tblGet u.results s.nextId).map (fun r => (r.value, r.ready, r.dst)) = some (v, true, .v vd))) ∧
  (∀ (s : State) (t : Strand) (viaPort sr : Bool) (q : Fin 8) (v : VWord) (fl : FlagSet), s.curStrand = some t →
    let u := vecNext s t viaPort sr (.q q) v fl
    { u with strands := s.strands, nextId := s.nextId } = s ∧ (∀ k, k ≠ s.cur → u.slot k = s.slot k) ∧
    ∃ c, u.curStrand = some c ∧ c.hold = .none ∧ c.msticky = t.msticky ||| fl ∧ c.seed = (if sr then t.seed + 1 else t.seed) ∧
      { c with ports := t.ports, pc := t.pc, hold := t.hold, rep := t.rep, msticky := t.msticky, seed := t.seed } = t ∧
      ∀ r : Fin 8, r ≠ q → c.ports[r] = t.ports[r]) ∧
  (∀ (s : State) (t : Strand) (pd : PReg) (P : PWord) (F : FlagSet), s.curStrand = some t →
    let u := (s.modCur fun c => (c.setPred pd P).raise F).advance
    { u with strands := s.strands } = s ∧ (∀ k, k ≠ s.cur → u.slot k = s.slot k) ∧
    ∃ c, u.curStrand = some c ∧ { c with p := t.p, msticky := t.msticky, pc := t.pc, hold := t.hold, rep := t.rep } = t ∧
      c.msticky = t.msticky ||| F ∧ ∀ q, c.pred q = if q = pd ∧ pd ≠ 0 then P else t.pred q) ∧
  (∀ (s : State) (t : Strand) (va : VReg), s.curStrand = some t →
    let u := (s.takeV va).2
    { u with strands := s.strands } = s ∧ (∀ k, k ≠ s.cur → u.slot k = s.slot k) ∧
    ∃ c, u.curStrand = some c ∧ { c with ports := t.ports } = t ∧ ∀ q : Fin 8, va ≠ .q q → c.ports[q] = t.ports[q])

/-- What a completed store leaves alone: home memory (for a store by GVA), every register, and every store that the buffer held. -/
def Sys2Proof.Claims.BufferFrame (i : Instr) (s : State) (t : Strand) : Prop :=
  ∀ u, exec i s = .next u →
    { u with strands := s.strands, stations := s.stations, reqs := s.reqs, nextId := s.nextId, nextAge := s.nextAge } = s ∧
    StrandKept s u t [] ∧ (∀ n, n ≠ s.curStation → u.station n = s.station n) ∧
    { u.station s.curStation with stores := (s.station s.curStation).stores } = s.station s.curStation ∧
    (s.station s.curStation).stores <+: (u.station s.curStation).stores ∧
    ∀ n, n < s.nextId → u.req n = s.req n

/-- The frame of the stores (R121, R124, R139 to R141) when they complete: ST, VST and VSCAT change no byte of memory and nothing but
the strand's PC and the station's store buffer, and may ask for a page's kind; STL and VSTS change no byte of memory outside
the plate bytes that they store, and nothing but the PC and the plate. -/
def Sys2Proof.Claims.StoreFrame : Prop :=
  (∀ (s : State) (t : Strand) (sz : Size) (d a : SReg) (I : BitVec 12) (e : Bool), Passes s t 0 e [.s a, .s d] [] →
    let addr := s.sval t a + I.signExtend 64
    addr.toNat % sz.bytes = 0 → gvaOk s.cfg addr = true → BufferFrame (.st sz d a I e) s t) ∧
  (∀ (s : State) (t : Strand) (ty : ETy) (vd : VReg) (a : SReg) (pg : PReg) (e : Bool),
    (∀ b, Passes s t 1 e [.s a, .s b, .v vd] [] →
      AddrsOk s ty.size (t.pred pg) (seqA (s.sval t a + s.sval t b) ty.size) → BufferFrame (.vst ty vd a b pg e) s t) ∧
    (∀ vb, Passes s t 1 e [.s a, .v vb, .v vd] [] →
      AddrsOk s ty.size (t.pred pg) (offA (s.sval t a) ty.size (s.oldV t vb)) → BufferFrame (.vscat ty vd a vb pg e) s t)) ∧
  (∀ (s u : State) (t : Strand) (sz : Size) (d a : SReg) (I : BitVec 12) (e : Bool), Passes s t 0 e [.s a, .s d] [] →
    let sla := (s.sval t a + I.signExtend 64).toNat % 2 ^ 32
    let st := s.curStation
    sla % sz.bytes = 0 → sla + sz.bytes ≤ s.plateSize st → (s.station st).protOk t.protKind true sla sz.bytes = true →
    s.recall (.plate st sla) sz.bytes = none → Memory.wf s.mem = true → exec (.stl sz d a I e) s = .next u →
      { u with strands := s.strands, mem := s.mem, poison := s.poison } = s ∧ StrandKept s u t [] ∧
      ∀ k, (k < 2 ^ 52 + st * 2 ^ 23 + sla ∨ 2 ^ 52 + st * 2 ^ 23 + sla + sz.bytes ≤ k) → memGet u.mem k = memGet s.mem k)

/-- What an instruction that sends a request leaves alone, beside the state `b` in which its sources are read: memory, every register
but its destination, and every request and result that stands. -/
def Sys2Proof.Claims.RequestFrame (i : Instr) (s b : State) (dst : List Opnd) : Prop :=
  ∀ u t, exec i s = .next u → b.curStrand = some t →
    { u with strands := b.strands, stations := b.stations, reqs := b.reqs, results := b.results, nextId := b.nextId } = b ∧
    StrandKept b u t dst ∧ StationsKept b u ∧
    ∀ n, n < b.nextId → u.req n = b.req n ∧ tblGet u.results n = tblGet b.results n

/-- The frame of the instructions that send one request to a home (R217, R222 to R229, R304, R306). Where the packet of an ENQ
comes from a port, the state in which it is read is the one that the port's word has left (R50). -/
def Sys2Proof.Claims.RequestsFrame : Prop :=
  ∀ (s : State) (t : Strand) (d a b : SReg) (e : Bool),
    let addr := s.sval t a
    gvaOk s.cfg addr = true → addr.toNat % 64 = 0 →
    (Passes s t 0 e [.s a, .s b] [.s d] → ∀ x ∈ amoTable, ∀ dbl, RequestFrame (x.1 dbl d a b e) s s [.s d]) ∧
    (Passes s t 0 e [.s a, .s b] [.s d] → RequestFrame (.amofadd32 d a b e) s s [.s d] ∧ RequestFrame (.amofxadd d a b e) s s [.s d]) ∧
    (Passes s t 0 e [.s a, .s b, .s d] [.s d] → ∀ dbl, RequestFrame (.amocas dbl d a b e) s s [.s d]) ∧
    (Passes s t 0 e [.s a] [.s d] → RequestFrame (.lrw d a e) s s [.s d] ∧ RequestFrame (.spawn d a e) s s [.s d] ∧
      RequestFrame (.spawnl d a e) s s [.s d]) ∧
    (Passes s t 0 e [.s a, .s b] [] → RequestFrame (.sch a b e) s s []) ∧
    (Passes s t 0 e [.s a] [] → RequestFrame (.rrel a e) s s []) ∧
    (∀ v : VReg, Passes s t 0 e [.s a, .v v] [.s d] → RequestFrame (.enq d a v e) s (s.takeV v).2 [.s d] ∧
      RequestFrame (.enqNw d a v e) s (s.takeV v).2 [.s d]) ∧
    (∀ v : VReg, (∀ q, v ≠ .q q) → Passes s t 0 e [.s a] [.v v] → RequestFrame (.deq v a e) s s [.v v] ∧
      RequestFrame (.deqNw v a e) s s [.v v])

/-! ### The machine -/

/-- Every instruction and every event has its meaning: it answers a next state. A step stops only while the device is held in
reset, in boot or without power (R438, R441) and nothing from outside is left to happen. -/
def Sys2Proof.Claims.AnswersNext : Prop :=
  (∀ (i : Instr) (s : State), ∃ u, exec i s = .next u) ∧
  (∀ s : State, (s.agenda ≠ [] ∨ s.boot.up = true) → ∃ u, step s = .next u) ∧
  (∀ s : State, s.agenda = [] → s.boot.up = false → step s = .fault .deviceHeld)

/-- What a step does. An event at the head of the agenda (the model's input, log entry 1) happens when it may, and a service with no
row in the opcode table is done (log entry 100). Else the station in focus goes on: a cycle begins with the choice of its issuers, of
which a strand that could not issue takes no part (R287); the slot that issues next executes the instruction that its word decodes to (R45 to R55), and a word that
decodes to none is the illegal instruction of R53. The word is that of the cached line at its PC. -/
def Obligations.StepRunsTheDecodedInstruction : Prop :=
  (∀ (s : State) (e : Instr) (rest : List Turn), s.agenda = .act e :: rest →
    (Instr.happens e = true → step s = exec e { s with agenda := rest }) ∧
    (Instr.happens e = false → step s = .next { s with agenda := rest })) ∧
  (∀ (s : State) (st : Nat) (rest : List Turn), s.agenda = .run st :: rest → step s = .next { s with agenda := rest, focus := st % 1024 }) ∧
  (∀ (s : State) (x : Service) (rest : List Turn), s.agenda = .serve x :: rest →
    step s = .next (({ s with agenda := rest } : State).serve x)) ∧
  (∀ s : State, s.agenda = [] → s.boot.up = true → (s.station s.focus).plan = none →
    let u := s.settle s.focus
    step s = u.runPlan s.focus (u.issuers s.focus)) ∧
  (∀ (s s' : State) (k : Nat) (rest : List Nat) (t : Strand) (w : BitVec 32), s.agenda = [] → s.boot.up = true →
    (s.station s.focus).plan = some (k :: rest) →
    let s1 : State := { s.modStation s.focus fun S => { S with plan := some rest } with cur := k }
    s1.slot k = some t → s1.pendingTrap k t = none → s1.nextWord t = .word w s' →
    (∀ i u, decodeWord w = .ok i → exec i s' = .next u → step s = .next (u.keepWord s'.cur w)) ∧
    (∀ d, decodeWord w = .error d → step s = exec (.illegalInstruction (t.wordCause w d)) s')) ∧
  (∀ (s : State) (t : Strand) (d : BitVec 512), t.hold = .none → t.rep = none → gvaOk s.cfg t.pc = true →
    tblGet (s.station s.curStation).icache (t.pc.toNat / 64) = some (d, false) →
    s.nextWord t = .word (d.extractLsb' (8 * (t.pc.toNat % 64)) 32) s) ∧
  (∀ s : State, s.agenda = [] → s.boot.up = true → (s.station s.focus).plan = some [] → step s = .next (s.endCycle s.focus))

/-- The canonical form of the state is kept by every step: memory lists rising keys and no zero byte, and the station in focus
exists. -/
def Obligations.EveryStepKeepsTheCanonicalForm : Prop := ∀ s u : State, s.wf = true → step s = .next u → u.wf = true

/-- The state after reset is in canonical form, up, and empty: no strand, grid, context, request, store or chord, an engine of a
station as R156 resets it, every host queue DISABLED, and no proof, shard or window. The boot has reached step 7 (R438). -/
def Obligations.ResetIsCanonicalAndEmpty : Prop :=
  State.reset.wf = true ∧ State.reset.boot.up = true ∧ State.reset.strands = [] ∧ State.reset.grids = [] ∧ State.reset.ctxs = [] ∧
  State.reset.reqs = [] ∧ State.reset.proofs = [] ∧ State.reset.shards = [] ∧ State.reset.agenda = [] ∧
  (∀ k, memGet State.reset.mem k = 0) ∧ (∀ k, State.reset.poisonAt k = none) ∧
  (∀ n, (State.reset.station n).stores = [] ∧ (State.reset.station n).chord = none ∧ (State.reset.station n).eng.queue = [] ∧
    (State.reset.station n).eng.steps = 0 ∧ (State.reset.station n).eng.bp = 24 ∧ (State.reset.station n).eng.mg = 7 ∧
    ∀ k : Fin 2, (State.reset.station n).eng.acc[k] = { raw := 0, nan := 0 }) ∧
  (∀ q, (State.reset.queue q).st = .disabled) ∧ (∀ f, (State.reset.window f).valid = false)

/-! ### Encodings (R45 to R79) -/

/-- Decoding is right on words that the spec works out (R126, R155, R177, R229, R264, R324, R382 and the chapters' tables). -/
def Obligations.WorkedEncodingsDecode : Prop :=
  ∀ x ∈ ([(0x04221801, .sub (.x 1) (.x 2) (.x 3) false), (0x0C853104, .divuW (.x 4) (.x 5) (.x 6) false),
      (0x2C400002, .lui (.x 2) 2 false), (0x40220005, .beq (.x 1) (.x 2) 5 false), (0x60610004, .bpredAll 3 4 false),
      (0x59FFFFFE, .jal (.x 15) (-2)), (0x5C0F0000, .jalr (.x 0) (.x 15) 0 false), (0x64A25FF8, .ld .w (.x 5) (.x 2) (-8) true),
      (0x68E26410, .st .d (.x 7) (.x 2) 16 true), (0x6C64C008, .stl .w (.x 3) (.x 4) 8 false), (0x70000034, .phaseRa .system false),
      (0x74E94009, .amocas false (.x 7) (.x 9) (.x 8) false), (0x7C020401, .prwait (.x 2) true),
      (0x8022D900, .vadd .i8 (.v 1) (.v 2) (.q 3) 2 false), (0x848590D3, .fma .f32 (.v 4) (.v 5) (.w 2) 1 false),
      (0xA821E800, .vaddVi .i8 (.v 1) (.v 1) (-3) 0 false), (0xC0600043, .mldwC64 false true (.x 3) false),
      (0xC4850001, .pbind 1 (.x 4) (.x 5) false), (0xC8070002, .migrate (.x 7) false), (0xCC221802, .rqpush (.x 1) (.x 2) (.x 3) false),
      (0xD0030805, .csrw (.x 0) (.x 3) 5 false), (0xD4000000, .uret false), (0xD8624801, .puw (.x 3) (.x 2) 1 false)] :
      List (BitVec 32 × Instr)), decodeWord x.1 = .ok x.2

/-- Every well-formed instruction, with every operand that its encoding admits, has a word, and that word decodes to it. -/
def Obligations.EncodedInstructionsDecode : Prop :=
  ∀ i : Instr, i.isWord = true → i.wf = true → ∃ w, encode i = some w ∧ decodeWord w = .ok i

/-- Every word that decodes does so to a well-formed instruction whose word it is: no two words stand for one instruction, and no
bit of a word is ignored (R52). -/
def Obligations.DecodedWordsEncode : Prop :=
  ∀ (w : BitVec 32) (i : Instr), decodeWord w = .ok i → i.isWord = true ∧ i.wf = true ∧ encode i = some w

/-! ### The statements that join the claims above -/

/-- The result of every scalar arithmetic instruction. -/
def Obligations.ScalarArithmeticResults : Prop :=
  Claims.ScalarBinaryResults ∧
  Claims.ScalarWordBinaryResults ∧
  Claims.ScalarUnaryResults ∧
  Claims.SelectResult

/-- CSR reads, writes, field masks and refused accesses. -/
def Obligations.ControlRegisters : Prop :=
  Claims.CsrInstructions ∧
  Claims.CsrReadValues ∧
  Claims.CsrWriteEffects ∧
  Claims.CsrIllegalAccesses

/-- LD: a load that hits and a load that misses. -/
def Obligations.ScalarLoads : Prop :=
  Claims.LoadOfHeldBytes ∧
  Claims.LoadThatMisses

/-- ST: the store buffer, and the address checks of LD and ST. -/
def Obligations.ScalarStores : Prop :=
  Claims.StoreEntersBuffer ∧
  Claims.LoadStoreAddressFaults

/-- The examination of operands at issue, poison, and what a precise fault does. -/
def Obligations.IssueExaminationAndFaults : Prop :=
  Claims.UsableOperandsPass ∧
  Claims.EmptySourceTrapsOrHolds ∧
  Claims.PoisonedOperandFaults ∧
  Claims.PreciseFaultEndsGrid

/-- User-level traps: entry, TRAPU, illegal instructions, URET and the order at a boundary. -/
def Obligations.UserTraps : Prop :=
  Claims.TrapEntry ∧
  Claims.TrapuAndIllegal ∧
  Claims.TrapReturn ∧
  Claims.BoundaryTrapOrder

/-- SVC, SRET and the arrival of a result. -/
def Obligations.ServiceAndArrival : Prop :=
  Claims.ServiceRequestAndReturn ∧
  Claims.ResultArrivalFillsRegister

/-- The vector integer instructions, element by element. -/
def Obligations.VectorInteger : Prop :=
  Claims.VectorIntegerResults ∧
  Claims.VectorMadAbsNegResults

/-- VCMP, FCMP and rounding to an integer. -/
def Obligations.VectorComparisons : Prop :=
  Claims.VectorCompareResults ∧
  Claims.RoundingModesOfIntegers

/-- Vector movement, predicates and VREP. -/
def Obligations.VectorMovement : Prop :=
  Claims.VectorMoveResults ∧
  Claims.PredicateResults ∧
  Claims.RepetitionBegins

/-- VLD, VGATH, VST and VSCAT. -/
def Obligations.VectorMemory : Prop :=
  Claims.VectorLoadsOfHeldBytes ∧
  Claims.VectorLoadsThatMiss ∧
  Claims.VectorStoresEnterBuffer

/-- VQNT, VQPS and VDQ (VDQ of the element -128 at scale 254 is the model, log entry 81). -/
def Obligations.Quantisation : Prop :=
  Claims.QuantisationResults ∧
  Claims.DequantisationResults

/-- VRED and VSFU. -/
def Obligations.ReductionsAndSpecialFunctions : Prop :=
  Claims.ReductionResults ∧
  Claims.SpecialFunctionUnit

/-- The matrix instructions at issue (16 places of a handler of its own are the model, log entry 38). -/
def Obligations.MatrixIssue : Prop :=
  Claims.MatrixInstructionsEnterQueue ∧
  Claims.MatrixWaitAndLoadBegin

/-- The latch load and the entries the engine performs. -/
def Obligations.MatrixPerforms : Prop :=
  Claims.MatrixLatchLoad ∧
  Claims.MatrixEntriesPerformed

/-- PBIND, PUNBIND, PSTAT and PSKIP (the order of the faults of a loose PBIND is the model, log entry 73). -/
def Obligations.PortOperations : Prop :=
  Claims.PortBinding ∧
  Claims.PortInstructions

/-- Far atomics, LRW, SCH, RREL, ENQ, DEQ and SPAWN at issue. -/
def Obligations.RequestsToHomes : Prop :=
  Claims.BankInstructionsSendRequests ∧
  Claims.SpawnInstructions

/-- Reservations and global queues at their bank. -/
def Obligations.ReservationsAndQueues : Prop :=
  Claims.ReservationsAtBank ∧
  Claims.GlobalQueuesAtBank

/-- PHASE, QFENCE, FENCEI and PREF. -/
def Obligations.PhasesAndFences : Prop :=
  Claims.PhaseAndFenceEffects ∧
  Claims.PhaseConditions ∧
  Claims.PhasesAndFencesGoOn

/-- CPY, CPYT, CPYD and CPYS at issue (16 places of a handler of its own are the model, log entry 38). -/
def Obligations.CopyInstructionsEnterQueue : Prop :=
  Claims.CopyInstructionsAtIssue ∧
  Claims.CopyInstructionsGoOn

/-- What the copy engine does. -/
def Obligations.CopyPerforms : Prop :=
  Claims.CopyEntriesPerformed ∧
  Claims.CopyMovesTheBytes ∧
  Claims.CopyByEitherAddress

/-- MSEND, MRECV, the ready queue and the timer. -/
def Obligations.MessagesReadyQueueTimer : Prop :=
  Claims.MessagesAreSentAndReceived ∧
  Claims.ReadyQueueAndTimer

/-- Proofs at their home, and the reply. -/
def Obligations.ProofsAnswered : Prop :=
  Claims.ProofsAtHome ∧
  Claims.ProofReplies

/-- The privileged instructions: the check and the effects (FREEZE and THAW of a KIND above 4, and reserved operand bits, are the model, log entries 98 and 43). -/
def Obligations.Privileged : Prop :=
  Claims.PrivilegeIsChecked ∧
  Claims.PrivilegedControl

/-- Merges, fills, page kinds and host-window writes (merged bytes as clean copies are the model, log entry 13). -/
def Obligations.HomeEvents : Prop :=
  Claims.StoresMergeAtHome ∧
  Claims.FillsSupplyLines ∧
  Claims.PageKindsAndHostWrites

/-- Launches, courses, chords and the end of grids. -/
def Obligations.LaunchAndEnd : Prop :=
  Claims.LaunchUnitAccepts ∧
  Claims.CoursesAndChordsStart ∧
  Claims.ChordsAndGridsEnd

/-- The host queues: registers, commands, waits and completion. -/
def Obligations.HostQueues : Prop :=
  Claims.HostQueueRegisters ∧
  Claims.HostCommands ∧
  Claims.HostWaitsAndCompletion

/-- Contexts: suspension, migration, creation and destruction. -/
def Obligations.Contexts : Prop :=
  Claims.ContextCommands ∧
  Claims.ContextsBeginAndEnd

/-- Spilled strands and chords, heat, and the walk of the waits (how a copy queue is saved is the model, log entry 49). -/
def Obligations.Spills : Prop :=
  Claims.SlotsSpillAndReturn ∧
  Claims.ChordsSpillAndReturn ∧
  Claims.HeatTakesSlots ∧
  Claims.WaitsAreWalked

/-- The PCIe link, the String, the mesh links, power and boot (boot order and configuration writes are the model, log entries 53, 55 and 90). -/
def Obligations.PackageEdge : Prop :=
  Claims.LinkRequests ∧
  Claims.LinksCarryTraffic ∧
  Claims.PowerAndBoot

/-- The guest: packets, parking, translations, coherence and reset (what a reset drops beside R410 is the model, log entry 21). -/
def Obligations.Guest : Prop :=
  Claims.GuestPackets ∧
  Claims.GuestMemory ∧
  Claims.GuestResets

/-- Storage errors, self-test and management records (code and kind of a failed self-test are the model, log entry 80). -/
def Obligations.ErrorsAndManagement : Prop :=
  Claims.StorageErrors ∧
  Claims.TestsAndManagement

/-- Weight shards, firmware images and the registers of BAR0 (parts are the model, log entries 53, 60, 84 and 89). -/
def Obligations.ShardsImagesRegisters : Prop :=
  Claims.WeightShards ∧
  Claims.FirmwareImages ∧
  Claims.RegisterWrites

/-- What an instruction with a register result leaves unchanged. -/
def Obligations.ResultFrames : Prop :=
  Claims.ScalarResultFrame ∧
  Claims.VectorResultFrame

/-- What stores and requests leave unchanged. -/
def Obligations.StoreAndRequestFrames : Prop :=
  Claims.StoreFrame ∧
  Claims.RequestsFrame

/-- Every instruction and every event completes (log entries 38, 43 and 98 are the model). -/
def Obligations.NothingStops : Prop :=
  Claims.AnswersNext ∧
  Claims.VectorInstructionsGoOn ∧
  Claims.VectorConversionsAndMemoryGoOn ∧
  Claims.EngineAndControlInstructionsGoOn
end

