-- ==== Sys2Proof/Laws/Codec.lean ====
section
/-! SUPPORT. The small lemmas of the encoding: each operand field's code fits its field and is read back,
and a word's fields are read back from the word. -/

namespace Sys2Proof

/-- Every field fits its width (R46, R47). -/
def Fields.fits (f : Fields) : Prop :=
  f.maj < 64 ∧ f.f1 < 32 ∧ f.f2 < 32 ∧ f.f3 < 32 ∧ f.lo < 1024

theorem Fields.ofWord_toWord (f : Fields) (h : f.fits) : Fields.ofWord f.toWord = f := by
  obtain ⟨maj, f1, f2, f3, e, lo⟩ := f
  obtain ⟨h0, h1, h2, h3, h4⟩ := h
  simp only at h0 h1 h2 h3 h4
  cases e <;>
  · simp only [Fields.ofWord, Fields.toWord, BitVec.toNat_ofNat, Fields.mk.injEq, if_true, if_false,
      Bool.false_eq_true, decide_eq_true_eq, decide_eq_false_iff_not]
    refine ⟨?_, ?_, ?_, ?_, ?_, ?_⟩ <;> omega

@[simp] theorem SReg.code_lt (r : SReg) : r.code < 32 := by
  cases r with
  | x i => simp only [SReg.code]; omega
  | y i => simp only [SReg.code]; omega

@[simp] theorem VReg.code_lt (r : VReg) : r.code < 32 := by
  cases r with
  | v i => simp only [VReg.code]; omega
  | w i => simp only [VReg.code]; omega
  | q i => simp only [VReg.code]; omega

@[simp] theorem sregOf_code (r : SReg) : sregOf r.code = r := by
  cases r with
  | x i => revert i; decide
  | y i => revert i; decide

@[simp] theorem vregOf_code (r : VReg) : vregOf r.code = r := by
  cases r with
  | v i => revert i; decide
  | w i => revert i; decide
  | q i => revert i; decide

@[simp] theorem pregOf_val (p : PReg) : pregOf p.val = p := by simp [pregOf]

@[simp] theorem ety_code (t : ETy) : ety t.code = some t := by cases t <;> rfl
@[simp] theorem ity_code (t : ITy) : ity t.code = some t := by cases t <;> rfl
@[simp] theorem fty_code (t : FTy) : fty t.code = some t := by cases t <;> rfl
@[simp] theorem ETy.code_lt (t : ETy) : t.code < 6 := by cases t <;> decide
@[simp] theorem ITy.code_lt (t : ITy) : t.code < 4 := by cases t <;> decide
@[simp] theorem FTy.code_lt (t : FTy) : t.code < 6 := by cases t <;> decide
@[simp] theorem sizeOf4_code (t : Size) : sizeOf4 t.code = t := by cases t <;> rfl
@[simp] theorem Size.code_lt (t : Size) : t.code < 4 := by cases t <;> decide
@[simp] theorem ldSizeOf_code (t : LdSize) : ldSizeOf t.code = some t := by cases t <;> rfl
@[simp] theorem LdSize.code_lt (t : LdSize) : t.code < 7 := by cases t <;> decide
@[simp] theorem scopeOf_code (t : Scope) : scopeOf t.code = some t := by cases t <;> rfl
@[simp] theorem Scope.code_lt (t : Scope) : t.code < 5 := by cases t <;> decide
@[simp] theorem psFmtOf_code (t : PsFmt) : psFmtOf t.code = some t := by cases t <;> rfl
@[simp] theorem PsFmt.code_lt (t : PsFmt) : t.code < 3 := by cases t <;> decide
@[simp] theorem dqFmtOf_code (t : DqFmt) : dqFmtOf t.code = some t := by cases t <;> rfl
@[simp] theorem DqFmt.code_lt (t : DqFmt) : t.code < 4 := by cases t <;> decide
@[simp] theorem sfuFnOf_code (t : SfuFn) : sfuFnOf t.code = some t := by cases t <;> rfl
@[simp] theorem SfuFn.code_lt (t : SfuFn) : t.code < 8 := by cases t <;> decide
@[simp] theorem redOpOf_code (t : RedOp) : redOpOf t.code = some t := by cases t <;> rfl
@[simp] theorem RedOp.code_lt (t : RedOp) : t.code < 11 := by cases t <;> decide
@[simp] theorem complOf_code (t : Compl) : complOf t.code = some t := by cases t <;> rfl
@[simp] theorem Compl.code_lt (t : Compl) : t.code < 3 := by cases t <;> decide
@[simp] theorem drainFmtOf_code (t : DrainFmt) : drainFmtOf t.code = t := by cases t <;> rfl
@[simp] theorem DrainFmt.code_lt (t : DrainFmt) : t.code < 4 := by cases t <;> decide
@[simp] theorem RSel.low_lt (t : RSel) : t.low < 4 := by
  cases t with
  | explicit m => cases m <;> decide
  | _ => decide
@[simp] theorem RSel.high_cases (t : RSel) : t.high = 0 ∨ t.high = 8 := by cases t <;> simp [RSel.high]

/-- Form V's low bits are read back. -/
theorem Fields.v_vlo (maj f1 f2 f3 : Nat) (e : Bool) (pg ty fn : Nat) (h : ty < 8 ∧ fn < 16) :
    Fields.v ⟨maj, f1, f2, f3, e, vlo pg ty fn⟩ = ⟨f1, f2, f3, e, pg, ty, fn⟩ := by
  simp only [Fields.v, vlo, VFields.mk.injEq, true_and]; omega

/-- Form M's low bits are read back. -/
theorem Fields.m_mlo (maj f1 f2 f3 : Nat) (e : Bool) (fn imm : Nat) (h : imm < 64) :
    Fields.m ⟨maj, f1, f2, f3, e, mlo fn imm⟩ = ⟨f1, f2, f3, e, fn, imm⟩ := by
  simp only [Fields.m, mlo, MFields.mk.injEq, true_and]; omega

@[simp] theorem bv15_parts (b : BitVec 15) :
    BitVec.ofNat 15 (b.toNat / 1024 * 1024 + b.toNat % 1024) = b := by
  rw [Nat.div_add_mod']; simp
@[simp] theorem bv20_parts (b : BitVec 20) :
    BitVec.ofNat 20 (b.toNat / 2 ^ 15 * 2 ^ 15 + b.toNat / 1024 % 32 * 2 ^ 10 + b.toNat % 1024) = b := by
  have : b.toNat / 2 ^ 15 * 2 ^ 15 + b.toNat / 1024 % 32 * 2 ^ 10 + b.toNat % 1024 = b.toNat := by omega
  rw [this]; simp

/-! ### The shapes, read back from the codes -/

theorem shDAB_code (c : SReg → SReg → SReg → Bool → Instr) (d a b : SReg) (e : Bool) (maj lo : Nat) :
    shDAB c ⟨maj, d.code, a.code, b.code, e, lo⟩ = .ok (c d a b e) := by simp [shDAB]
theorem shDA_code (c : SReg → SReg → Bool → Instr) (d a : SReg) (e : Bool) (maj lo : Nat) :
    shDA c ⟨maj, d.code, a.code, 0, e, lo⟩ = .ok (c d a e) := by simp [shDA, needField]
theorem shAB_code (c : SReg → SReg → Bool → Instr) (a b : SReg) (e : Bool) (maj lo : Nat) :
    shAB c ⟨maj, 0, a.code, b.code, e, lo⟩ = .ok (c a b e) := by simp [shAB, needField]
theorem shA_code (c : SReg → Bool → Instr) (a : SReg) (e : Bool) (maj lo : Nat) :
    shA c ⟨maj, 0, a.code, 0, e, lo⟩ = .ok (c a e) := by simp [shA, needField]
theorem sh0_code (c : Bool → Instr) (e : Bool) (maj lo : Nat) :
    sh0 c ⟨maj, 0, 0, 0, e, lo⟩ = .ok (c e) := by simp [sh0, needField]
theorem shB_code (c : SReg → SReg → BitVec 15 → Bool → Instr) (d a : SReg) (i : BitVec 15) (e : Bool)
    (maj : Nat) :
    shB c ⟨maj, d.code, a.code, i.toNat / 1024, e, i.toNat % 1024⟩ = .ok (c d a i e) := by
  simp [shB, imm15]
theorem shD_code (c : SReg → SReg → BitVec 15 → Bool → Instr) (a b : SReg) (i : BitVec 15) (e : Bool)
    (maj : Nat) :
    shD c ⟨maj, a.code, b.code, i.toNat / 1024, e, i.toNat % 1024⟩ = .ok (c a b i e) := by
  simp [shD, imm15]

end Sys2Proof
end

