-- ==== Sys2Proof/Laws/Exec.lean ====
section
/-! SUPPORT. What `exec` does with each instruction and event: its meaning, by one lemma for each arm. -/

namespace Sys2Proof.Machine

@[simp] theorem exec_add {d a b e} (s : State) : exec (.add d a b e) s = execAdd d a b e s := rfl
@[simp] theorem exec_sub {d a b e} (s : State) : exec (.sub d a b e) s = execSub d a b e s := rfl
@[simp] theorem exec_and {d a b e} (s : State) : exec (.and d a b e) s = execAnd d a b e s := rfl
@[simp] theorem exec_or {d a b e} (s : State) : exec (.or d a b e) s = execOr d a b e s := rfl
@[simp] theorem exec_xor {d a b e} (s : State) : exec (.xor d a b e) s = execXor d a b e s := rfl
@[simp] theorem exec_sll {d a b e} (s : State) : exec (.sll d a b e) s = execSll d a b e s := rfl
@[simp] theorem exec_srl {d a b e} (s : State) : exec (.srl d a b e) s = execSrl d a b e s := rfl
@[simp] theorem exec_sra {d a b e} (s : State) : exec (.sra d a b e) s = execSra d a b e s := rfl
@[simp] theorem exec_slt {d a b e} (s : State) : exec (.slt d a b e) s = execSlt d a b e s := rfl
@[simp] theorem exec_sltu {d a b e} (s : State) : exec (.sltu d a b e) s = execSltu d a b e s := rfl
@[simp] theorem exec_min {d a b e} (s : State) : exec (.min d a b e) s = execMin d a b e s := rfl
@[simp] theorem exec_max {d a b e} (s : State) : exec (.max d a b e) s = execMax d a b e s := rfl
@[simp] theorem exec_minu {d a b e} (s : State) : exec (.minu d a b e) s = execMinu d a b e s := rfl
@[simp] theorem exec_maxu {d a b e} (s : State) : exec (.maxu d a b e) s = execMaxu d a b e s := rfl
@[simp] theorem exec_clz {d a e} (s : State) : exec (.clz d a e) s = execClz d a e s := rfl
@[simp] theorem exec_ctz {d a e} (s : State) : exec (.ctz d a e) s = execCtz d a e s := rfl
@[simp] theorem exec_popc {d a e} (s : State) : exec (.popc d a e) s = execPopc d a e s := rfl
@[simp] theorem exec_sextB {d a e} (s : State) : exec (.sextB d a e) s = execSextB d a e s := rfl
@[simp] theorem exec_sextH {d a e} (s : State) : exec (.sextH d a e) s = execSextH d a e s := rfl
@[simp] theorem exec_sextW {d a e} (s : State) : exec (.sextW d a e) s = execSextW d a e s := rfl
@[simp] theorem exec_zextB {d a e} (s : State) : exec (.zextB d a e) s = execZextB d a e s := rfl
@[simp] theorem exec_zextH {d a e} (s : State) : exec (.zextH d a e) s = execZextH d a e s := rfl
@[simp] theorem exec_zextW {d a e} (s : State) : exec (.zextW d a e) s = execZextW d a e s := rfl
@[simp] theorem exec_sel {d a b e} (s : State) : exec (.sel d a b e) s = execSel d a b e s := rfl
@[simp] theorem exec_addW {d a b e} (s : State) : exec (.addW d a b e) s = execAddW d a b e s := rfl
@[simp] theorem exec_subW {d a b e} (s : State) : exec (.subW d a b e) s = execSubW d a b e s := rfl
@[simp] theorem exec_andW {d a b e} (s : State) : exec (.andW d a b e) s = execAndW d a b e s := rfl
@[simp] theorem exec_orW {d a b e} (s : State) : exec (.orW d a b e) s = execOrW d a b e s := rfl
@[simp] theorem exec_xorW {d a b e} (s : State) : exec (.xorW d a b e) s = execXorW d a b e s := rfl
@[simp] theorem exec_sllW {d a b e} (s : State) : exec (.sllW d a b e) s = execSllW d a b e s := rfl
@[simp] theorem exec_srlW {d a b e} (s : State) : exec (.srlW d a b e) s = execSrlW d a b e s := rfl
@[simp] theorem exec_sraW {d a b e} (s : State) : exec (.sraW d a b e) s = execSraW d a b e s := rfl
@[simp] theorem exec_sltW {d a b e} (s : State) : exec (.sltW d a b e) s = execSltW d a b e s := rfl
@[simp] theorem exec_sltuW {d a b e} (s : State) : exec (.sltuW d a b e) s = execSltuW d a b e s := rfl
@[simp] theorem exec_minW {d a b e} (s : State) : exec (.minW d a b e) s = execMinW d a b e s := rfl
@[simp] theorem exec_maxW {d a b e} (s : State) : exec (.maxW d a b e) s = execMaxW d a b e s := rfl
@[simp] theorem exec_minuW {d a b e} (s : State) : exec (.minuW d a b e) s = execMinuW d a b e s := rfl
@[simp] theorem exec_maxuW {d a b e} (s : State) : exec (.maxuW d a b e) s = execMaxuW d a b e s := rfl
@[simp] theorem exec_clzW {d a e} (s : State) : exec (.clzW d a e) s = execClzW d a e s := rfl
@[simp] theorem exec_ctzW {d a e} (s : State) : exec (.ctzW d a e) s = execCtzW d a e s := rfl
@[simp] theorem exec_popcW {d a e} (s : State) : exec (.popcW d a e) s = execPopcW d a e s := rfl
@[simp] theorem exec_mul {d a b e} (s : State) : exec (.mul d a b e) s = execMul d a b e s := rfl
@[simp] theorem exec_mulh {d a b e} (s : State) : exec (.mulh d a b e) s = execMulh d a b e s := rfl
@[simp] theorem exec_mulhu {d a b e} (s : State) : exec (.mulhu d a b e) s = execMulhu d a b e s := rfl
@[simp] theorem exec_div {d a b e} (s : State) : exec (.div d a b e) s = execDiv d a b e s := rfl
@[simp] theorem exec_divu {d a b e} (s : State) : exec (.divu d a b e) s = execDivu d a b e s := rfl
@[simp] theorem exec_rem {d a b e} (s : State) : exec (.rem d a b e) s = execRem d a b e s := rfl
@[simp] theorem exec_remu {d a b e} (s : State) : exec (.remu d a b e) s = execRemu d a b e s := rfl
@[simp] theorem exec_mulW {d a b e} (s : State) : exec (.mulW d a b e) s = execMulW d a b e s := rfl
@[simp] theorem exec_mulhW {d a b e} (s : State) : exec (.mulhW d a b e) s = execMulhW d a b e s := rfl
@[simp] theorem exec_mulhuW {d a b e} (s : State) : exec (.mulhuW d a b e) s = execMulhuW d a b e s := rfl
@[simp] theorem exec_divW {d a b e} (s : State) : exec (.divW d a b e) s = execDivW d a b e s := rfl
@[simp] theorem exec_divuW {d a b e} (s : State) : exec (.divuW d a b e) s = execDivuW d a b e s := rfl
@[simp] theorem exec_remW {d a b e} (s : State) : exec (.remW d a b e) s = execRemW d a b e s := rfl
@[simp] theorem exec_remuW {d a b e} (s : State) : exec (.remuW d a b e) s = execRemuW d a b e s := rfl
@[simp] theorem exec_addi {d a imm e} (s : State) : exec (.addi d a imm e) s = execAddi d a imm e s := rfl
@[simp] theorem exec_andi {d a imm e} (s : State) : exec (.andi d a imm e) s = execAndi d a imm e s := rfl
@[simp] theorem exec_ori {d a imm e} (s : State) : exec (.ori d a imm e) s = execOri d a imm e s := rfl
@[simp] theorem exec_xori {d a imm e} (s : State) : exec (.xori d a imm e) s = execXori d a imm e s := rfl
@[simp] theorem exec_slti {d a imm e} (s : State) : exec (.slti d a imm e) s = execSlti d a imm e s := rfl
@[simp] theorem exec_sltiu {d a imm e} (s : State) : exec (.sltiu d a imm e) s = execSltiu d a imm e s := rfl
@[simp] theorem exec_slli {d a sh e} (s : State) : exec (.slli d a sh e) s = execSlli d a sh e s := rfl
@[simp] theorem exec_srli {d a sh e} (s : State) : exec (.srli d a sh e) s = execSrli d a sh e s := rfl
@[simp] theorem exec_srai {d a sh e} (s : State) : exec (.srai d a sh e) s = execSrai d a sh e s := rfl
@[simp] theorem exec_slliW {d a sh e} (s : State) : exec (.slliW d a sh e) s = execSlliW d a sh e s := rfl
@[simp] theorem exec_srliW {d a sh e} (s : State) : exec (.srliW d a sh e) s = execSrliW d a sh e s := rfl
@[simp] theorem exec_sraiW {d a sh e} (s : State) : exec (.sraiW d a sh e) s = execSraiW d a sh e s := rfl
@[simp] theorem exec_lui {d imm e} (s : State) : exec (.lui d imm e) s = execLui d imm e s := rfl
@[simp] theorem exec_auipc {d imm e} (s : State) : exec (.auipc d imm e) s = execAuipc d imm e s := rfl
@[simp] theorem exec_beq {a b off e} (s : State) : exec (.beq a b off e) s = execBeq a b off e s := rfl
@[simp] theorem exec_bne {a b off e} (s : State) : exec (.bne a b off e) s = execBne a b off e s := rfl
@[simp] theorem exec_blt {a b off e} (s : State) : exec (.blt a b off e) s = execBlt a b off e s := rfl
@[simp] theorem exec_bge {a b off e} (s : State) : exec (.bge a b off e) s = execBge a b off e s := rfl
@[simp] theorem exec_bltu {a b off e} (s : State) : exec (.bltu a b off e) s = execBltu a b off e s := rfl
@[simp] theorem exec_bgeu {a b off e} (s : State) : exec (.bgeu a b off e) s = execBgeu a b off e s := rfl
@[simp] theorem exec_jal {d off} (s : State) : exec (.jal d off) s = execJal d off s := rfl
@[simp] theorem exec_jalr {d a imm e} (s : State) : exec (.jalr d a imm e) s = execJalr d a imm e s := rfl
@[simp] theorem exec_bpredAny {p off e} (s : State) : exec (.bpredAny p off e) s = execBpredAny p off e s := rfl
@[simp] theorem exec_bpredAll {p off e} (s : State) : exec (.bpredAll p off e) s = execBpredAll p off e s := rfl
@[simp] theorem exec_bpredNone {p off e} (s : State) : exec (.bpredNone p off e) s = execBpredNone p off e s := rfl
@[simp] theorem exec_bpredNall {p off e} (s : State) : exec (.bpredNall p off e) s = execBpredNall p off e s := rfl
@[simp] theorem exec_ld {sz d a imm e} (s : State) : exec (.ld sz d a imm e) s = execLd sz d a imm e s := rfl
@[simp] theorem exec_st {sz d a imm e} (s : State) : exec (.st sz d a imm e) s = execSt sz d a imm e s := rfl
@[simp] theorem exec_ldl {sz d a imm e} (s : State) : exec (.ldl sz d a imm e) s = execLdl sz d a imm e s := rfl
@[simp] theorem exec_stl {sz d a imm e} (s : State) : exec (.stl sz d a imm e) s = execStl sz d a imm e s := rfl
@[simp] theorem exec_phaseR {sc e} (s : State) : exec (.phaseR sc e) s = execPhaseR sc e s := rfl
@[simp] theorem exec_phaseA {sc e} (s : State) : exec (.phaseA sc e) s = execPhaseA sc e s := rfl
@[simp] theorem exec_phaseRa {sc e} (s : State) : exec (.phaseRa sc e) s = execPhaseRa sc e s := rfl
@[simp] theorem exec_qfence {m e} (s : State) : exec (.qfence m e) s = execQfence m e s := rfl
@[simp] theorem exec_fencei {e} (s : State) : exec (.fencei e) s = execFencei e s := rfl
@[simp] theorem exec_prefL1 {a e} (s : State) : exec (.prefL1 a e) s = execPrefL1 a e s := rfl
@[simp] theorem exec_prefHome {a e} (s : State) : exec (.prefHome a e) s = execPrefHome a e s := rfl
@[simp] theorem exec_amoadd {dbl d a b e} (s : State) : exec (.amoadd dbl d a b e) s = execAmoadd dbl d a b e s := rfl
@[simp] theorem exec_amoand {dbl d a b e} (s : State) : exec (.amoand dbl d a b e) s = execAmoand dbl d a b e s := rfl
@[simp] theorem exec_amoor {dbl d a b e} (s : State) : exec (.amoor dbl d a b e) s = execAmoor dbl d a b e s := rfl
@[simp] theorem exec_amoxor {dbl d a b e} (s : State) : exec (.amoxor dbl d a b e) s = execAmoxor dbl d a b e s := rfl
@[simp] theorem exec_amomin {dbl d a b e} (s : State) : exec (.amomin dbl d a b e) s = execAmomin dbl d a b e s := rfl
@[simp] theorem exec_amomax {dbl d a b e} (s : State) : exec (.amomax dbl d a b e) s = execAmomax dbl d a b e s := rfl
@[simp] theorem exec_amominu {dbl d a b e} (s : State) : exec (.amominu dbl d a b e) s = execAmominu dbl d a b e s := rfl
@[simp] theorem exec_amomaxu {dbl d a b e} (s : State) : exec (.amomaxu dbl d a b e) s = execAmomaxu dbl d a b e s := rfl
@[simp] theorem exec_amoswap {dbl d a b e} (s : State) : exec (.amoswap dbl d a b e) s = execAmoswap dbl d a b e s := rfl
@[simp] theorem exec_amocas {dbl d a b e} (s : State) : exec (.amocas dbl d a b e) s = execAmocas dbl d a b e s := rfl
@[simp] theorem exec_amofadd32 {d a b e} (s : State) : exec (.amofadd32 d a b e) s = execAmofadd32 d a b e s := rfl
@[simp] theorem exec_amofxadd {d a b e} (s : State) : exec (.amofxadd d a b e) s = execAmofxadd d a b e s := rfl
@[simp] theorem exec_lrw {d a e} (s : State) : exec (.lrw d a e) s = execLrw d a e s := rfl
@[simp] theorem exec_sch {a b e} (s : State) : exec (.sch a b e) s = execSch a b e s := rfl
@[simp] theorem exec_rrel {a e} (s : State) : exec (.rrel a e) s = execRrel a e s := rfl
@[simp] theorem exec_enq {d a b e} (s : State) : exec (.enq d a b e) s = execEnq d a b e s := rfl
@[simp] theorem exec_deq {d a e} (s : State) : exec (.deq d a e) s = execDeq d a e s := rfl
@[simp] theorem exec_enqNw {d a b e} (s : State) : exec (.enqNw d a b e) s = execEnqNw d a b e s := rfl
@[simp] theorem exec_deqNw {d a e} (s : State) : exec (.deqNw d a e) s = execDeqNw d a e s := rfl
@[simp] theorem exec_prpub {a b e} (s : State) : exec (.prpub a b e) s = execPrpub a b e s := rfl
@[simp] theorem exec_prwait {a e} (s : State) : exec (.prwait a e) s = execPrwait a e s := rfl
@[simp] theorem exec_prtest {d a e} (s : State) : exec (.prtest d a e) s = execPrtest d a e s := rfl
@[simp] theorem exec_prtake {d a e} (s : State) : exec (.prtake d a e) s = execPrtake d a e s := rfl
@[simp] theorem exec_prgen {d a b e} (s : State) : exec (.prgen d a b e) s = execPrgen d a b e s := rfl
@[simp] theorem exec_prarm {d a b e} (s : State) : exec (.prarm d a b e) s = execPrarm d a b e s := rfl
@[simp] theorem exec_vadd {ty vd va vb pg e} (s : State) : exec (.vadd ty vd va vb pg e) s = execVadd ty vd va vb pg e s := rfl
@[simp] theorem exec_vsub {ty vd va vb pg e} (s : State) : exec (.vsub ty vd va vb pg e) s = execVsub ty vd va vb pg e s := rfl
@[simp] theorem exec_vmul {ty vd va vb pg e} (s : State) : exec (.vmul ty vd va vb pg e) s = execVmul ty vd va vb pg e s := rfl
@[simp] theorem exec_vmulh {ty vd va vb pg e} (s : State) : exec (.vmulh ty vd va vb pg e) s = execVmulh ty vd va vb pg e s := rfl
@[simp] theorem exec_vmad {ty vd va vb pg e} (s : State) : exec (.vmad ty vd va vb pg e) s = execVmad ty vd va vb pg e s := rfl
@[simp] theorem exec_vmin {ty vd va vb pg e} (s : State) : exec (.vmin ty vd va vb pg e) s = execVmin ty vd va vb pg e s := rfl
@[simp] theorem exec_vmax {ty vd va vb pg e} (s : State) : exec (.vmax ty vd va vb pg e) s = execVmax ty vd va vb pg e s := rfl
@[simp] theorem exec_vand {ty vd va vb pg e} (s : State) : exec (.vand ty vd va vb pg e) s = execVand ty vd va vb pg e s := rfl
@[simp] theorem exec_vor {ty vd va vb pg e} (s : State) : exec (.vor ty vd va vb pg e) s = execVor ty vd va vb pg e s := rfl
@[simp] theorem exec_vxor {ty vd va vb pg e} (s : State) : exec (.vxor ty vd va vb pg e) s = execVxor ty vd va vb pg e s := rfl
@[simp] theorem exec_vsll {ty vd va vb pg e} (s : State) : exec (.vsll ty vd va vb pg e) s = execVsll ty vd va vb pg e s := rfl
@[simp] theorem exec_vsrl {ty vd va vb pg e} (s : State) : exec (.vsrl ty vd va vb pg e) s = execVsrl ty vd va vb pg e s := rfl
@[simp] theorem exec_vsra {ty vd va vb pg e} (s : State) : exec (.vsra ty vd va vb pg e) s = execVsra ty vd va vb pg e s := rfl
@[simp] theorem exec_vabs {ty vd va pg e} (s : State) : exec (.vabs ty vd va pg e) s = execVabs ty vd va pg e s := rfl
@[simp] theorem exec_vneg {ty vd va pg e} (s : State) : exec (.vneg ty vd va pg e) s = execVneg ty vd va pg e s := rfl
@[simp] theorem exec_vaddVs {ty vd va b pg e} (s : State) : exec (.vaddVs ty vd va b pg e) s = execVaddVs ty vd va b pg e s := rfl
@[simp] theorem exec_vsubVs {ty vd va b pg e} (s : State) : exec (.vsubVs ty vd va b pg e) s = execVsubVs ty vd va b pg e s := rfl
@[simp] theorem exec_vmulVs {ty vd va b pg e} (s : State) : exec (.vmulVs ty vd va b pg e) s = execVmulVs ty vd va b pg e s := rfl
@[simp] theorem exec_vmulhVs {ty vd va b pg e} (s : State) : exec (.vmulhVs ty vd va b pg e) s = execVmulhVs ty vd va b pg e s := rfl
@[simp] theorem exec_vmadVs {ty vd va b pg e} (s : State) : exec (.vmadVs ty vd va b pg e) s = execVmadVs ty vd va b pg e s := rfl
@[simp] theorem exec_vminVs {ty vd va b pg e} (s : State) : exec (.vminVs ty vd va b pg e) s = execVminVs ty vd va b pg e s := rfl
@[simp] theorem exec_vmaxVs {ty vd va b pg e} (s : State) : exec (.vmaxVs ty vd va b pg e) s = execVmaxVs ty vd va b pg e s := rfl
@[simp] theorem exec_vandVs {ty vd va b pg e} (s : State) : exec (.vandVs ty vd va b pg e) s = execVandVs ty vd va b pg e s := rfl
@[simp] theorem exec_vorVs {ty vd va b pg e} (s : State) : exec (.vorVs ty vd va b pg e) s = execVorVs ty vd va b pg e s := rfl
@[simp] theorem exec_vxorVs {ty vd va b pg e} (s : State) : exec (.vxorVs ty vd va b pg e) s = execVxorVs ty vd va b pg e s := rfl
@[simp] theorem exec_vsllVs {ty vd va b pg e} (s : State) : exec (.vsllVs ty vd va b pg e) s = execVsllVs ty vd va b pg e s := rfl
@[simp] theorem exec_vsrlVs {ty vd va b pg e} (s : State) : exec (.vsrlVs ty vd va b pg e) s = execVsrlVs ty vd va b pg e s := rfl
@[simp] theorem exec_vsraVs {ty vd va b pg e} (s : State) : exec (.vsraVs ty vd va b pg e) s = execVsraVs ty vd va b pg e s := rfl
@[simp] theorem exec_vaddVi {ty vd va imm pg e} (s : State) : exec (.vaddVi ty vd va imm pg e) s = execVaddVi ty vd va imm pg e s := rfl
@[simp] theorem exec_vsubVi {ty vd va imm pg e} (s : State) : exec (.vsubVi ty vd va imm pg e) s = execVsubVi ty vd va imm pg e s := rfl
@[simp] theorem exec_vmulVi {ty vd va imm pg e} (s : State) : exec (.vmulVi ty vd va imm pg e) s = execVmulVi ty vd va imm pg e s := rfl
@[simp] theorem exec_vmulhVi {ty vd va imm pg e} (s : State) : exec (.vmulhVi ty vd va imm pg e) s = execVmulhVi ty vd va imm pg e s := rfl
@[simp] theorem exec_vmadVi {ty vd va imm pg e} (s : State) : exec (.vmadVi ty vd va imm pg e) s = execVmadVi ty vd va imm pg e s := rfl
@[simp] theorem exec_vminVi {ty vd va imm pg e} (s : State) : exec (.vminVi ty vd va imm pg e) s = execVminVi ty vd va imm pg e s := rfl
@[simp] theorem exec_vmaxVi {ty vd va imm pg e} (s : State) : exec (.vmaxVi ty vd va imm pg e) s = execVmaxVi ty vd va imm pg e s := rfl
@[simp] theorem exec_vandVi {ty vd va imm pg e} (s : State) : exec (.vandVi ty vd va imm pg e) s = execVandVi ty vd va imm pg e s := rfl
@[simp] theorem exec_vorVi {ty vd va imm pg e} (s : State) : exec (.vorVi ty vd va imm pg e) s = execVorVi ty vd va imm pg e s := rfl
@[simp] theorem exec_vxorVi {ty vd va imm pg e} (s : State) : exec (.vxorVi ty vd va imm pg e) s = execVxorVi ty vd va imm pg e s := rfl
@[simp] theorem exec_vsllVi {ty vd va imm pg e} (s : State) : exec (.vsllVi ty vd va imm pg e) s = execVsllVi ty vd va imm pg e s := rfl
@[simp] theorem exec_vsrlVi {ty vd va imm pg e} (s : State) : exec (.vsrlVi ty vd va imm pg e) s = execVsrlVi ty vd va imm pg e s := rfl
@[simp] theorem exec_vsraVi {ty vd va imm pg e} (s : State) : exec (.vsraVi ty vd va imm pg e) s = execVsraVi ty vd va imm pg e s := rfl
@[simp] theorem exec_fadd {ty vd va vb pg e} (s : State) : exec (.fadd ty vd va vb pg e) s = execFadd ty vd va vb pg e s := rfl
@[simp] theorem exec_fsub {ty vd va vb pg e} (s : State) : exec (.fsub ty vd va vb pg e) s = execFsub ty vd va vb pg e s := rfl
@[simp] theorem exec_fmul {ty vd va vb pg e} (s : State) : exec (.fmul ty vd va vb pg e) s = execFmul ty vd va vb pg e s := rfl
@[simp] theorem exec_fma {ty vd va vb pg e} (s : State) : exec (.fma ty vd va vb pg e) s = execFma ty vd va vb pg e s := rfl
@[simp] theorem exec_fmin {ty vd va vb pg e} (s : State) : exec (.fmin ty vd va vb pg e) s = execFmin ty vd va vb pg e s := rfl
@[simp] theorem exec_fmax {ty vd va vb pg e} (s : State) : exec (.fmax ty vd va vb pg e) s = execFmax ty vd va vb pg e s := rfl
@[simp] theorem exec_fabs {ty vd va pg e} (s : State) : exec (.fabs ty vd va pg e) s = execFabs ty vd va pg e s := rfl
@[simp] theorem exec_fneg {ty vd va pg e} (s : State) : exec (.fneg ty vd va pg e) s = execFneg ty vd va pg e s := rfl
@[simp] theorem exec_faddVs {ty vd va b pg e} (s : State) : exec (.faddVs ty vd va b pg e) s = execFaddVs ty vd va b pg e s := rfl
@[simp] theorem exec_fsubVs {ty vd va b pg e} (s : State) : exec (.fsubVs ty vd va b pg e) s = execFsubVs ty vd va b pg e s := rfl
@[simp] theorem exec_fmulVs {ty vd va b pg e} (s : State) : exec (.fmulVs ty vd va b pg e) s = execFmulVs ty vd va b pg e s := rfl
@[simp] theorem exec_fmaVs {ty vd va b pg e} (s : State) : exec (.fmaVs ty vd va b pg e) s = execFmaVs ty vd va b pg e s := rfl
@[simp] theorem exec_fminVs {ty vd va b pg e} (s : State) : exec (.fminVs ty vd va b pg e) s = execFminVs ty vd va b pg e s := rfl
@[simp] theorem exec_fmaxVs {ty vd va b pg e} (s : State) : exec (.fmaxVs ty vd va b pg e) s = execFmaxVs ty vd va b pg e s := rfl
@[simp] theorem exec_vcmpEq {ty pd va vb pg e} (s : State) : exec (.vcmpEq ty pd va vb pg e) s = execVcmpEq ty pd va vb pg e s := rfl
@[simp] theorem exec_vcmpNe {ty pd va vb pg e} (s : State) : exec (.vcmpNe ty pd va vb pg e) s = execVcmpNe ty pd va vb pg e s := rfl
@[simp] theorem exec_vcmpLt {ty pd va vb pg e} (s : State) : exec (.vcmpLt ty pd va vb pg e) s = execVcmpLt ty pd va vb pg e s := rfl
@[simp] theorem exec_vcmpLe {ty pd va vb pg e} (s : State) : exec (.vcmpLe ty pd va vb pg e) s = execVcmpLe ty pd va vb pg e s := rfl
@[simp] theorem exec_vcmpLtu {ty pd va vb pg e} (s : State) : exec (.vcmpLtu ty pd va vb pg e) s = execVcmpLtu ty pd va vb pg e s := rfl
@[simp] theorem exec_vcmpLeu {ty pd va vb pg e} (s : State) : exec (.vcmpLeu ty pd va vb pg e) s = execVcmpLeu ty pd va vb pg e s := rfl
@[simp] theorem exec_fcmpEq {ty pd va vb pg e} (s : State) : exec (.fcmpEq ty pd va vb pg e) s = execFcmpEq ty pd va vb pg e s := rfl
@[simp] theorem exec_fcmpNe {ty pd va vb pg e} (s : State) : exec (.fcmpNe ty pd va vb pg e) s = execFcmpNe ty pd va vb pg e s := rfl
@[simp] theorem exec_fcmpLt {ty pd va vb pg e} (s : State) : exec (.fcmpLt ty pd va vb pg e) s = execFcmpLt ty pd va vb pg e s := rfl
@[simp] theorem exec_fcmpLe {ty pd va vb pg e} (s : State) : exec (.fcmpLe ty pd va vb pg e) s = execFcmpLe ty pd va vb pg e s := rfl
@[simp] theorem exec_fcmpUn {ty pd va vb pg e} (s : State) : exec (.fcmpUn ty pd va vb pg e) s = execFcmpUn ty pd va vb pg e s := rfl
@[simp] theorem exec_vsel {ty vd va vb pg e} (s : State) : exec (.vsel ty vd va vb pg e) s = execVsel ty vd va vb pg e s := rfl
@[simp] theorem exec_vmov {ty vd va pg e} (s : State) : exec (.vmov ty vd va pg e) s = execVmov ty vd va pg e s := rfl
@[simp] theorem exec_vbcast {ty vd a pg e} (s : State) : exec (.vbcast ty vd a pg e) s = execVbcast ty vd a pg e s := rfl
@[simp] theorem exec_vext {ty d va b e} (s : State) : exec (.vext ty d va b e) s = execVext ty d va b e s := rfl
@[simp] theorem exec_vperm {ty vd va vb pg e} (s : State) : exec (.vperm ty vd va vb pg e) s = execVperm ty vd va vb pg e s := rfl
@[simp] theorem exec_vzip {ty vd va vb pg e} (s : State) : exec (.vzip ty vd va vb pg e) s = execVzip ty vd va vb pg e s := rfl
@[simp] theorem exec_vuzp {ty vd va vb pg e} (s : State) : exec (.vuzp ty vd va vb pg e) s = execVuzp ty vd va vb pg e s := rfl
@[simp] theorem exec_vslideUp {ty vd va b pg e} (s : State) : exec (.vslideUp ty vd va b pg e) s = execVslideUp ty vd va b pg e s := rfl
@[simp] theorem exec_vslideDn {ty vd va b pg e} (s : State) : exec (.vslideDn ty vd va b pg e) s = execVslideDn ty vd va b pg e s := rfl
@[simp] theorem exec_vbcasthBf16 {vd imm e} (s : State) : exec (.vbcasthBf16 vd imm e) s = execVbcasthBf16 vd imm e s := rfl
@[simp] theorem exec_vbcasthF32 {vd imm e} (s : State) : exec (.vbcasthF32 vd imm e) s = execVbcasthF32 vd imm e s := rfl
@[simp] theorem exec_vld {ty vd a b pg e} (s : State) : exec (.vld ty vd a b pg e) s = execVld ty vd a b pg e s := rfl
@[simp] theorem exec_vst {ty vd a b pg e} (s : State) : exec (.vst ty vd a b pg e) s = execVst ty vd a b pg e s := rfl
@[simp] theorem exec_vlds {ty vd a b pg e} (s : State) : exec (.vlds ty vd a b pg e) s = execVlds ty vd a b pg e s := rfl
@[simp] theorem exec_vsts {ty vd a b pg e} (s : State) : exec (.vsts ty vd a b pg e) s = execVsts ty vd a b pg e s := rfl
@[simp] theorem exec_vgath {ty vd a vb pg e} (s : State) : exec (.vgath ty vd a vb pg e) s = execVgath ty vd a vb pg e s := rfl
@[simp] theorem exec_vscat {ty vd a vb pg e} (s : State) : exec (.vscat ty vd a vb pg e) s = execVscat ty vd a vb pg e s := rfl
@[simp] theorem exec_vcvt {dty sty rs vd va pg e} (s : State) : exec (.vcvt dty sty rs vd va pg e) s = execVcvt dty sty rs vd va pg e s := rfl
@[simp] theorem exec_vqnt {sty rs vd va pg e} (s : State) : exec (.vqnt sty rs vd va pg e) s = execVqnt sty rs vd va pg e s := rfl
@[simp] theorem exec_vqps {fmt sty rs vd va pg e} (s : State) : exec (.vqps fmt sty rs vd va pg e) s = execVqps fmt sty rs vd va pg e s := rfl
@[simp] theorem exec_vdq {dty fmt rs vd va pg e} (s : State) : exec (.vdq dty fmt rs vd va pg e) s = execVdq dty fmt rs vd va pg e s := rfl
@[simp] theorem exec_vhad32 {ty vd va m pg e} (s : State) : exec (.vhad32 ty vd va m pg e) s = execVhad32 ty vd va m pg e s := rfl
@[simp] theorem exec_vmaxx {ty vd va k pg e} (s : State) : exec (.vmaxx ty vd va k pg e) s = execVmaxx ty vd va k pg e s := rfl
@[simp] theorem exec_vunpk5 {vd va h pg e} (s : State) : exec (.vunpk5 vd va h pg e) s = execVunpk5 vd va h pg e s := rfl
@[simp] theorem exec_vpack5 {vd va h pg e} (s : State) : exec (.vpack5 vd va h pg e) s = execVpack5 vd va h pg e s := rfl
@[simp] theorem exec_vsfu {fn ty vd va pg e} (s : State) : exec (.vsfu fn ty vd va pg e) s = execVsfu fn ty vd va pg e s := rfl
@[simp] theorem exec_vred {op ty vd va pg e} (s : State) : exec (.vred op ty vd va pg e) s = execVred op ty vd va pg e s := rfl
@[simp] theorem exec_vwhile {ty pd a b e} (s : State) : exec (.vwhile ty pd a b e) s = execVwhile ty pd a b e s := rfl
@[simp] theorem exec_vwidth {ty d e} (s : State) : exec (.vwidth ty d e) s = execVwidth ty d e s := rfl
@[simp] theorem exec_vrep {a l e} (s : State) : exec (.vrep a l e) s = execVrep a l e s := rfl
@[simp] theorem exec_pand {pd pa pb pg e} (s : State) : exec (.pand pd pa pb pg e) s = execPand pd pa pb pg e s := rfl
@[simp] theorem exec_por {pd pa pb pg e} (s : State) : exec (.por pd pa pb pg e) s = execPor pd pa pb pg e s := rfl
@[simp] theorem exec_pxor {pd pa pb pg e} (s : State) : exec (.pxor pd pa pb pg e) s = execPxor pd pa pb pg e s := rfl
@[simp] theorem exec_pnot {pd pa pg e} (s : State) : exec (.pnot pd pa pg e) s = execPnot pd pa pg e s := rfl
@[simp] theorem exec_pcnt {ty d pa pg e} (s : State) : exec (.pcnt ty d pa pg e) s = execPcnt ty d pa pg e s := rfl
@[simp] theorem exec_pfirst {ty pd pa pg e} (s : State) : exec (.pfirst ty pd pa pg e) s = execPfirst ty pd pa pg e s := rfl
@[simp] theorem exec_mcfg {a e} (s : State) : exec (.mcfg a e) s = execMcfg a e s := rfl
@[simp] theorem exec_mldwT64 {sla tr a e} (s : State) : exec (.mldwT64 sla tr a e) s = execMldwT64 sla tr a e s := rfl
@[simp] theorem exec_mldwC64 {sla tr a e} (s : State) : exec (.mldwC64 sla tr a e) s = execMldwC64 sla tr a e s := rfl
@[simp] theorem exec_mstep {a b g e} (s : State) : exec (.mstep a b g e) s = execMstep a b g e s := rfl
@[simp] theorem exec_mzero {back e} (s : State) : exec (.mzero back e) s = execMzero back e s := rfl
@[simp] theorem exec_mswapL {e} (s : State) : exec (.mswapL e) s = execMswapL e s := rfl
@[simp] theorem exec_mswapA {e} (s : State) : exec (.mswapA e) s = execMswapA e s := rfl
@[simp] theorem exec_mswapLa {e} (s : State) : exec (.mswapLa e) s = execMswapLa e s := rfl
@[simp] theorem exec_mdrain {fmt k back a b c e} (s : State) : exec (.mdrain fmt k back a b c e) s = execMdrain fmt k back a b c e s := rfl
@[simp] theorem exec_mstat {sel a b e} (s : State) : exec (.mstat sel a b e) s = execMstat sel a b e s := rfl
@[simp] theorem exec_mwait {e} (s : State) : exec (.mwait e) s = execMwait e s := rfl
@[simp] theorem exec_pbind {q a b e} (s : State) : exec (.pbind q a b e) s = execPbind q a b e s := rfl
@[simp] theorem exec_punbind {q e} (s : State) : exec (.punbind q e) s = execPunbind q e s := rfl
@[simp] theorem exec_pstat {a q e} (s : State) : exec (.pstat a q e) s = execPstat a q e s := rfl
@[simp] theorem exec_pskip {q a e} (s : State) : exec (.pskip q a e) s = execPskip q a e s := rfl
@[simp] theorem exec_cpy {k a b c e} (s : State) : exec (.cpy k a b c e) s = execCpy k a b c e s := rfl
@[simp] theorem exec_cpyt {k a b c e} (s : State) : exec (.cpyt k a b c e) s = execCpyt k a b c e s := rfl
@[simp] theorem exec_cpyd {k a b c e} (s : State) : exec (.cpyd k a b c e) s = execCpyd k a b c e s := rfl
@[simp] theorem exec_cpys {k a b c e} (s : State) : exec (.cpys k a b c e) s = execCpys k a b c e s := rfl
@[simp] theorem exec_spawn {d a e} (s : State) : exec (.spawn d a e) s = execSpawn d a e s := rfl
@[simp] theorem exec_spawnl {d a e} (s : State) : exec (.spawnl d a e) s = execSpawnl d a e s := rfl
@[simp] theorem exec_migrate {a e} (s : State) : exec (.migrate a e) s = execMigrate a e s := rfl
@[simp] theorem exec_yield {e} (s : State) : exec (.yield e) s = execYield e s := rfl
@[simp] theorem exec_sleep {e} (s : State) : exec (.sleep e) s = execSleep e s := rfl
@[simp] theorem exec_cbar {e} (s : State) : exec (.cbar e) s = execCbar e s := rfl
@[simp] theorem exec_exit {e} (s : State) : exec (.exit e) s = execExit e s := rfl
@[simp] theorem exec_msend {a b e} (s : State) : exec (.msend a b e) s = execMsend a b e s := rfl
@[simp] theorem exec_mrecv {d a e} (s : State) : exec (.mrecv d a e) s = execMrecv d a e s := rfl
@[simp] theorem exec_rqpush {d a b e} (s : State) : exec (.rqpush d a b e) s = execRqpush d a b e s := rfl
@[simp] theorem exec_rqpop {d a e} (s : State) : exec (.rqpop d a e) s = execRqpop d a e s := rfl
@[simp] theorem exec_tmrset {d a e} (s : State) : exec (.tmrset d a e) s = execTmrset d a e s := rfl
@[simp] theorem exec_csrr {d csr e} (s : State) : exec (.csrr d csr e) s = execCsrr d csr e s := rfl
@[simp] theorem exec_csrw {d a csr e} (s : State) : exec (.csrw d a csr e) s = execCsrw d a csr e s := rfl
@[simp] theorem exec_csrs {d a csr e} (s : State) : exec (.csrs d a csr e) s = execCsrs d a csr e s := rfl
@[simp] theorem exec_csrc {d a csr e} (s : State) : exec (.csrc d a csr e) s = execCsrc d a csr e s := rfl
@[simp] theorem exec_uret {e} (s : State) : exec (.uret e) s = execUret e s := rfl
@[simp] theorem exec_trapu {n e} (s : State) : exec (.trapu n e) s = execTrapu n e s := rfl
@[simp] theorem exec_svc {d a n e} (s : State) : exec (.svc d a n e) s = execSvc d a n e s := rfl
@[simp] theorem exec_sret {d a e} (s : State) : exec (.sret d a e) s = execSret d a e s := rfl
@[simp] theorem exec_dtinvPage {a e} (s : State) : exec (.dtinvPage a e) s = execDtinvPage a e s := rfl
@[simp] theorem exec_dtinvCtx {a e} (s : State) : exec (.dtinvCtx a e) s = execDtinvCtx a e s := rfl
@[simp] theorem exec_dtinvAll {a e} (s : State) : exec (.dtinvAll a e) s = execDtinvAll a e s := rfl
@[simp] theorem exec_dtrep {d e} (s : State) : exec (.dtrep d e) s = execDtrep d e s := rfl
@[simp] theorem exec_dtrepFail {d a e} (s : State) : exec (.dtrepFail d a e) s = execDtrepFail d a e s := rfl
@[simp] theorem exec_dtqry {sel d a e} (s : State) : exec (.dtqry sel d a e) s = execDtqry sel d a e s := rfl
@[simp] theorem exec_spls {d a e} (s : State) : exec (.spls d a e) s = execSpls d a e s := rfl
@[simp] theorem exec_splr {d a e} (s : State) : exec (.splr d a e) s = execSplr d a e s := rfl
@[simp] theorem exec_freeze {a e} (s : State) : exec (.freeze a e) s = execFreeze a e s := rfl
@[simp] theorem exec_thaw {a e} (s : State) : exec (.thaw a e) s = execThaw a e s := rfl
@[simp] theorem exec_rgnw {d a idx e} (s : State) : exec (.rgnw d a idx e) s = execRgnw d a idx e s := rfl
@[simp] theorem exec_puw {d a idx e} (s : State) : exec (.puw d a idx e) s = execPuw d a idx e s := rfl
@[simp] theorem exec_commit {d a e} (s : State) : exec (.commit d a e) s = execCommit d a e s := rfl
@[simp] theorem exec_illegalInstruction {cause} (s : State) : exec (.illegalInstruction cause) s = execIllegalInstruction cause s := rfl
@[simp] theorem exec_userTrapEntry (s : State) : exec (.userTrapEntry) s = execUserTrapEntry s := rfl
@[simp] theorem exec_timerFire {slot} (s : State) : exec (.timerFire slot) s = execTimerFire slot s := rfl
@[simp] theorem exec_resultArrive {res} (s : State) : exec (.resultArrive res) s = execResultArrive res s := rfl
@[simp] theorem exec_storeMerge {station line} (s : State) : exec (.storeMerge station line) s = execStoreMerge station line s := rfl
@[simp] theorem exec_mergeAtHome {req} (s : State) : exec (.mergeAtHome req) s = execMergeAtHome req s := rfl
@[simp] theorem exec_fillAtHome {req} (s : State) : exec (.fillAtHome req) s = execFillAtHome req s := rfl
@[simp] theorem exec_phaseReleaseComplete {slot} (s : State) : exec (.phaseReleaseComplete slot) s = execPhaseReleaseComplete slot s := rfl
@[simp] theorem exec_kindQueryReply {req} (s : State) : exec (.kindQueryReply req) s = execKindQueryReply req s := rfl
@[simp] theorem exec_hostWindowWriteSend {station} (s : State) : exec (.hostWindowWriteSend station) s = execHostWindowWriteSend station s := rfl
@[simp] theorem exec_bankAmoPerform {req} (s : State) : exec (.bankAmoPerform req) s = execBankAmoPerform req s := rfl
@[simp] theorem exec_bankLrw {req} (s : State) : exec (.bankLrw req) s = execBankLrw req s := rfl
@[simp] theorem exec_bankSch {req} (s : State) : exec (.bankSch req) s = execBankSch req s := rfl
@[simp] theorem exec_bankRrel {req} (s : State) : exec (.bankRrel req) s = execBankRrel req s := rfl
@[simp] theorem exec_bankEnq {req} (s : State) : exec (.bankEnq req) s = execBankEnq req s := rfl
@[simp] theorem exec_bankDeq {req} (s : State) : exec (.bankDeq req) s = execBankDeq req s := rfl
@[simp] theorem exec_waiterRecordFree {slice} (s : State) : exec (.waiterRecordFree slice) s = execWaiterRecordFree slice s := rfl
@[simp] theorem exec_proofPublishAtHome {req} (s : State) : exec (.proofPublishAtHome req) s = execProofPublishAtHome req s := rfl
@[simp] theorem exec_proofWaitAtHome {req} (s : State) : exec (.proofWaitAtHome req) s = execProofWaitAtHome req s := rfl
@[simp] theorem exec_proofTakeAtHome {req} (s : State) : exec (.proofTakeAtHome req) s = execProofTakeAtHome req s := rfl
@[simp] theorem exec_proofTestAtHome {req} (s : State) : exec (.proofTestAtHome req) s = execProofTestAtHome req s := rfl
@[simp] theorem exec_proofReply {req} (s : State) : exec (.proofReply req) s = execProofReply req s := rfl
@[simp] theorem exec_vsfuServe {station} (s : State) : exec (.vsfuServe station) s = execVsfuServe station s := rfl
@[simp] theorem exec_readStreamFetch {slot port} (s : State) : exec (.readStreamFetch slot port) s = execReadStreamFetch slot port s := rfl
@[simp] theorem exec_writeStreamSend {slot port} (s : State) : exec (.writeStreamSend slot port) s = execWriteStreamSend slot port s := rfl
@[simp] theorem exec_channelWordArrive {slot port} (s : State) : exec (.channelWordArrive slot port) s = execChannelWordArrive slot port s := rfl
@[simp] theorem exec_mcfgPerform {station} (s : State) : exec (.mcfgPerform station) s = execMcfgPerform station s := rfl
@[simp] theorem exec_mstepPerform {station} (s : State) : exec (.mstepPerform station) s = execMstepPerform station s := rfl
@[simp] theorem exec_mzeroPerform {station} (s : State) : exec (.mzeroPerform station) s = execMzeroPerform station s := rfl
@[simp] theorem exec_mswapPerform {station} (s : State) : exec (.mswapPerform station) s = execMswapPerform station s := rfl
@[simp] theorem exec_mldwLoadDone {slot} (s : State) : exec (.mldwLoadDone slot) s = execMldwLoadDone slot s := rfl
@[simp] theorem exec_mdrainCapture {station} (s : State) : exec (.mdrainCapture station) s = execMdrainCapture station s := rfl
@[simp] theorem exec_mdrainWriteDone {station} (s : State) : exec (.mdrainWriteDone station) s = execMdrainWriteDone station s := rfl
@[simp] theorem exec_mstatPerform {station} (s : State) : exec (.mstatPerform station) s = execMstatPerform station s := rfl
@[simp] theorem exec_cpyPerform {station} (s : State) : exec (.cpyPerform station) s = execCpyPerform station s := rfl
@[simp] theorem exec_cpytPerform {station} (s : State) : exec (.cpytPerform station) s = execCpytPerform station s := rfl
@[simp] theorem exec_cpydPerform {station} (s : State) : exec (.cpydPerform station) s = execCpydPerform station s := rfl
@[simp] theorem exec_cpysPerform {station} (s : State) : exec (.cpysPerform station) s = execCpysPerform station s := rfl
@[simp] theorem exec_copyCompletion {station} (s : State) : exec (.copyCompletion station) s = execCopyCompletion station s := rfl
@[simp] theorem exec_mailboxAccept {station} (s : State) : exec (.mailboxAccept station) s = execMailboxAccept station s := rfl
@[simp] theorem exec_migrateArrive {tag} (s : State) : exec (.migrateArrive tag) s = execMigrateArrive tag s := rfl
@[simp] theorem exec_runQueueDispatch {station} (s : State) : exec (.runQueueDispatch station) s = execRunQueueDispatch station s := rfl
@[simp] theorem exec_launchUnitAccept {req} (s : State) : exec (.launchUnitAccept req) s = execLaunchUnitAccept req s := rfl
@[simp] theorem exec_queueTailWrite {q value} (s : State) : exec (.queueTailWrite q value) s = execQueueTailWrite q value s := rfl
@[simp] theorem exec_queueReset {q} (s : State) : exec (.queueReset q) s = execQueueReset q s := rfl
@[simp] theorem exec_queueDisable {q} (s : State) : exec (.queueDisable q) s = execQueueDisable q s := rfl
@[simp] theorem exec_queueEnable {q} (s : State) : exec (.queueEnable q) s = execQueueEnable q s := rfl
@[simp] theorem exec_registerWrite {func off value} (s : State) : exec (.registerWrite func off value) s = execRegisterWrite func off value s := rfl
@[simp] theorem exec_launch {q ids} (s : State) : exec (.launch q ids) s = execLaunch q ids s := rfl
@[simp] theorem exec_launchp {q ids} (s : State) : exec (.launchp q ids) s = execLaunchp q ids s := rfl
@[simp] theorem exec_callib {q} (s : State) : exec (.callib q) s = execCallib q s := rfl
@[simp] theorem exec_signal {q} (s : State) : exec (.signal q) s = execSignal q s := rfl
@[simp] theorem exec_wait {q} (s : State) : exec (.wait q) s = execWait q s := rfl
@[simp] theorem exec_waitSignalPoll {q} (s : State) : exec (.waitSignalPoll q) s = execWaitSignalPoll q s := rfl
@[simp] theorem exec_waitConditionMet {q} (s : State) : exec (.waitConditionMet q) s = execWaitConditionMet q s := rfl
@[simp] theorem exec_copy {q} (s : State) : exec (.copy q) s = execCopy q s := rfl
@[simp] theorem exec_loadshard {q} (s : State) : exec (.loadshard q) s = execLoadshard q s := rfl
@[simp] theorem exec_commandComplete {q cmd} (s : State) : exec (.commandComplete q cmd) s = execCommandComplete q cmd s := rfl
@[simp] theorem exec_coursePlace {die} (s : State) : exec (.coursePlace die) s = execCoursePlace die s := rfl
@[simp] theorem exec_chordArmed {grid chord} (s : State) : exec (.chordArmed grid chord) s = execChordArmed grid chord s := rfl
@[simp] theorem exec_chordDispatch {die} (s : State) : exec (.chordDispatch die) s = execChordDispatch die s := rfl
@[simp] theorem exec_chordEnd {station} (s : State) : exec (.chordEnd station) s = execChordEnd station s := rfl
@[simp] theorem exec_gridComplete {grid} (s : State) : exec (.gridComplete grid) s = execGridComplete grid s := rfl
@[simp] theorem exec_gridFaulted {grid} (s : State) : exec (.gridFaulted grid) s = execGridFaulted grid s := rfl
@[simp] theorem exec_slotSpill {slot} (s : State) : exec (.slotSpill slot) s = execSlotSpill slot s := rfl
@[simp] theorem exec_chordSpill {station} (s : State) : exec (.chordSpill station) s = execChordSpill station s := rfl
@[simp] theorem exec_chordRestore {station} (s : State) : exec (.chordRestore station) s = execChordRestore station s := rfl
@[simp] theorem exec_rescueCheck {die} (s : State) : exec (.rescueCheck die) s = execRescueCheck die s := rfl
@[simp] theorem exec_waitforWalk {die} (s : State) : exec (.waitforWalk die) s = execWaitforWalk die s := rfl
@[simp] theorem exec_thermalSlotChange {slot disable cooler} (s : State) : exec (.thermalSlotChange slot disable cooler) s = execThermalSlotChange slot disable cooler s := rfl
@[simp] theorem exec_timesliceRotate {station} (s : State) : exec (.timesliceRotate station) s = execTimesliceRotate station s := rfl
@[simp] theorem exec_suspend {ctx} (s : State) : exec (.suspend ctx) s = execSuspend ctx s := rfl
@[simp] theorem exec_ctxResume {ctx} (s : State) : exec (.ctxResume ctx) s = execCtxResume ctx s := rfl
@[simp] theorem exec_ctxMigrate {ctx arg} (s : State) : exec (.ctxMigrate ctx arg) s = execCtxMigrate ctx arg s := rfl
@[simp] theorem exec_release {ctx} (s : State) : exec (.release ctx) s = execRelease ctx s := rfl
@[simp] theorem exec_guestTake {gqn} (s : State) : exec (.guestTake gqn) s = execGuestTake gqn s := rfl
@[simp] theorem exec_guestWaithSatisfied {gqn} (s : State) : exec (.guestWaithSatisfied gqn) s = execGuestWaithSatisfied gqn s := rfl
@[simp] theorem exec_guestDone {gqn seq} (s : State) : exec (.guestDone gqn seq) s = execGuestDone gqn seq s := rfl
@[simp] theorem exec_guestFault {gqn seq cause} (s : State) : exec (.guestFault gqn seq cause) s = execGuestFault gqn seq cause s := rfl
@[simp] theorem exec_guestReturn {gqn seq} (s : State) : exec (.guestReturn gqn seq) s = execGuestReturn gqn seq s := rfl
@[simp] theorem exec_parked {ctx} (s : State) : exec (.parked ctx) s = execParked ctx s := rfl
@[simp] theorem exec_parklate {ctx} (s : State) : exec (.parklate ctx) s = execParklate ctx s := rfl
@[simp] theorem exec_trq {ctx gva write} (s : State) : exec (.trq ctx gva write) s = execTrq ctx gva write s := rfl
@[simp] theorem exec_invack {inv} (s : State) : exec (.invack inv) s = execInvack inv s := rfl
@[simp] theorem exec_invlate {inv} (s : State) : exec (.invlate inv) s = execInvlate inv s := rfl
@[simp] theorem exec_ready (s : State) : exec (.ready) s = execReady s := rfl
@[simp] theorem exec_readyTimeout (s : State) : exec (.readyTimeout) s = execReadyTimeout s := rfl
@[simp] theorem exec_guestCoherentRequest {cls addr data} (s : State) : exec (.guestCoherentRequest cls addr data) s = execGuestCoherentRequest cls addr data s := rfl
@[simp] theorem exec_guestReset (s : State) : exec (.guestReset) s = execGuestReset s := rfl
@[simp] theorem exec_guestRailOverload (s : State) : exec (.guestRailOverload) s = execGuestRailOverload s := rfl
@[simp] theorem exec_dtuTranslate {req} (s : State) : exec (.dtuTranslate req) s = execDtuTranslate req s := rfl
@[simp] theorem exec_walkComplete {die ctx page} (s : State) : exec (.walkComplete die ctx page) s = execWalkComplete die ctx page s := rfl
@[simp] theorem exec_stationReissue {station} (s : State) : exec (.stationReissue station) s = execStationReissue station s := rfl
@[simp] theorem exec_managementRecordHandle {die} (s : State) : exec (.managementRecordHandle die) s = execManagementRecordHandle die s := rfl
@[simp] theorem exec_inboundWrite {func off bytes relaxed} (s : State) : exec (.inboundWrite func off bytes relaxed) s = execInboundWrite func off bytes relaxed s := rfl
@[simp] theorem exec_inboundRead {func off n} (s : State) : exec (.inboundRead func off n) s = execInboundRead func off n s := rfl
@[simp] theorem exec_hostReadCompletion {req status data} (s : State) : exec (.hostReadCompletion req status data) s = execHostReadCompletion req status data s := rfl
@[simp] theorem exec_completionTimeout {req} (s : State) : exec (.completionTimeout req) s = execCompletionTimeout req s := rfl
@[simp] theorem exec_stringFlitArrive {flit} (s : State) : exec (.stringFlitArrive flit) s = execStringFlitArrive flit s := rfl
@[simp] theorem exec_meshFlitRetry {link fails} (s : State) : exec (.meshFlitRetry link fails) s = execMeshFlitRetry link fails s := rfl
@[simp] theorem exec_linkFail {link reqs} (s : State) : exec (.linkFail link reqs) s = execLinkFail link reqs s := rfl
@[simp] theorem exec_linkdown (s : State) : exec (.linkdown) s = execLinkdown s := rfl
@[simp] theorem exec_uncorrectableError {place} (s : State) : exec (.uncorrectableError place) s = execUncorrectableError place s := rfl
@[simp] theorem exec_sliceScrub {found} (s : State) : exec (.sliceScrub found) s = execSliceScrub found s := rfl
@[simp] theorem exec_stationSelfTest {station found} (s : State) : exec (.stationSelfTest station found) s = execStationSelfTest station found s := rfl
@[simp] theorem exec_shardCheck {shard} (s : State) : exec (.shardCheck shard) s = execShardCheck shard s := rfl
@[simp] theorem exec_shardLoadTimeout {shard} (s : State) : exec (.shardLoadTimeout shard) s = execShardLoadTimeout shard s := rfl
@[simp] theorem exec_shardRecheck {shard} (s : State) : exec (.shardRecheck shard) s = execShardRecheck shard s := rfl
@[simp] theorem exec_rasClear {die mask} (s : State) : exec (.rasClear die mask) s = execRasClear die mask s := rfl
@[simp] theorem exec_stage {slot} (s : State) : exec (.stage slot) s = execStage slot s := rfl
@[simp] theorem exec_fwVerifyDone {slot sigs svn} (s : State) : exec (.fwVerifyDone slot sigs svn) s = execFwVerifyDone slot sigs svn s := rfl
@[simp] theorem exec_activate {slot} (s : State) : exec (.activate slot) s = execActivate slot s := rfl
@[simp] theorem exec_abort (s : State) : exec (.abort) s = execAbort s := rfl
@[simp] theorem exec_trialDeadline (s : State) : exec (.trialDeadline) s = execTrialDeadline s := rfl
@[simp] theorem exec_packageReset (s : State) : exec (.packageReset) s = execPackageReset s := rfl
@[simp] theorem exec_ringTokenTimeout (s : State) : exec (.ringTokenTimeout) s = execRingTokenTimeout s := rfl
@[simp] theorem exec_thermalThreshold {station hot} (s : State) : exec (.thermalThreshold station hot) s = execThermalThreshold station hot s := rfl
@[simp] theorem exec_thermtrip (s : State) : exec (.thermtrip) s = execThermtrip s := rfl
@[simp] theorem exec_badcmd {q} (s : State) : exec (.badcmd q) s = execBadcmd q s := rfl
@[simp] theorem exec_channelCreditReturn {slot port} (s : State) : exec (.channelCreditReturn slot port) s = execChannelCreditReturn slot port s := rfl
@[simp] theorem exec_thermalTransferArrive {tag} (s : State) : exec (.thermalTransferArrive tag) s = execThermalTransferArrive tag s := rfl
@[simp] theorem exec_linkRetrainComplete {link} (s : State) : exec (.linkRetrainComplete link) s = execLinkRetrainComplete link s := rfl
@[simp] theorem exec_configurationRequest {req} (s : State) : exec (.configurationRequest req) s = execConfigurationRequest req s := rfl
@[simp] theorem exec_perstDeassertion {found lp6Ok images} (s : State) : exec (.perstDeassertion found lp6Ok images) s = execPerstDeassertion found lp6Ok images s := rfl
@[simp] theorem exec_powerRemoval (s : State) : exec (.powerRemoval) s = execPowerRemoval s := rfl
@[simp] theorem exec_guestSnoopResponse {snoop reply} (s : State) : exec (.guestSnoopResponse snoop reply) s = execGuestSnoopResponse snoop reply s := rfl
@[simp] theorem exec_contextCreation {ctx quota stations guestQueues} (s : State) : exec (.contextCreation ctx quota stations guestQueues) s = execContextCreation ctx quota stations guestQueues s := rfl
@[simp] theorem exec_contextDestruction {ctx} (s : State) : exec (.contextDestruction ctx) s = execContextDestruction ctx s := rfl

end Sys2Proof.Machine
end

