-- ==== Sys2Proof/Laws/Memory.lean ====
section
/-! SUPPORT. Memory: reading a byte after a write, and the canonical form that every memory operation keeps. -/

namespace Sys2Proof.Machine

theorem memWfFrom_mono {m : List Host.Cell} {a b : Nat} (h : memWfFrom b m = true) (hab : a ≤ b) : memWfFrom a m = true := by
  cases m with
  | nil => rfl
  | cons c t =>
    obtain ⟨k, v⟩ := c
    simp only [memWfFrom, Bool.and_eq_true, decide_eq_true_eq] at h ⊢
    exact ⟨⟨by omega, h.1.2⟩, h.2⟩

/-- Below its first key a memory in canonical form reads zero. -/
theorem memGet_below {m : List Host.Cell} {lo a : Nat} (h : memWfFrom lo m = true) (ha : a < lo) : memGet m a = 0 := by
  induction m generalizing lo with
  | nil => rfl
  | cons c t ih =>
    obtain ⟨k, v⟩ := c
    simp only [memWfFrom, Bool.and_eq_true, decide_eq_true_eq] at h
    have : a ≠ k := by omega
    simp only [memGet, this, if_false]
    exact ih h.2 (by omega)

theorem memGet_memSet_from {m : List Host.Cell} {lo a : Nat} (h : memWfFrom lo m = true) (b : Byte) (x : Nat) :
    memGet (memSet m a b) x = if x = a then b else memGet m x := by
  induction m generalizing lo with
  | nil =>
    by_cases hb : b = 0
    · rw [memSet, if_pos hb, hb]; split <;> rfl
    · rw [memSet, if_neg hb]; rfl
  | cons c t ih =>
    obtain ⟨k, v⟩ := c
    have h0 := h
    simp only [memWfFrom, Bool.and_eq_true, decide_eq_true_eq] at h
    have ih := ih h.2
    rw [memSet]
    by_cases h1 : a < k
    · rw [if_pos h1]
      by_cases hb : b = 0
      · rw [if_pos hb]
        by_cases hx : x = a
        · rw [if_pos hx, hb]
          exact memGet_below (lo := k) (by simp only [memWfFrom, Bool.and_eq_true, decide_eq_true_eq]; exact ⟨⟨by omega, h.1.2⟩, h.2⟩) (by omega)
        · rw [if_neg hx]
      · rw [if_neg hb, memGet]
    · rw [if_neg h1]
      by_cases h2 : a = k
      · rw [if_pos h2]
        subst h2
        by_cases hx : x = a
        · subst hx
          rw [if_pos rfl]
          by_cases hb : b = 0
          · rw [if_pos hb, hb]; exact memGet_below h.2 (by omega)
          · rw [if_neg hb, memGet, if_pos rfl]
        · rw [if_neg hx]
          by_cases hb : b = 0
          · rw [if_pos hb, memGet, if_neg hx]
          · rw [if_neg hb, memGet, memGet, if_neg hx, if_neg hx]
      · rw [if_neg h2, memGet, memGet]
        by_cases hx : x = k
        · rw [if_pos hx, if_neg (by omega), if_pos hx]
        · rw [if_neg hx, ih, if_neg hx]

/-- Reading a byte after one byte is written. -/
theorem memGet_memSet {m : List Host.Cell} (h : Memory.wf m = true) (a : Nat) (b : Byte) (x : Nat) :
    memGet (memSet m a b) x = if x = a then b else memGet m x := memGet_memSet_from h b x

theorem memSet_wfFrom {m : List Host.Cell} {lo a : Nat} (h : memWfFrom lo m = true) (ha : lo ≤ a) (b : Byte) :
    memWfFrom lo (memSet m a b) = true := by
  induction m generalizing lo with
  | nil =>
    by_cases hb : b = 0
    · rw [memSet, if_pos hb]; rfl
    · rw [memSet, if_neg hb]
      simp only [memWfFrom, Bool.and_eq_true, decide_eq_true_eq]
      exact ⟨⟨ha, hb⟩, trivial⟩
  | cons c t ih =>
    obtain ⟨k, v⟩ := c
    have h0 := h
    simp only [memWfFrom, Bool.and_eq_true, decide_eq_true_eq] at h
    rw [memSet]
    by_cases h1 : a < k
    · rw [if_pos h1]
      by_cases hb : b = 0
      · rw [if_pos hb]; exact h0
      · rw [if_neg hb]
        simp only [memWfFrom, Bool.and_eq_true, decide_eq_true_eq]
        exact ⟨⟨ha, hb⟩, ⟨by omega, h.1.2⟩, h.2⟩
    · rw [if_neg h1]
      by_cases h2 : a = k
      · rw [if_pos h2]
        by_cases hb : b = 0
        · rw [if_pos hb]; exact memWfFrom_mono h.2 (by omega)
        · rw [if_neg hb]
          simp only [memWfFrom, Bool.and_eq_true, decide_eq_true_eq]
          exact ⟨⟨ha, hb⟩, h2 ▸ h.2⟩
      · rw [if_neg h2]
        simp only [memWfFrom, Bool.and_eq_true, decide_eq_true_eq]
        exact ⟨h.1, ih h.2 (by omega)⟩

/-- Writing a byte keeps the canonical form. -/
theorem memSet_wf {m : List Host.Cell} (h : Memory.wf m = true) (a : Nat) (b : Byte) : Memory.wf (memSet m a b) = true :=
  memSet_wfFrom h (Nat.zero_le a) b

theorem memWrite_wf {m : List Host.Cell} (h : Memory.wf m = true) (a : Nat) (bs : List Byte) : Memory.wf (memWrite m a bs) = true := by
  induction bs generalizing m a with
  | nil => exact h
  | cons b t ih => exact ih (memSet_wf h a b) _

theorem memWriteMask_wf {m : List Host.Cell} (h : Memory.wf m = true) (a : Nat) (bs : List (Bool × Byte)) :
    Memory.wf (memWriteMask m a bs) = true := by
  induction bs generalizing m a with
  | nil => exact h
  | cons b t ih =>
    obtain ⟨e, v⟩ := b
    cases e
    · exact ih h _
    · exact ih (memSet_wf h a v) _

theorem memWfFrom_filter {m : List Host.Cell} {lo : Nat} (h : memWfFrom lo m = true) (p : Host.Cell → Bool) :
    memWfFrom lo (m.filter p) = true := by
  induction m generalizing lo with
  | nil => rfl
  | cons c t ih =>
    obtain ⟨k, v⟩ := c
    simp only [memWfFrom, Bool.and_eq_true, decide_eq_true_eq] at h
    have ih := ih h.2
    by_cases hp : p (k, v) = true
    · simp only [List.filter_cons, hp, if_true, memWfFrom, Bool.and_eq_true, decide_eq_true_eq]
      exact ⟨h.1, ih⟩
    · simp only [List.filter_cons, hp]
      exact memWfFrom_mono ih (by omega)

/-- Dropping cells keeps the canonical form: the bytes that are dropped read zero. -/
theorem Memory.wf_filter {m : List Host.Cell} (h : Memory.wf m = true) (p : Host.Cell → Bool) : Memory.wf (m.filter p) = true :=
  memWfFrom_filter h p

theorem memClear_wf {m : List Host.Cell} (h : Memory.wf m = true) (lo hi : Nat) : Memory.wf (memClear m lo hi) = true :=
  Memory.wf_filter h _

/-- Writing bytes at ascending keys: the written keys read the bytes, the others as before. -/
theorem memGet_memWrite {m : List Host.Cell} (h : Memory.wf m = true) (a : Nat) (bs : List Byte) (x : Nat) :
    memGet (memWrite m a bs) x = if a ≤ x ∧ x < a + bs.length then (bs[x - a]?).getD 0 else memGet m x := by
  induction bs generalizing m a with
  | nil =>
    rw [if_neg (by simp only [List.length_nil]; omega)]; rfl
  | cons b t ih =>
    simp only [memWrite, ih (memSet_wf h a b), memGet_memSet h, List.length_cons]
    by_cases h1 : x = a
    · subst h1
      rw [if_neg (by omega), if_pos rfl, if_pos (by omega)]; simp
    · rw [if_neg h1]
      by_cases h2 : a + 1 ≤ x ∧ x < a + 1 + t.length
      · rw [if_pos h2, if_pos (by omega)]
        have : x - a = (x - (a + 1)) + 1 := by omega
        rw [this]; simp
      · rw [if_neg h2, if_neg (by omega)]

/-! ### The operations of the state -/

theorem State.homeWriteMask_wf (s : State) (l : Loc) (bs : List (Bool × Byte)) (h : Memory.wf s.mem = true) :
    Memory.wf (s.homeWriteMask l bs).mem = true := by
  induction bs generalizing s l with
  | nil => exact h
  | cons b t ih =>
    obtain ⟨e, v⟩ := b
    simp only [State.homeWriteMask]
    apply ih
    split
    · split
      · exact memSet_wf h _ _
      · exact h
    · exact h

theorem State.homeWrite_wf (s : State) (l : Loc) (bs : List Byte) (h : Memory.wf s.mem = true) :
    Memory.wf (s.homeWrite l bs).mem = true := State.homeWriteMask_wf s l _ h

theorem State.writeBlock_wf (s : State) (l : Loc) (bs : List (Bool × Byte)) (h : Memory.wf s.mem = true) :
    Memory.wf (s.writeBlock l bs).1.mem = true := by
  unfold State.writeBlock
  repeat' split
  all_goals first
    | exact h
    | exact State.homeWriteMask_wf _ _ _ h

end Sys2Proof.Machine
end

