-- ==== Sys2Proof/Laws/Tables.lean ====
section
/-! SUPPORT. The tables of the state: what reading an entry gives after a table is changed. -/

namespace Sys2Proof.Machine

variable {α : Type}

@[simp] theorem tblGet_nil (k : Nat) : tblGet ([] : List (Nat × α)) k = none := rfl

theorem tblGet_tblPut (l : List (Nat × α)) (k j : Nat) (v : α) :
    tblGet (tblPut l k v) j = if j = k then some v else tblGet l j := by
  induction l with
  | nil => rfl
  | cons e t ih =>
    obtain ⟨i, w⟩ := e
    simp only [tblPut]
    split
    · rfl
    · split
      · subst_vars; by_cases h : j = i <;> simp [tblGet, h]
      · by_cases h : j = i <;> simp [tblGet, h, ih]; omega

@[simp] theorem tblGet_tblPut_self (l : List (Nat × α)) (k : Nat) (v : α) : tblGet (tblPut l k v) k = some v := by
  simp [tblGet_tblPut]

theorem tblGet_tblPut_of_ne {l : List (Nat × α)} {k j : Nat} {v : α} (h : j ≠ k) : tblGet (tblPut l k v) j = tblGet l j := by
  simp [tblGet_tblPut, h]

theorem tblGet_tblDel (l : List (Nat × α)) (k j : Nat) : tblGet (tblDel l k) j = if j = k then none else tblGet l j := by
  induction l with
  | nil => simp [tblDel]
  | cons e t ih =>
    obtain ⟨i, w⟩ := e
    simp only [tblDel] at ih ⊢
    by_cases h : i = k
    · subst h
      by_cases hj : j = i <;> simp_all [tblGet]
    · by_cases hj : j = i <;> simp_all [tblGet]

@[simp] theorem tblGet_tblDel_self (l : List (Nat × α)) (k : Nat) : tblGet (tblDel l k) k = none := by simp [tblGet_tblDel]

theorem tblGet_tblMod (l : List (Nat × α)) (k j : Nat) (f : α → α) :
    tblGet (tblMod l k f) j = if j = k then (tblGet l k).map f else tblGet l j := by
  induction l with
  | nil => simp [tblMod]
  | cons e t ih =>
    obtain ⟨i, w⟩ := e
    simp only [tblMod, List.map_cons] at ih ⊢
    by_cases hi : i = k
    · subst hi
      by_cases hj : j = i <;> simp_all [tblGet]
    · by_cases hj : j = i
      · simp_all [tblGet]
      · by_cases hk : j = k
        · subst hk; simp_all [tblGet]
        · simp_all [tblGet]

@[simp] theorem tblGet_tblMod_self (l : List (Nat × α)) (k : Nat) (f : α → α) :
    tblGet (tblMod l k f) k = (tblGet l k).map f := by simp [tblGet_tblMod]

theorem tblGet_mem {l : List (Nat × α)} {k : Nat} {v : α} (h : tblGet l k = some v) : (k, v) ∈ l := by
  induction l with
  | nil => simp at h
  | cons e t ih =>
    obtain ⟨i, w⟩ := e
    by_cases hk : k = i
    · simp_all [tblGet]
    · simp_all [tblGet]

end Sys2Proof.Machine
end

