-- ==== Sys2Proof/Laws/State.lean ====
section
/-! SUPPORT. What each update of the state leaves of each field, and what it makes of the field that it changes. -/

namespace Sys2Proof.Machine

/-! ### setSlot -/

@[simp] theorem State.setSlot_agenda (s : State) (k : Nat) (t : Strand) : (s.setSlot k t).agenda = s.agenda := rfl
@[simp] theorem State.setSlot_focus (s : State) (k : Nat) (t : Strand) : (s.setSlot k t).focus = s.focus := rfl
@[simp] theorem State.setSlot_cur (s : State) (k : Nat) (t : Strand) : (s.setSlot k t).cur = s.cur := rfl
@[simp] theorem State.setSlot_mem (s : State) (k : Nat) (t : Strand) : (s.setSlot k t).mem = s.mem := rfl
@[simp] theorem State.setSlot_poison (s : State) (k : Nat) (t : Strand) : (s.setSlot k t).poison = s.poison := rfl
@[simp] theorem State.setSlot_stations (s : State) (k : Nat) (t : Strand) : (s.setSlot k t).stations = s.stations := rfl
@[simp] theorem State.setSlot_dies (s : State) (k : Nat) (t : Strand) : (s.setSlot k t).dies = s.dies := rfl
@[simp] theorem State.setSlot_reqs (s : State) (k : Nat) (t : Strand) : (s.setSlot k t).reqs = s.reqs := rfl
@[simp] theorem State.setSlot_results (s : State) (k : Nat) (t : Strand) : (s.setSlot k t).results = s.results := rfl
@[simp] theorem State.setSlot_resv (s : State) (k : Nat) (t : Strand) : (s.setSlot k t).resv = s.resv := rfl
@[simp] theorem State.setSlot_queueWaits (s : State) (k : Nat) (t : Strand) : (s.setSlot k t).queueWaits = s.queueWaits := rfl
@[simp] theorem State.setSlot_proofs (s : State) (k : Nat) (t : Strand) : (s.setSlot k t).proofs = s.proofs := rfl
@[simp] theorem State.setSlot_grids (s : State) (k : Nat) (t : Strand) : (s.setSlot k t).grids = s.grids := rfl
@[simp] theorem State.setSlot_ctxs (s : State) (k : Nat) (t : Strand) : (s.setSlot k t).ctxs = s.ctxs := rfl
@[simp] theorem State.setSlot_queues (s : State) (k : Nat) (t : Strand) : (s.setSlot k t).queues = s.queues := rfl
@[simp] theorem State.setSlot_saved (s : State) (k : Nat) (t : Strand) : (s.setSlot k t).saved = s.saved := rfl
@[simp] theorem State.setSlot_transit (s : State) (k : Nat) (t : Strand) : (s.setSlot k t).transit = s.transit := rfl
@[simp] theorem State.setSlot_guest (s : State) (k : Nat) (t : Strand) : (s.setSlot k t).guest = s.guest := rfl
@[simp] theorem State.setSlot_shards (s : State) (k : Nat) (t : Strand) : (s.setSlot k t).shards = s.shards := rfl
@[simp] theorem State.setSlot_fw (s : State) (k : Nat) (t : Strand) : (s.setSlot k t).fw = s.fw := rfl
@[simp] theorem State.setSlot_windows (s : State) (k : Nat) (t : Strand) : (s.setSlot k t).windows = s.windows := rfl
@[simp] theorem State.setSlot_atomics (s : State) (k : Nat) (t : Strand) : (s.setSlot k t).atomics = s.atomics := rfl
@[simp] theorem State.setSlot_pcie (s : State) (k : Nat) (t : Strand) : (s.setSlot k t).pcie = s.pcie := rfl
@[simp] theorem State.setSlot_seenAway (s : State) (k : Nat) (t : Strand) : (s.setSlot k t).seenAway = s.seenAway := rfl
@[simp] theorem State.setSlot_marked (s : State) (k : Nat) (t : Strand) : (s.setSlot k t).marked = s.marked := rfl
@[simp] theorem State.setSlot_string (s : State) (k : Nat) (t : Strand) : (s.setSlot k t).string = s.string := rfl
@[simp] theorem State.setSlot_eastDown (s : State) (k : Nat) (t : Strand) : (s.setSlot k t).eastDown = s.eastDown := rfl
@[simp] theorem State.setSlot_westDown (s : State) (k : Nat) (t : Strand) : (s.setSlot k t).westDown = s.westDown := rfl
@[simp] theorem State.setSlot_boot (s : State) (k : Nat) (t : Strand) : (s.setSlot k t).boot = s.boot := rfl
@[simp] theorem State.setSlot_cfg (s : State) (k : Nat) (t : Strand) : (s.setSlot k t).cfg = s.cfg := rfl
@[simp] theorem State.setSlot_walkers (s : State) (k : Nat) (t : Strand) : (s.setSlot k t).walkers = s.walkers := rfl
@[simp] theorem State.setSlot_rescue (s : State) (k : Nat) (t : Strand) : (s.setSlot k t).rescue = s.rescue := rfl
@[simp] theorem State.setSlot_clock (s : State) (k : Nat) (t : Strand) : (s.setSlot k t).clock = s.clock := rfl
@[simp] theorem State.setSlot_nextId (s : State) (k : Nat) (t : Strand) : (s.setSlot k t).nextId = s.nextId := rfl
@[simp] theorem State.setSlot_nextTag (s : State) (k : Nat) (t : Strand) : (s.setSlot k t).nextTag = s.nextTag := rfl
@[simp] theorem State.setSlot_nextAge (s : State) (k : Nat) (t : Strand) : (s.setSlot k t).nextAge = s.nextAge := rfl
@[simp] theorem State.setSlot_cfgSpace (s : State) (k : Nat) (t : Strand) : (s.setSlot k t).cfgSpace = s.cfgSpace := rfl
@[simp] theorem State.setSlot_awayEnded (s : State) (k : Nat) (t : Strand) : (s.setSlot k t).awayEnded = s.awayEnded := rfl
@[simp] theorem State.setSlot_bar4 (s : State) (k : Nat) (t : Strand) : (s.setSlot k t).bar4 = s.bar4 := rfl
@[simp] theorem State.setSlot_sliceRows (s : State) (k : Nat) (t : Strand) : (s.setSlot k t).sliceRows = s.sliceRows := rfl
@[simp] theorem State.setSlot_powerLimit (s : State) (k : Nat) (t : Strand) : (s.setSlot k t).powerLimit = s.powerLimit := rfl
@[simp] theorem State.setSlot_powerOver (s : State) (k : Nat) (t : Strand) : (s.setSlot k t).powerOver = s.powerOver := rfl

/-! ### freeSlot -/

@[simp] theorem State.freeSlot_agenda (s : State) (k : Nat) : (s.freeSlot k).agenda = s.agenda := rfl
@[simp] theorem State.freeSlot_focus (s : State) (k : Nat) : (s.freeSlot k).focus = s.focus := rfl
@[simp] theorem State.freeSlot_cur (s : State) (k : Nat) : (s.freeSlot k).cur = s.cur := rfl
@[simp] theorem State.freeSlot_mem (s : State) (k : Nat) : (s.freeSlot k).mem = s.mem := rfl
@[simp] theorem State.freeSlot_poison (s : State) (k : Nat) : (s.freeSlot k).poison = s.poison := rfl
@[simp] theorem State.freeSlot_stations (s : State) (k : Nat) : (s.freeSlot k).stations = s.stations := rfl
@[simp] theorem State.freeSlot_dies (s : State) (k : Nat) : (s.freeSlot k).dies = s.dies := rfl
@[simp] theorem State.freeSlot_reqs (s : State) (k : Nat) : (s.freeSlot k).reqs = s.reqs := rfl
@[simp] theorem State.freeSlot_results (s : State) (k : Nat) : (s.freeSlot k).results = s.results := rfl
@[simp] theorem State.freeSlot_resv (s : State) (k : Nat) : (s.freeSlot k).resv = s.resv := rfl
@[simp] theorem State.freeSlot_queueWaits (s : State) (k : Nat) : (s.freeSlot k).queueWaits = s.queueWaits := rfl
@[simp] theorem State.freeSlot_proofs (s : State) (k : Nat) : (s.freeSlot k).proofs = s.proofs := rfl
@[simp] theorem State.freeSlot_grids (s : State) (k : Nat) : (s.freeSlot k).grids = s.grids := rfl
@[simp] theorem State.freeSlot_ctxs (s : State) (k : Nat) : (s.freeSlot k).ctxs = s.ctxs := rfl
@[simp] theorem State.freeSlot_queues (s : State) (k : Nat) : (s.freeSlot k).queues = s.queues := rfl
@[simp] theorem State.freeSlot_saved (s : State) (k : Nat) : (s.freeSlot k).saved = s.saved := rfl
@[simp] theorem State.freeSlot_transit (s : State) (k : Nat) : (s.freeSlot k).transit = s.transit := rfl
@[simp] theorem State.freeSlot_guest (s : State) (k : Nat) : (s.freeSlot k).guest = s.guest := rfl
@[simp] theorem State.freeSlot_shards (s : State) (k : Nat) : (s.freeSlot k).shards = s.shards := rfl
@[simp] theorem State.freeSlot_fw (s : State) (k : Nat) : (s.freeSlot k).fw = s.fw := rfl
@[simp] theorem State.freeSlot_windows (s : State) (k : Nat) : (s.freeSlot k).windows = s.windows := rfl
@[simp] theorem State.freeSlot_atomics (s : State) (k : Nat) : (s.freeSlot k).atomics = s.atomics := rfl
@[simp] theorem State.freeSlot_pcie (s : State) (k : Nat) : (s.freeSlot k).pcie = s.pcie := rfl
@[simp] theorem State.freeSlot_seenAway (s : State) (k : Nat) : (s.freeSlot k).seenAway = s.seenAway := rfl
@[simp] theorem State.freeSlot_marked (s : State) (k : Nat) : (s.freeSlot k).marked = s.marked := rfl
@[simp] theorem State.freeSlot_string (s : State) (k : Nat) : (s.freeSlot k).string = s.string := rfl
@[simp] theorem State.freeSlot_eastDown (s : State) (k : Nat) : (s.freeSlot k).eastDown = s.eastDown := rfl
@[simp] theorem State.freeSlot_westDown (s : State) (k : Nat) : (s.freeSlot k).westDown = s.westDown := rfl
@[simp] theorem State.freeSlot_boot (s : State) (k : Nat) : (s.freeSlot k).boot = s.boot := rfl
@[simp] theorem State.freeSlot_cfg (s : State) (k : Nat) : (s.freeSlot k).cfg = s.cfg := rfl
@[simp] theorem State.freeSlot_walkers (s : State) (k : Nat) : (s.freeSlot k).walkers = s.walkers := rfl
@[simp] theorem State.freeSlot_rescue (s : State) (k : Nat) : (s.freeSlot k).rescue = s.rescue := rfl
@[simp] theorem State.freeSlot_clock (s : State) (k : Nat) : (s.freeSlot k).clock = s.clock := rfl
@[simp] theorem State.freeSlot_nextId (s : State) (k : Nat) : (s.freeSlot k).nextId = s.nextId := rfl
@[simp] theorem State.freeSlot_nextTag (s : State) (k : Nat) : (s.freeSlot k).nextTag = s.nextTag := rfl
@[simp] theorem State.freeSlot_nextAge (s : State) (k : Nat) : (s.freeSlot k).nextAge = s.nextAge := rfl
@[simp] theorem State.freeSlot_cfgSpace (s : State) (k : Nat) : (s.freeSlot k).cfgSpace = s.cfgSpace := rfl
@[simp] theorem State.freeSlot_awayEnded (s : State) (k : Nat) : (s.freeSlot k).awayEnded = s.awayEnded := rfl
@[simp] theorem State.freeSlot_bar4 (s : State) (k : Nat) : (s.freeSlot k).bar4 = s.bar4 := rfl
@[simp] theorem State.freeSlot_sliceRows (s : State) (k : Nat) : (s.freeSlot k).sliceRows = s.sliceRows := rfl
@[simp] theorem State.freeSlot_powerLimit (s : State) (k : Nat) : (s.freeSlot k).powerLimit = s.powerLimit := rfl
@[simp] theorem State.freeSlot_powerOver (s : State) (k : Nat) : (s.freeSlot k).powerOver = s.powerOver := rfl

/-! ### modSlot -/

@[simp] theorem State.modSlot_agenda (s : State) (k : Nat) (f : Strand → Strand) : (s.modSlot k f).agenda = s.agenda := rfl
@[simp] theorem State.modSlot_focus (s : State) (k : Nat) (f : Strand → Strand) : (s.modSlot k f).focus = s.focus := rfl
@[simp] theorem State.modSlot_cur (s : State) (k : Nat) (f : Strand → Strand) : (s.modSlot k f).cur = s.cur := rfl
@[simp] theorem State.modSlot_mem (s : State) (k : Nat) (f : Strand → Strand) : (s.modSlot k f).mem = s.mem := rfl
@[simp] theorem State.modSlot_poison (s : State) (k : Nat) (f : Strand → Strand) : (s.modSlot k f).poison = s.poison := rfl
@[simp] theorem State.modSlot_stations (s : State) (k : Nat) (f : Strand → Strand) : (s.modSlot k f).stations = s.stations := rfl
@[simp] theorem State.modSlot_dies (s : State) (k : Nat) (f : Strand → Strand) : (s.modSlot k f).dies = s.dies := rfl
@[simp] theorem State.modSlot_reqs (s : State) (k : Nat) (f : Strand → Strand) : (s.modSlot k f).reqs = s.reqs := rfl
@[simp] theorem State.modSlot_results (s : State) (k : Nat) (f : Strand → Strand) : (s.modSlot k f).results = s.results := rfl
@[simp] theorem State.modSlot_resv (s : State) (k : Nat) (f : Strand → Strand) : (s.modSlot k f).resv = s.resv := rfl
@[simp] theorem State.modSlot_queueWaits (s : State) (k : Nat) (f : Strand → Strand) : (s.modSlot k f).queueWaits = s.queueWaits := rfl
@[simp] theorem State.modSlot_proofs (s : State) (k : Nat) (f : Strand → Strand) : (s.modSlot k f).proofs = s.proofs := rfl
@[simp] theorem State.modSlot_grids (s : State) (k : Nat) (f : Strand → Strand) : (s.modSlot k f).grids = s.grids := rfl
@[simp] theorem State.modSlot_ctxs (s : State) (k : Nat) (f : Strand → Strand) : (s.modSlot k f).ctxs = s.ctxs := rfl
@[simp] theorem State.modSlot_queues (s : State) (k : Nat) (f : Strand → Strand) : (s.modSlot k f).queues = s.queues := rfl
@[simp] theorem State.modSlot_saved (s : State) (k : Nat) (f : Strand → Strand) : (s.modSlot k f).saved = s.saved := rfl
@[simp] theorem State.modSlot_transit (s : State) (k : Nat) (f : Strand → Strand) : (s.modSlot k f).transit = s.transit := rfl
@[simp] theorem State.modSlot_guest (s : State) (k : Nat) (f : Strand → Strand) : (s.modSlot k f).guest = s.guest := rfl
@[simp] theorem State.modSlot_shards (s : State) (k : Nat) (f : Strand → Strand) : (s.modSlot k f).shards = s.shards := rfl
@[simp] theorem State.modSlot_fw (s : State) (k : Nat) (f : Strand → Strand) : (s.modSlot k f).fw = s.fw := rfl
@[simp] theorem State.modSlot_windows (s : State) (k : Nat) (f : Strand → Strand) : (s.modSlot k f).windows = s.windows := rfl
@[simp] theorem State.modSlot_atomics (s : State) (k : Nat) (f : Strand → Strand) : (s.modSlot k f).atomics = s.atomics := rfl
@[simp] theorem State.modSlot_pcie (s : State) (k : Nat) (f : Strand → Strand) : (s.modSlot k f).pcie = s.pcie := rfl
@[simp] theorem State.modSlot_seenAway (s : State) (k : Nat) (f : Strand → Strand) : (s.modSlot k f).seenAway = s.seenAway := rfl
@[simp] theorem State.modSlot_marked (s : State) (k : Nat) (f : Strand → Strand) : (s.modSlot k f).marked = s.marked := rfl
@[simp] theorem State.modSlot_string (s : State) (k : Nat) (f : Strand → Strand) : (s.modSlot k f).string = s.string := rfl
@[simp] theorem State.modSlot_eastDown (s : State) (k : Nat) (f : Strand → Strand) : (s.modSlot k f).eastDown = s.eastDown := rfl
@[simp] theorem State.modSlot_westDown (s : State) (k : Nat) (f : Strand → Strand) : (s.modSlot k f).westDown = s.westDown := rfl
@[simp] theorem State.modSlot_boot (s : State) (k : Nat) (f : Strand → Strand) : (s.modSlot k f).boot = s.boot := rfl
@[simp] theorem State.modSlot_cfg (s : State) (k : Nat) (f : Strand → Strand) : (s.modSlot k f).cfg = s.cfg := rfl
@[simp] theorem State.modSlot_walkers (s : State) (k : Nat) (f : Strand → Strand) : (s.modSlot k f).walkers = s.walkers := rfl
@[simp] theorem State.modSlot_rescue (s : State) (k : Nat) (f : Strand → Strand) : (s.modSlot k f).rescue = s.rescue := rfl
@[simp] theorem State.modSlot_clock (s : State) (k : Nat) (f : Strand → Strand) : (s.modSlot k f).clock = s.clock := rfl
@[simp] theorem State.modSlot_nextId (s : State) (k : Nat) (f : Strand → Strand) : (s.modSlot k f).nextId = s.nextId := rfl
@[simp] theorem State.modSlot_nextTag (s : State) (k : Nat) (f : Strand → Strand) : (s.modSlot k f).nextTag = s.nextTag := rfl
@[simp] theorem State.modSlot_nextAge (s : State) (k : Nat) (f : Strand → Strand) : (s.modSlot k f).nextAge = s.nextAge := rfl
@[simp] theorem State.modSlot_cfgSpace (s : State) (k : Nat) (f : Strand → Strand) : (s.modSlot k f).cfgSpace = s.cfgSpace := rfl
@[simp] theorem State.modSlot_awayEnded (s : State) (k : Nat) (f : Strand → Strand) : (s.modSlot k f).awayEnded = s.awayEnded := rfl
@[simp] theorem State.modSlot_bar4 (s : State) (k : Nat) (f : Strand → Strand) : (s.modSlot k f).bar4 = s.bar4 := rfl
@[simp] theorem State.modSlot_sliceRows (s : State) (k : Nat) (f : Strand → Strand) : (s.modSlot k f).sliceRows = s.sliceRows := rfl
@[simp] theorem State.modSlot_powerLimit (s : State) (k : Nat) (f : Strand → Strand) : (s.modSlot k f).powerLimit = s.powerLimit := rfl
@[simp] theorem State.modSlot_powerOver (s : State) (k : Nat) (f : Strand → Strand) : (s.modSlot k f).powerOver = s.powerOver := rfl

/-! ### modCur -/

@[simp] theorem State.modCur_agenda (s : State) (f : Strand → Strand) : (s.modCur f).agenda = s.agenda := rfl
@[simp] theorem State.modCur_focus (s : State) (f : Strand → Strand) : (s.modCur f).focus = s.focus := rfl
@[simp] theorem State.modCur_cur (s : State) (f : Strand → Strand) : (s.modCur f).cur = s.cur := rfl
@[simp] theorem State.modCur_mem (s : State) (f : Strand → Strand) : (s.modCur f).mem = s.mem := rfl
@[simp] theorem State.modCur_poison (s : State) (f : Strand → Strand) : (s.modCur f).poison = s.poison := rfl
@[simp] theorem State.modCur_stations (s : State) (f : Strand → Strand) : (s.modCur f).stations = s.stations := rfl
@[simp] theorem State.modCur_dies (s : State) (f : Strand → Strand) : (s.modCur f).dies = s.dies := rfl
@[simp] theorem State.modCur_reqs (s : State) (f : Strand → Strand) : (s.modCur f).reqs = s.reqs := rfl
@[simp] theorem State.modCur_results (s : State) (f : Strand → Strand) : (s.modCur f).results = s.results := rfl
@[simp] theorem State.modCur_resv (s : State) (f : Strand → Strand) : (s.modCur f).resv = s.resv := rfl
@[simp] theorem State.modCur_queueWaits (s : State) (f : Strand → Strand) : (s.modCur f).queueWaits = s.queueWaits := rfl
@[simp] theorem State.modCur_proofs (s : State) (f : Strand → Strand) : (s.modCur f).proofs = s.proofs := rfl
@[simp] theorem State.modCur_grids (s : State) (f : Strand → Strand) : (s.modCur f).grids = s.grids := rfl
@[simp] theorem State.modCur_ctxs (s : State) (f : Strand → Strand) : (s.modCur f).ctxs = s.ctxs := rfl
@[simp] theorem State.modCur_queues (s : State) (f : Strand → Strand) : (s.modCur f).queues = s.queues := rfl
@[simp] theorem State.modCur_saved (s : State) (f : Strand → Strand) : (s.modCur f).saved = s.saved := rfl
@[simp] theorem State.modCur_transit (s : State) (f : Strand → Strand) : (s.modCur f).transit = s.transit := rfl
@[simp] theorem State.modCur_guest (s : State) (f : Strand → Strand) : (s.modCur f).guest = s.guest := rfl
@[simp] theorem State.modCur_shards (s : State) (f : Strand → Strand) : (s.modCur f).shards = s.shards := rfl
@[simp] theorem State.modCur_fw (s : State) (f : Strand → Strand) : (s.modCur f).fw = s.fw := rfl
@[simp] theorem State.modCur_windows (s : State) (f : Strand → Strand) : (s.modCur f).windows = s.windows := rfl
@[simp] theorem State.modCur_atomics (s : State) (f : Strand → Strand) : (s.modCur f).atomics = s.atomics := rfl
@[simp] theorem State.modCur_pcie (s : State) (f : Strand → Strand) : (s.modCur f).pcie = s.pcie := rfl
@[simp] theorem State.modCur_seenAway (s : State) (f : Strand → Strand) : (s.modCur f).seenAway = s.seenAway := rfl
@[simp] theorem State.modCur_marked (s : State) (f : Strand → Strand) : (s.modCur f).marked = s.marked := rfl
@[simp] theorem State.modCur_string (s : State) (f : Strand → Strand) : (s.modCur f).string = s.string := rfl
@[simp] theorem State.modCur_eastDown (s : State) (f : Strand → Strand) : (s.modCur f).eastDown = s.eastDown := rfl
@[simp] theorem State.modCur_westDown (s : State) (f : Strand → Strand) : (s.modCur f).westDown = s.westDown := rfl
@[simp] theorem State.modCur_boot (s : State) (f : Strand → Strand) : (s.modCur f).boot = s.boot := rfl
@[simp] theorem State.modCur_cfg (s : State) (f : Strand → Strand) : (s.modCur f).cfg = s.cfg := rfl
@[simp] theorem State.modCur_walkers (s : State) (f : Strand → Strand) : (s.modCur f).walkers = s.walkers := rfl
@[simp] theorem State.modCur_rescue (s : State) (f : Strand → Strand) : (s.modCur f).rescue = s.rescue := rfl
@[simp] theorem State.modCur_clock (s : State) (f : Strand → Strand) : (s.modCur f).clock = s.clock := rfl
@[simp] theorem State.modCur_nextId (s : State) (f : Strand → Strand) : (s.modCur f).nextId = s.nextId := rfl
@[simp] theorem State.modCur_nextTag (s : State) (f : Strand → Strand) : (s.modCur f).nextTag = s.nextTag := rfl
@[simp] theorem State.modCur_nextAge (s : State) (f : Strand → Strand) : (s.modCur f).nextAge = s.nextAge := rfl
@[simp] theorem State.modCur_cfgSpace (s : State) (f : Strand → Strand) : (s.modCur f).cfgSpace = s.cfgSpace := rfl
@[simp] theorem State.modCur_awayEnded (s : State) (f : Strand → Strand) : (s.modCur f).awayEnded = s.awayEnded := rfl
@[simp] theorem State.modCur_bar4 (s : State) (f : Strand → Strand) : (s.modCur f).bar4 = s.bar4 := rfl
@[simp] theorem State.modCur_sliceRows (s : State) (f : Strand → Strand) : (s.modCur f).sliceRows = s.sliceRows := rfl
@[simp] theorem State.modCur_powerLimit (s : State) (f : Strand → Strand) : (s.modCur f).powerLimit = s.powerLimit := rfl
@[simp] theorem State.modCur_powerOver (s : State) (f : Strand → Strand) : (s.modCur f).powerOver = s.powerOver := rfl

/-! ### advance -/

@[simp] theorem State.advance_agenda (s : State) : (s.advance).agenda = s.agenda := rfl
@[simp] theorem State.advance_focus (s : State) : (s.advance).focus = s.focus := rfl
@[simp] theorem State.advance_cur (s : State) : (s.advance).cur = s.cur := rfl
@[simp] theorem State.advance_mem (s : State) : (s.advance).mem = s.mem := rfl
@[simp] theorem State.advance_poison (s : State) : (s.advance).poison = s.poison := rfl
@[simp] theorem State.advance_stations (s : State) : (s.advance).stations = s.stations := rfl
@[simp] theorem State.advance_dies (s : State) : (s.advance).dies = s.dies := rfl
@[simp] theorem State.advance_reqs (s : State) : (s.advance).reqs = s.reqs := rfl
@[simp] theorem State.advance_results (s : State) : (s.advance).results = s.results := rfl
@[simp] theorem State.advance_resv (s : State) : (s.advance).resv = s.resv := rfl
@[simp] theorem State.advance_queueWaits (s : State) : (s.advance).queueWaits = s.queueWaits := rfl
@[simp] theorem State.advance_proofs (s : State) : (s.advance).proofs = s.proofs := rfl
@[simp] theorem State.advance_grids (s : State) : (s.advance).grids = s.grids := rfl
@[simp] theorem State.advance_ctxs (s : State) : (s.advance).ctxs = s.ctxs := rfl
@[simp] theorem State.advance_queues (s : State) : (s.advance).queues = s.queues := rfl
@[simp] theorem State.advance_saved (s : State) : (s.advance).saved = s.saved := rfl
@[simp] theorem State.advance_transit (s : State) : (s.advance).transit = s.transit := rfl
@[simp] theorem State.advance_guest (s : State) : (s.advance).guest = s.guest := rfl
@[simp] theorem State.advance_shards (s : State) : (s.advance).shards = s.shards := rfl
@[simp] theorem State.advance_fw (s : State) : (s.advance).fw = s.fw := rfl
@[simp] theorem State.advance_windows (s : State) : (s.advance).windows = s.windows := rfl
@[simp] theorem State.advance_atomics (s : State) : (s.advance).atomics = s.atomics := rfl
@[simp] theorem State.advance_pcie (s : State) : (s.advance).pcie = s.pcie := rfl
@[simp] theorem State.advance_seenAway (s : State) : (s.advance).seenAway = s.seenAway := rfl
@[simp] theorem State.advance_marked (s : State) : (s.advance).marked = s.marked := rfl
@[simp] theorem State.advance_string (s : State) : (s.advance).string = s.string := rfl
@[simp] theorem State.advance_eastDown (s : State) : (s.advance).eastDown = s.eastDown := rfl
@[simp] theorem State.advance_westDown (s : State) : (s.advance).westDown = s.westDown := rfl
@[simp] theorem State.advance_boot (s : State) : (s.advance).boot = s.boot := rfl
@[simp] theorem State.advance_cfg (s : State) : (s.advance).cfg = s.cfg := rfl
@[simp] theorem State.advance_walkers (s : State) : (s.advance).walkers = s.walkers := rfl
@[simp] theorem State.advance_rescue (s : State) : (s.advance).rescue = s.rescue := rfl
@[simp] theorem State.advance_clock (s : State) : (s.advance).clock = s.clock := rfl
@[simp] theorem State.advance_nextId (s : State) : (s.advance).nextId = s.nextId := rfl
@[simp] theorem State.advance_nextTag (s : State) : (s.advance).nextTag = s.nextTag := rfl
@[simp] theorem State.advance_nextAge (s : State) : (s.advance).nextAge = s.nextAge := rfl
@[simp] theorem State.advance_cfgSpace (s : State) : (s.advance).cfgSpace = s.cfgSpace := rfl
@[simp] theorem State.advance_awayEnded (s : State) : (s.advance).awayEnded = s.awayEnded := rfl
@[simp] theorem State.advance_bar4 (s : State) : (s.advance).bar4 = s.bar4 := rfl
@[simp] theorem State.advance_sliceRows (s : State) : (s.advance).sliceRows = s.sliceRows := rfl
@[simp] theorem State.advance_powerLimit (s : State) : (s.advance).powerLimit = s.powerLimit := rfl
@[simp] theorem State.advance_powerOver (s : State) : (s.advance).powerOver = s.powerOver := rfl

/-! ### jump -/

@[simp] theorem State.jump_agenda (s : State) (a : Word) : (s.jump a).agenda = s.agenda := rfl
@[simp] theorem State.jump_focus (s : State) (a : Word) : (s.jump a).focus = s.focus := rfl
@[simp] theorem State.jump_cur (s : State) (a : Word) : (s.jump a).cur = s.cur := rfl
@[simp] theorem State.jump_mem (s : State) (a : Word) : (s.jump a).mem = s.mem := rfl
@[simp] theorem State.jump_poison (s : State) (a : Word) : (s.jump a).poison = s.poison := rfl
@[simp] theorem State.jump_stations (s : State) (a : Word) : (s.jump a).stations = s.stations := rfl
@[simp] theorem State.jump_dies (s : State) (a : Word) : (s.jump a).dies = s.dies := rfl
@[simp] theorem State.jump_reqs (s : State) (a : Word) : (s.jump a).reqs = s.reqs := rfl
@[simp] theorem State.jump_results (s : State) (a : Word) : (s.jump a).results = s.results := rfl
@[simp] theorem State.jump_resv (s : State) (a : Word) : (s.jump a).resv = s.resv := rfl
@[simp] theorem State.jump_queueWaits (s : State) (a : Word) : (s.jump a).queueWaits = s.queueWaits := rfl
@[simp] theorem State.jump_proofs (s : State) (a : Word) : (s.jump a).proofs = s.proofs := rfl
@[simp] theorem State.jump_grids (s : State) (a : Word) : (s.jump a).grids = s.grids := rfl
@[simp] theorem State.jump_ctxs (s : State) (a : Word) : (s.jump a).ctxs = s.ctxs := rfl
@[simp] theorem State.jump_queues (s : State) (a : Word) : (s.jump a).queues = s.queues := rfl
@[simp] theorem State.jump_saved (s : State) (a : Word) : (s.jump a).saved = s.saved := rfl
@[simp] theorem State.jump_transit (s : State) (a : Word) : (s.jump a).transit = s.transit := rfl
@[simp] theorem State.jump_guest (s : State) (a : Word) : (s.jump a).guest = s.guest := rfl
@[simp] theorem State.jump_shards (s : State) (a : Word) : (s.jump a).shards = s.shards := rfl
@[simp] theorem State.jump_fw (s : State) (a : Word) : (s.jump a).fw = s.fw := rfl
@[simp] theorem State.jump_windows (s : State) (a : Word) : (s.jump a).windows = s.windows := rfl
@[simp] theorem State.jump_atomics (s : State) (a : Word) : (s.jump a).atomics = s.atomics := rfl
@[simp] theorem State.jump_pcie (s : State) (a : Word) : (s.jump a).pcie = s.pcie := rfl
@[simp] theorem State.jump_seenAway (s : State) (a : Word) : (s.jump a).seenAway = s.seenAway := rfl
@[simp] theorem State.jump_marked (s : State) (a : Word) : (s.jump a).marked = s.marked := rfl
@[simp] theorem State.jump_string (s : State) (a : Word) : (s.jump a).string = s.string := rfl
@[simp] theorem State.jump_eastDown (s : State) (a : Word) : (s.jump a).eastDown = s.eastDown := rfl
@[simp] theorem State.jump_westDown (s : State) (a : Word) : (s.jump a).westDown = s.westDown := rfl
@[simp] theorem State.jump_boot (s : State) (a : Word) : (s.jump a).boot = s.boot := rfl
@[simp] theorem State.jump_cfg (s : State) (a : Word) : (s.jump a).cfg = s.cfg := rfl
@[simp] theorem State.jump_walkers (s : State) (a : Word) : (s.jump a).walkers = s.walkers := rfl
@[simp] theorem State.jump_rescue (s : State) (a : Word) : (s.jump a).rescue = s.rescue := rfl
@[simp] theorem State.jump_clock (s : State) (a : Word) : (s.jump a).clock = s.clock := rfl
@[simp] theorem State.jump_nextId (s : State) (a : Word) : (s.jump a).nextId = s.nextId := rfl
@[simp] theorem State.jump_nextTag (s : State) (a : Word) : (s.jump a).nextTag = s.nextTag := rfl
@[simp] theorem State.jump_nextAge (s : State) (a : Word) : (s.jump a).nextAge = s.nextAge := rfl
@[simp] theorem State.jump_cfgSpace (s : State) (a : Word) : (s.jump a).cfgSpace = s.cfgSpace := rfl
@[simp] theorem State.jump_awayEnded (s : State) (a : Word) : (s.jump a).awayEnded = s.awayEnded := rfl
@[simp] theorem State.jump_bar4 (s : State) (a : Word) : (s.jump a).bar4 = s.bar4 := rfl
@[simp] theorem State.jump_sliceRows (s : State) (a : Word) : (s.jump a).sliceRows = s.sliceRows := rfl
@[simp] theorem State.jump_powerLimit (s : State) (a : Word) : (s.jump a).powerLimit = s.powerLimit := rfl
@[simp] theorem State.jump_powerOver (s : State) (a : Word) : (s.jump a).powerOver = s.powerOver := rfl

/-! ### hold -/

@[simp] theorem State.hold_agenda (s : State) (h : Hold) : (s.hold h).agenda = s.agenda := rfl
@[simp] theorem State.hold_focus (s : State) (h : Hold) : (s.hold h).focus = s.focus := rfl
@[simp] theorem State.hold_cur (s : State) (h : Hold) : (s.hold h).cur = s.cur := rfl
@[simp] theorem State.hold_mem (s : State) (h : Hold) : (s.hold h).mem = s.mem := rfl
@[simp] theorem State.hold_poison (s : State) (h : Hold) : (s.hold h).poison = s.poison := rfl
@[simp] theorem State.hold_stations (s : State) (h : Hold) : (s.hold h).stations = s.stations := rfl
@[simp] theorem State.hold_dies (s : State) (h : Hold) : (s.hold h).dies = s.dies := rfl
@[simp] theorem State.hold_reqs (s : State) (h : Hold) : (s.hold h).reqs = s.reqs := rfl
@[simp] theorem State.hold_results (s : State) (h : Hold) : (s.hold h).results = s.results := rfl
@[simp] theorem State.hold_resv (s : State) (h : Hold) : (s.hold h).resv = s.resv := rfl
@[simp] theorem State.hold_queueWaits (s : State) (h : Hold) : (s.hold h).queueWaits = s.queueWaits := rfl
@[simp] theorem State.hold_proofs (s : State) (h : Hold) : (s.hold h).proofs = s.proofs := rfl
@[simp] theorem State.hold_grids (s : State) (h : Hold) : (s.hold h).grids = s.grids := rfl
@[simp] theorem State.hold_ctxs (s : State) (h : Hold) : (s.hold h).ctxs = s.ctxs := rfl
@[simp] theorem State.hold_queues (s : State) (h : Hold) : (s.hold h).queues = s.queues := rfl
@[simp] theorem State.hold_saved (s : State) (h : Hold) : (s.hold h).saved = s.saved := rfl
@[simp] theorem State.hold_transit (s : State) (h : Hold) : (s.hold h).transit = s.transit := rfl
@[simp] theorem State.hold_guest (s : State) (h : Hold) : (s.hold h).guest = s.guest := rfl
@[simp] theorem State.hold_shards (s : State) (h : Hold) : (s.hold h).shards = s.shards := rfl
@[simp] theorem State.hold_fw (s : State) (h : Hold) : (s.hold h).fw = s.fw := rfl
@[simp] theorem State.hold_windows (s : State) (h : Hold) : (s.hold h).windows = s.windows := rfl
@[simp] theorem State.hold_atomics (s : State) (h : Hold) : (s.hold h).atomics = s.atomics := rfl
@[simp] theorem State.hold_pcie (s : State) (h : Hold) : (s.hold h).pcie = s.pcie := rfl
@[simp] theorem State.hold_seenAway (s : State) (h : Hold) : (s.hold h).seenAway = s.seenAway := rfl
@[simp] theorem State.hold_marked (s : State) (h : Hold) : (s.hold h).marked = s.marked := rfl
@[simp] theorem State.hold_string (s : State) (h : Hold) : (s.hold h).string = s.string := rfl
@[simp] theorem State.hold_eastDown (s : State) (h : Hold) : (s.hold h).eastDown = s.eastDown := rfl
@[simp] theorem State.hold_westDown (s : State) (h : Hold) : (s.hold h).westDown = s.westDown := rfl
@[simp] theorem State.hold_boot (s : State) (h : Hold) : (s.hold h).boot = s.boot := rfl
@[simp] theorem State.hold_cfg (s : State) (h : Hold) : (s.hold h).cfg = s.cfg := rfl
@[simp] theorem State.hold_walkers (s : State) (h : Hold) : (s.hold h).walkers = s.walkers := rfl
@[simp] theorem State.hold_rescue (s : State) (h : Hold) : (s.hold h).rescue = s.rescue := rfl
@[simp] theorem State.hold_clock (s : State) (h : Hold) : (s.hold h).clock = s.clock := rfl
@[simp] theorem State.hold_nextId (s : State) (h : Hold) : (s.hold h).nextId = s.nextId := rfl
@[simp] theorem State.hold_nextTag (s : State) (h : Hold) : (s.hold h).nextTag = s.nextTag := rfl
@[simp] theorem State.hold_nextAge (s : State) (h : Hold) : (s.hold h).nextAge = s.nextAge := rfl
@[simp] theorem State.hold_cfgSpace (s : State) (h : Hold) : (s.hold h).cfgSpace = s.cfgSpace := rfl
@[simp] theorem State.hold_awayEnded (s : State) (h : Hold) : (s.hold h).awayEnded = s.awayEnded := rfl
@[simp] theorem State.hold_bar4 (s : State) (h : Hold) : (s.hold h).bar4 = s.bar4 := rfl
@[simp] theorem State.hold_sliceRows (s : State) (h : Hold) : (s.hold h).sliceRows = s.sliceRows := rfl
@[simp] theorem State.hold_powerLimit (s : State) (h : Hold) : (s.hold h).powerLimit = s.powerLimit := rfl
@[simp] theorem State.hold_powerOver (s : State) (h : Hold) : (s.hold h).powerOver = s.powerOver := rfl

/-! ### setStation -/

@[simp] theorem State.setStation_agenda (s : State) (n : Nat) (x : Station) : (s.setStation n x).agenda = s.agenda := rfl
@[simp] theorem State.setStation_focus (s : State) (n : Nat) (x : Station) : (s.setStation n x).focus = s.focus := rfl
@[simp] theorem State.setStation_cur (s : State) (n : Nat) (x : Station) : (s.setStation n x).cur = s.cur := rfl
@[simp] theorem State.setStation_mem (s : State) (n : Nat) (x : Station) : (s.setStation n x).mem = s.mem := rfl
@[simp] theorem State.setStation_poison (s : State) (n : Nat) (x : Station) : (s.setStation n x).poison = s.poison := rfl
@[simp] theorem State.setStation_strands (s : State) (n : Nat) (x : Station) : (s.setStation n x).strands = s.strands := rfl
@[simp] theorem State.setStation_dies (s : State) (n : Nat) (x : Station) : (s.setStation n x).dies = s.dies := rfl
@[simp] theorem State.setStation_reqs (s : State) (n : Nat) (x : Station) : (s.setStation n x).reqs = s.reqs := rfl
@[simp] theorem State.setStation_results (s : State) (n : Nat) (x : Station) : (s.setStation n x).results = s.results := rfl
@[simp] theorem State.setStation_resv (s : State) (n : Nat) (x : Station) : (s.setStation n x).resv = s.resv := rfl
@[simp] theorem State.setStation_queueWaits (s : State) (n : Nat) (x : Station) : (s.setStation n x).queueWaits = s.queueWaits := rfl
@[simp] theorem State.setStation_proofs (s : State) (n : Nat) (x : Station) : (s.setStation n x).proofs = s.proofs := rfl
@[simp] theorem State.setStation_grids (s : State) (n : Nat) (x : Station) : (s.setStation n x).grids = s.grids := rfl
@[simp] theorem State.setStation_ctxs (s : State) (n : Nat) (x : Station) : (s.setStation n x).ctxs = s.ctxs := rfl
@[simp] theorem State.setStation_queues (s : State) (n : Nat) (x : Station) : (s.setStation n x).queues = s.queues := rfl
@[simp] theorem State.setStation_saved (s : State) (n : Nat) (x : Station) : (s.setStation n x).saved = s.saved := rfl
@[simp] theorem State.setStation_transit (s : State) (n : Nat) (x : Station) : (s.setStation n x).transit = s.transit := rfl
@[simp] theorem State.setStation_guest (s : State) (n : Nat) (x : Station) : (s.setStation n x).guest = s.guest := rfl
@[simp] theorem State.setStation_shards (s : State) (n : Nat) (x : Station) : (s.setStation n x).shards = s.shards := rfl
@[simp] theorem State.setStation_fw (s : State) (n : Nat) (x : Station) : (s.setStation n x).fw = s.fw := rfl
@[simp] theorem State.setStation_windows (s : State) (n : Nat) (x : Station) : (s.setStation n x).windows = s.windows := rfl
@[simp] theorem State.setStation_atomics (s : State) (n : Nat) (x : Station) : (s.setStation n x).atomics = s.atomics := rfl
@[simp] theorem State.setStation_pcie (s : State) (n : Nat) (x : Station) : (s.setStation n x).pcie = s.pcie := rfl
@[simp] theorem State.setStation_seenAway (s : State) (n : Nat) (x : Station) : (s.setStation n x).seenAway = s.seenAway := rfl
@[simp] theorem State.setStation_marked (s : State) (n : Nat) (x : Station) : (s.setStation n x).marked = s.marked := rfl
@[simp] theorem State.setStation_string (s : State) (n : Nat) (x : Station) : (s.setStation n x).string = s.string := rfl
@[simp] theorem State.setStation_eastDown (s : State) (n : Nat) (x : Station) : (s.setStation n x).eastDown = s.eastDown := rfl
@[simp] theorem State.setStation_westDown (s : State) (n : Nat) (x : Station) : (s.setStation n x).westDown = s.westDown := rfl
@[simp] theorem State.setStation_boot (s : State) (n : Nat) (x : Station) : (s.setStation n x).boot = s.boot := rfl
@[simp] theorem State.setStation_cfg (s : State) (n : Nat) (x : Station) : (s.setStation n x).cfg = s.cfg := rfl
@[simp] theorem State.setStation_walkers (s : State) (n : Nat) (x : Station) : (s.setStation n x).walkers = s.walkers := rfl
@[simp] theorem State.setStation_rescue (s : State) (n : Nat) (x : Station) : (s.setStation n x).rescue = s.rescue := rfl
@[simp] theorem State.setStation_clock (s : State) (n : Nat) (x : Station) : (s.setStation n x).clock = s.clock := rfl
@[simp] theorem State.setStation_nextId (s : State) (n : Nat) (x : Station) : (s.setStation n x).nextId = s.nextId := rfl
@[simp] theorem State.setStation_nextTag (s : State) (n : Nat) (x : Station) : (s.setStation n x).nextTag = s.nextTag := rfl
@[simp] theorem State.setStation_nextAge (s : State) (n : Nat) (x : Station) : (s.setStation n x).nextAge = s.nextAge := rfl
@[simp] theorem State.setStation_cfgSpace (s : State) (n : Nat) (x : Station) : (s.setStation n x).cfgSpace = s.cfgSpace := rfl
@[simp] theorem State.setStation_awayEnded (s : State) (n : Nat) (x : Station) : (s.setStation n x).awayEnded = s.awayEnded := rfl
@[simp] theorem State.setStation_bar4 (s : State) (n : Nat) (x : Station) : (s.setStation n x).bar4 = s.bar4 := rfl
@[simp] theorem State.setStation_sliceRows (s : State) (n : Nat) (x : Station) : (s.setStation n x).sliceRows = s.sliceRows := rfl
@[simp] theorem State.setStation_powerLimit (s : State) (n : Nat) (x : Station) : (s.setStation n x).powerLimit = s.powerLimit := rfl
@[simp] theorem State.setStation_powerOver (s : State) (n : Nat) (x : Station) : (s.setStation n x).powerOver = s.powerOver := rfl

/-! ### modStation -/

@[simp] theorem State.modStation_agenda (s : State) (n : Nat) (f : Station → Station) : (s.modStation n f).agenda = s.agenda := rfl
@[simp] theorem State.modStation_focus (s : State) (n : Nat) (f : Station → Station) : (s.modStation n f).focus = s.focus := rfl
@[simp] theorem State.modStation_cur (s : State) (n : Nat) (f : Station → Station) : (s.modStation n f).cur = s.cur := rfl
@[simp] theorem State.modStation_mem (s : State) (n : Nat) (f : Station → Station) : (s.modStation n f).mem = s.mem := rfl
@[simp] theorem State.modStation_poison (s : State) (n : Nat) (f : Station → Station) : (s.modStation n f).poison = s.poison := rfl
@[simp] theorem State.modStation_strands (s : State) (n : Nat) (f : Station → Station) : (s.modStation n f).strands = s.strands := rfl
@[simp] theorem State.modStation_dies (s : State) (n : Nat) (f : Station → Station) : (s.modStation n f).dies = s.dies := rfl
@[simp] theorem State.modStation_reqs (s : State) (n : Nat) (f : Station → Station) : (s.modStation n f).reqs = s.reqs := rfl
@[simp] theorem State.modStation_results (s : State) (n : Nat) (f : Station → Station) : (s.modStation n f).results = s.results := rfl
@[simp] theorem State.modStation_resv (s : State) (n : Nat) (f : Station → Station) : (s.modStation n f).resv = s.resv := rfl
@[simp] theorem State.modStation_queueWaits (s : State) (n : Nat) (f : Station → Station) : (s.modStation n f).queueWaits = s.queueWaits := rfl
@[simp] theorem State.modStation_proofs (s : State) (n : Nat) (f : Station → Station) : (s.modStation n f).proofs = s.proofs := rfl
@[simp] theorem State.modStation_grids (s : State) (n : Nat) (f : Station → Station) : (s.modStation n f).grids = s.grids := rfl
@[simp] theorem State.modStation_ctxs (s : State) (n : Nat) (f : Station → Station) : (s.modStation n f).ctxs = s.ctxs := rfl
@[simp] theorem State.modStation_queues (s : State) (n : Nat) (f : Station → Station) : (s.modStation n f).queues = s.queues := rfl
@[simp] theorem State.modStation_saved (s : State) (n : Nat) (f : Station → Station) : (s.modStation n f).saved = s.saved := rfl
@[simp] theorem State.modStation_transit (s : State) (n : Nat) (f : Station → Station) : (s.modStation n f).transit = s.transit := rfl
@[simp] theorem State.modStation_guest (s : State) (n : Nat) (f : Station → Station) : (s.modStation n f).guest = s.guest := rfl
@[simp] theorem State.modStation_shards (s : State) (n : Nat) (f : Station → Station) : (s.modStation n f).shards = s.shards := rfl
@[simp] theorem State.modStation_fw (s : State) (n : Nat) (f : Station → Station) : (s.modStation n f).fw = s.fw := rfl
@[simp] theorem State.modStation_windows (s : State) (n : Nat) (f : Station → Station) : (s.modStation n f).windows = s.windows := rfl
@[simp] theorem State.modStation_atomics (s : State) (n : Nat) (f : Station → Station) : (s.modStation n f).atomics = s.atomics := rfl
@[simp] theorem State.modStation_pcie (s : State) (n : Nat) (f : Station → Station) : (s.modStation n f).pcie = s.pcie := rfl
@[simp] theorem State.modStation_seenAway (s : State) (n : Nat) (f : Station → Station) : (s.modStation n f).seenAway = s.seenAway := rfl
@[simp] theorem State.modStation_marked (s : State) (n : Nat) (f : Station → Station) : (s.modStation n f).marked = s.marked := rfl
@[simp] theorem State.modStation_string (s : State) (n : Nat) (f : Station → Station) : (s.modStation n f).string = s.string := rfl
@[simp] theorem State.modStation_eastDown (s : State) (n : Nat) (f : Station → Station) : (s.modStation n f).eastDown = s.eastDown := rfl
@[simp] theorem State.modStation_westDown (s : State) (n : Nat) (f : Station → Station) : (s.modStation n f).westDown = s.westDown := rfl
@[simp] theorem State.modStation_boot (s : State) (n : Nat) (f : Station → Station) : (s.modStation n f).boot = s.boot := rfl
@[simp] theorem State.modStation_cfg (s : State) (n : Nat) (f : Station → Station) : (s.modStation n f).cfg = s.cfg := rfl
@[simp] theorem State.modStation_walkers (s : State) (n : Nat) (f : Station → Station) : (s.modStation n f).walkers = s.walkers := rfl
@[simp] theorem State.modStation_rescue (s : State) (n : Nat) (f : Station → Station) : (s.modStation n f).rescue = s.rescue := rfl
@[simp] theorem State.modStation_clock (s : State) (n : Nat) (f : Station → Station) : (s.modStation n f).clock = s.clock := rfl
@[simp] theorem State.modStation_nextId (s : State) (n : Nat) (f : Station → Station) : (s.modStation n f).nextId = s.nextId := rfl
@[simp] theorem State.modStation_nextTag (s : State) (n : Nat) (f : Station → Station) : (s.modStation n f).nextTag = s.nextTag := rfl
@[simp] theorem State.modStation_nextAge (s : State) (n : Nat) (f : Station → Station) : (s.modStation n f).nextAge = s.nextAge := rfl
@[simp] theorem State.modStation_cfgSpace (s : State) (n : Nat) (f : Station → Station) : (s.modStation n f).cfgSpace = s.cfgSpace := rfl
@[simp] theorem State.modStation_awayEnded (s : State) (n : Nat) (f : Station → Station) : (s.modStation n f).awayEnded = s.awayEnded := rfl
@[simp] theorem State.modStation_bar4 (s : State) (n : Nat) (f : Station → Station) : (s.modStation n f).bar4 = s.bar4 := rfl
@[simp] theorem State.modStation_sliceRows (s : State) (n : Nat) (f : Station → Station) : (s.modStation n f).sliceRows = s.sliceRows := rfl
@[simp] theorem State.modStation_powerLimit (s : State) (n : Nat) (f : Station → Station) : (s.modStation n f).powerLimit = s.powerLimit := rfl
@[simp] theorem State.modStation_powerOver (s : State) (n : Nat) (f : Station → Station) : (s.modStation n f).powerOver = s.powerOver := rfl

/-! ### modDie -/

@[simp] theorem State.modDie_agenda (s : State) (d : Nat) (f : Die → Die) : (s.modDie d f).agenda = s.agenda := rfl
@[simp] theorem State.modDie_focus (s : State) (d : Nat) (f : Die → Die) : (s.modDie d f).focus = s.focus := rfl
@[simp] theorem State.modDie_cur (s : State) (d : Nat) (f : Die → Die) : (s.modDie d f).cur = s.cur := rfl
@[simp] theorem State.modDie_mem (s : State) (d : Nat) (f : Die → Die) : (s.modDie d f).mem = s.mem := rfl
@[simp] theorem State.modDie_poison (s : State) (d : Nat) (f : Die → Die) : (s.modDie d f).poison = s.poison := rfl
@[simp] theorem State.modDie_strands (s : State) (d : Nat) (f : Die → Die) : (s.modDie d f).strands = s.strands := rfl
@[simp] theorem State.modDie_stations (s : State) (d : Nat) (f : Die → Die) : (s.modDie d f).stations = s.stations := rfl
@[simp] theorem State.modDie_reqs (s : State) (d : Nat) (f : Die → Die) : (s.modDie d f).reqs = s.reqs := rfl
@[simp] theorem State.modDie_results (s : State) (d : Nat) (f : Die → Die) : (s.modDie d f).results = s.results := rfl
@[simp] theorem State.modDie_resv (s : State) (d : Nat) (f : Die → Die) : (s.modDie d f).resv = s.resv := rfl
@[simp] theorem State.modDie_queueWaits (s : State) (d : Nat) (f : Die → Die) : (s.modDie d f).queueWaits = s.queueWaits := rfl
@[simp] theorem State.modDie_proofs (s : State) (d : Nat) (f : Die → Die) : (s.modDie d f).proofs = s.proofs := rfl
@[simp] theorem State.modDie_grids (s : State) (d : Nat) (f : Die → Die) : (s.modDie d f).grids = s.grids := rfl
@[simp] theorem State.modDie_ctxs (s : State) (d : Nat) (f : Die → Die) : (s.modDie d f).ctxs = s.ctxs := rfl
@[simp] theorem State.modDie_queues (s : State) (d : Nat) (f : Die → Die) : (s.modDie d f).queues = s.queues := rfl
@[simp] theorem State.modDie_saved (s : State) (d : Nat) (f : Die → Die) : (s.modDie d f).saved = s.saved := rfl
@[simp] theorem State.modDie_transit (s : State) (d : Nat) (f : Die → Die) : (s.modDie d f).transit = s.transit := rfl
@[simp] theorem State.modDie_guest (s : State) (d : Nat) (f : Die → Die) : (s.modDie d f).guest = s.guest := rfl
@[simp] theorem State.modDie_shards (s : State) (d : Nat) (f : Die → Die) : (s.modDie d f).shards = s.shards := rfl
@[simp] theorem State.modDie_fw (s : State) (d : Nat) (f : Die → Die) : (s.modDie d f).fw = s.fw := rfl
@[simp] theorem State.modDie_windows (s : State) (d : Nat) (f : Die → Die) : (s.modDie d f).windows = s.windows := rfl
@[simp] theorem State.modDie_atomics (s : State) (d : Nat) (f : Die → Die) : (s.modDie d f).atomics = s.atomics := rfl
@[simp] theorem State.modDie_pcie (s : State) (d : Nat) (f : Die → Die) : (s.modDie d f).pcie = s.pcie := rfl
@[simp] theorem State.modDie_seenAway (s : State) (d : Nat) (f : Die → Die) : (s.modDie d f).seenAway = s.seenAway := rfl
@[simp] theorem State.modDie_marked (s : State) (d : Nat) (f : Die → Die) : (s.modDie d f).marked = s.marked := rfl
@[simp] theorem State.modDie_string (s : State) (d : Nat) (f : Die → Die) : (s.modDie d f).string = s.string := rfl
@[simp] theorem State.modDie_eastDown (s : State) (d : Nat) (f : Die → Die) : (s.modDie d f).eastDown = s.eastDown := rfl
@[simp] theorem State.modDie_westDown (s : State) (d : Nat) (f : Die → Die) : (s.modDie d f).westDown = s.westDown := rfl
@[simp] theorem State.modDie_boot (s : State) (d : Nat) (f : Die → Die) : (s.modDie d f).boot = s.boot := rfl
@[simp] theorem State.modDie_cfg (s : State) (d : Nat) (f : Die → Die) : (s.modDie d f).cfg = s.cfg := rfl
@[simp] theorem State.modDie_walkers (s : State) (d : Nat) (f : Die → Die) : (s.modDie d f).walkers = s.walkers := rfl
@[simp] theorem State.modDie_rescue (s : State) (d : Nat) (f : Die → Die) : (s.modDie d f).rescue = s.rescue := rfl
@[simp] theorem State.modDie_clock (s : State) (d : Nat) (f : Die → Die) : (s.modDie d f).clock = s.clock := rfl
@[simp] theorem State.modDie_nextId (s : State) (d : Nat) (f : Die → Die) : (s.modDie d f).nextId = s.nextId := rfl
@[simp] theorem State.modDie_nextTag (s : State) (d : Nat) (f : Die → Die) : (s.modDie d f).nextTag = s.nextTag := rfl
@[simp] theorem State.modDie_nextAge (s : State) (d : Nat) (f : Die → Die) : (s.modDie d f).nextAge = s.nextAge := rfl
@[simp] theorem State.modDie_cfgSpace (s : State) (d : Nat) (f : Die → Die) : (s.modDie d f).cfgSpace = s.cfgSpace := rfl
@[simp] theorem State.modDie_awayEnded (s : State) (d : Nat) (f : Die → Die) : (s.modDie d f).awayEnded = s.awayEnded := rfl
@[simp] theorem State.modDie_bar4 (s : State) (d : Nat) (f : Die → Die) : (s.modDie d f).bar4 = s.bar4 := rfl
@[simp] theorem State.modDie_sliceRows (s : State) (d : Nat) (f : Die → Die) : (s.modDie d f).sliceRows = s.sliceRows := rfl
@[simp] theorem State.modDie_powerLimit (s : State) (d : Nat) (f : Die → Die) : (s.modDie d f).powerLimit = s.powerLimit := rfl
@[simp] theorem State.modDie_powerOver (s : State) (d : Nat) (f : Die → Die) : (s.modDie d f).powerOver = s.powerOver := rfl

/-! ### modGrid -/

@[simp] theorem State.modGrid_agenda (s : State) (g : Nat) (f : Grid → Grid) : (s.modGrid g f).agenda = s.agenda := rfl
@[simp] theorem State.modGrid_focus (s : State) (g : Nat) (f : Grid → Grid) : (s.modGrid g f).focus = s.focus := rfl
@[simp] theorem State.modGrid_cur (s : State) (g : Nat) (f : Grid → Grid) : (s.modGrid g f).cur = s.cur := rfl
@[simp] theorem State.modGrid_mem (s : State) (g : Nat) (f : Grid → Grid) : (s.modGrid g f).mem = s.mem := rfl
@[simp] theorem State.modGrid_poison (s : State) (g : Nat) (f : Grid → Grid) : (s.modGrid g f).poison = s.poison := rfl
@[simp] theorem State.modGrid_strands (s : State) (g : Nat) (f : Grid → Grid) : (s.modGrid g f).strands = s.strands := rfl
@[simp] theorem State.modGrid_stations (s : State) (g : Nat) (f : Grid → Grid) : (s.modGrid g f).stations = s.stations := rfl
@[simp] theorem State.modGrid_dies (s : State) (g : Nat) (f : Grid → Grid) : (s.modGrid g f).dies = s.dies := rfl
@[simp] theorem State.modGrid_reqs (s : State) (g : Nat) (f : Grid → Grid) : (s.modGrid g f).reqs = s.reqs := rfl
@[simp] theorem State.modGrid_results (s : State) (g : Nat) (f : Grid → Grid) : (s.modGrid g f).results = s.results := rfl
@[simp] theorem State.modGrid_resv (s : State) (g : Nat) (f : Grid → Grid) : (s.modGrid g f).resv = s.resv := rfl
@[simp] theorem State.modGrid_queueWaits (s : State) (g : Nat) (f : Grid → Grid) : (s.modGrid g f).queueWaits = s.queueWaits := rfl
@[simp] theorem State.modGrid_proofs (s : State) (g : Nat) (f : Grid → Grid) : (s.modGrid g f).proofs = s.proofs := rfl
@[simp] theorem State.modGrid_ctxs (s : State) (g : Nat) (f : Grid → Grid) : (s.modGrid g f).ctxs = s.ctxs := rfl
@[simp] theorem State.modGrid_queues (s : State) (g : Nat) (f : Grid → Grid) : (s.modGrid g f).queues = s.queues := rfl
@[simp] theorem State.modGrid_saved (s : State) (g : Nat) (f : Grid → Grid) : (s.modGrid g f).saved = s.saved := rfl
@[simp] theorem State.modGrid_transit (s : State) (g : Nat) (f : Grid → Grid) : (s.modGrid g f).transit = s.transit := rfl
@[simp] theorem State.modGrid_guest (s : State) (g : Nat) (f : Grid → Grid) : (s.modGrid g f).guest = s.guest := rfl
@[simp] theorem State.modGrid_shards (s : State) (g : Nat) (f : Grid → Grid) : (s.modGrid g f).shards = s.shards := rfl
@[simp] theorem State.modGrid_fw (s : State) (g : Nat) (f : Grid → Grid) : (s.modGrid g f).fw = s.fw := rfl
@[simp] theorem State.modGrid_windows (s : State) (g : Nat) (f : Grid → Grid) : (s.modGrid g f).windows = s.windows := rfl
@[simp] theorem State.modGrid_atomics (s : State) (g : Nat) (f : Grid → Grid) : (s.modGrid g f).atomics = s.atomics := rfl
@[simp] theorem State.modGrid_pcie (s : State) (g : Nat) (f : Grid → Grid) : (s.modGrid g f).pcie = s.pcie := rfl
@[simp] theorem State.modGrid_seenAway (s : State) (g : Nat) (f : Grid → Grid) : (s.modGrid g f).seenAway = s.seenAway := rfl
@[simp] theorem State.modGrid_marked (s : State) (g : Nat) (f : Grid → Grid) : (s.modGrid g f).marked = s.marked := rfl
@[simp] theorem State.modGrid_string (s : State) (g : Nat) (f : Grid → Grid) : (s.modGrid g f).string = s.string := rfl
@[simp] theorem State.modGrid_eastDown (s : State) (g : Nat) (f : Grid → Grid) : (s.modGrid g f).eastDown = s.eastDown := rfl
@[simp] theorem State.modGrid_westDown (s : State) (g : Nat) (f : Grid → Grid) : (s.modGrid g f).westDown = s.westDown := rfl
@[simp] theorem State.modGrid_boot (s : State) (g : Nat) (f : Grid → Grid) : (s.modGrid g f).boot = s.boot := rfl
@[simp] theorem State.modGrid_cfg (s : State) (g : Nat) (f : Grid → Grid) : (s.modGrid g f).cfg = s.cfg := rfl
@[simp] theorem State.modGrid_walkers (s : State) (g : Nat) (f : Grid → Grid) : (s.modGrid g f).walkers = s.walkers := rfl
@[simp] theorem State.modGrid_rescue (s : State) (g : Nat) (f : Grid → Grid) : (s.modGrid g f).rescue = s.rescue := rfl
@[simp] theorem State.modGrid_clock (s : State) (g : Nat) (f : Grid → Grid) : (s.modGrid g f).clock = s.clock := rfl
@[simp] theorem State.modGrid_nextId (s : State) (g : Nat) (f : Grid → Grid) : (s.modGrid g f).nextId = s.nextId := rfl
@[simp] theorem State.modGrid_nextTag (s : State) (g : Nat) (f : Grid → Grid) : (s.modGrid g f).nextTag = s.nextTag := rfl
@[simp] theorem State.modGrid_nextAge (s : State) (g : Nat) (f : Grid → Grid) : (s.modGrid g f).nextAge = s.nextAge := rfl
@[simp] theorem State.modGrid_cfgSpace (s : State) (g : Nat) (f : Grid → Grid) : (s.modGrid g f).cfgSpace = s.cfgSpace := rfl
@[simp] theorem State.modGrid_awayEnded (s : State) (g : Nat) (f : Grid → Grid) : (s.modGrid g f).awayEnded = s.awayEnded := rfl
@[simp] theorem State.modGrid_bar4 (s : State) (g : Nat) (f : Grid → Grid) : (s.modGrid g f).bar4 = s.bar4 := rfl
@[simp] theorem State.modGrid_sliceRows (s : State) (g : Nat) (f : Grid → Grid) : (s.modGrid g f).sliceRows = s.sliceRows := rfl
@[simp] theorem State.modGrid_powerLimit (s : State) (g : Nat) (f : Grid → Grid) : (s.modGrid g f).powerLimit = s.powerLimit := rfl
@[simp] theorem State.modGrid_powerOver (s : State) (g : Nat) (f : Grid → Grid) : (s.modGrid g f).powerOver = s.powerOver := rfl

/-! ### modCtx -/

@[simp] theorem State.modCtx_agenda (s : State) (c : Nat) (f : Context → Context) : (s.modCtx c f).agenda = s.agenda := rfl
@[simp] theorem State.modCtx_focus (s : State) (c : Nat) (f : Context → Context) : (s.modCtx c f).focus = s.focus := rfl
@[simp] theorem State.modCtx_cur (s : State) (c : Nat) (f : Context → Context) : (s.modCtx c f).cur = s.cur := rfl
@[simp] theorem State.modCtx_mem (s : State) (c : Nat) (f : Context → Context) : (s.modCtx c f).mem = s.mem := rfl
@[simp] theorem State.modCtx_poison (s : State) (c : Nat) (f : Context → Context) : (s.modCtx c f).poison = s.poison := rfl
@[simp] theorem State.modCtx_strands (s : State) (c : Nat) (f : Context → Context) : (s.modCtx c f).strands = s.strands := rfl
@[simp] theorem State.modCtx_stations (s : State) (c : Nat) (f : Context → Context) : (s.modCtx c f).stations = s.stations := rfl
@[simp] theorem State.modCtx_dies (s : State) (c : Nat) (f : Context → Context) : (s.modCtx c f).dies = s.dies := rfl
@[simp] theorem State.modCtx_reqs (s : State) (c : Nat) (f : Context → Context) : (s.modCtx c f).reqs = s.reqs := rfl
@[simp] theorem State.modCtx_results (s : State) (c : Nat) (f : Context → Context) : (s.modCtx c f).results = s.results := rfl
@[simp] theorem State.modCtx_resv (s : State) (c : Nat) (f : Context → Context) : (s.modCtx c f).resv = s.resv := rfl
@[simp] theorem State.modCtx_queueWaits (s : State) (c : Nat) (f : Context → Context) : (s.modCtx c f).queueWaits = s.queueWaits := rfl
@[simp] theorem State.modCtx_proofs (s : State) (c : Nat) (f : Context → Context) : (s.modCtx c f).proofs = s.proofs := rfl
@[simp] theorem State.modCtx_grids (s : State) (c : Nat) (f : Context → Context) : (s.modCtx c f).grids = s.grids := rfl
@[simp] theorem State.modCtx_queues (s : State) (c : Nat) (f : Context → Context) : (s.modCtx c f).queues = s.queues := rfl
@[simp] theorem State.modCtx_saved (s : State) (c : Nat) (f : Context → Context) : (s.modCtx c f).saved = s.saved := rfl
@[simp] theorem State.modCtx_transit (s : State) (c : Nat) (f : Context → Context) : (s.modCtx c f).transit = s.transit := rfl
@[simp] theorem State.modCtx_guest (s : State) (c : Nat) (f : Context → Context) : (s.modCtx c f).guest = s.guest := rfl
@[simp] theorem State.modCtx_shards (s : State) (c : Nat) (f : Context → Context) : (s.modCtx c f).shards = s.shards := rfl
@[simp] theorem State.modCtx_fw (s : State) (c : Nat) (f : Context → Context) : (s.modCtx c f).fw = s.fw := rfl
@[simp] theorem State.modCtx_windows (s : State) (c : Nat) (f : Context → Context) : (s.modCtx c f).windows = s.windows := rfl
@[simp] theorem State.modCtx_atomics (s : State) (c : Nat) (f : Context → Context) : (s.modCtx c f).atomics = s.atomics := rfl
@[simp] theorem State.modCtx_pcie (s : State) (c : Nat) (f : Context → Context) : (s.modCtx c f).pcie = s.pcie := rfl
@[simp] theorem State.modCtx_seenAway (s : State) (c : Nat) (f : Context → Context) : (s.modCtx c f).seenAway = s.seenAway := rfl
@[simp] theorem State.modCtx_marked (s : State) (c : Nat) (f : Context → Context) : (s.modCtx c f).marked = s.marked := rfl
@[simp] theorem State.modCtx_string (s : State) (c : Nat) (f : Context → Context) : (s.modCtx c f).string = s.string := rfl
@[simp] theorem State.modCtx_eastDown (s : State) (c : Nat) (f : Context → Context) : (s.modCtx c f).eastDown = s.eastDown := rfl
@[simp] theorem State.modCtx_westDown (s : State) (c : Nat) (f : Context → Context) : (s.modCtx c f).westDown = s.westDown := rfl
@[simp] theorem State.modCtx_boot (s : State) (c : Nat) (f : Context → Context) : (s.modCtx c f).boot = s.boot := rfl
@[simp] theorem State.modCtx_cfg (s : State) (c : Nat) (f : Context → Context) : (s.modCtx c f).cfg = s.cfg := rfl
@[simp] theorem State.modCtx_walkers (s : State) (c : Nat) (f : Context → Context) : (s.modCtx c f).walkers = s.walkers := rfl
@[simp] theorem State.modCtx_rescue (s : State) (c : Nat) (f : Context → Context) : (s.modCtx c f).rescue = s.rescue := rfl
@[simp] theorem State.modCtx_clock (s : State) (c : Nat) (f : Context → Context) : (s.modCtx c f).clock = s.clock := rfl
@[simp] theorem State.modCtx_nextId (s : State) (c : Nat) (f : Context → Context) : (s.modCtx c f).nextId = s.nextId := rfl
@[simp] theorem State.modCtx_nextTag (s : State) (c : Nat) (f : Context → Context) : (s.modCtx c f).nextTag = s.nextTag := rfl
@[simp] theorem State.modCtx_nextAge (s : State) (c : Nat) (f : Context → Context) : (s.modCtx c f).nextAge = s.nextAge := rfl
@[simp] theorem State.modCtx_cfgSpace (s : State) (c : Nat) (f : Context → Context) : (s.modCtx c f).cfgSpace = s.cfgSpace := rfl
@[simp] theorem State.modCtx_awayEnded (s : State) (c : Nat) (f : Context → Context) : (s.modCtx c f).awayEnded = s.awayEnded := rfl
@[simp] theorem State.modCtx_bar4 (s : State) (c : Nat) (f : Context → Context) : (s.modCtx c f).bar4 = s.bar4 := rfl
@[simp] theorem State.modCtx_sliceRows (s : State) (c : Nat) (f : Context → Context) : (s.modCtx c f).sliceRows = s.sliceRows := rfl
@[simp] theorem State.modCtx_powerLimit (s : State) (c : Nat) (f : Context → Context) : (s.modCtx c f).powerLimit = s.powerLimit := rfl
@[simp] theorem State.modCtx_powerOver (s : State) (c : Nat) (f : Context → Context) : (s.modCtx c f).powerOver = s.powerOver := rfl

/-! ### modReq -/

@[simp] theorem State.modReq_agenda (s : State) (n : Nat) (f : Req → Req) : (s.modReq n f).agenda = s.agenda := rfl
@[simp] theorem State.modReq_focus (s : State) (n : Nat) (f : Req → Req) : (s.modReq n f).focus = s.focus := rfl
@[simp] theorem State.modReq_cur (s : State) (n : Nat) (f : Req → Req) : (s.modReq n f).cur = s.cur := rfl
@[simp] theorem State.modReq_mem (s : State) (n : Nat) (f : Req → Req) : (s.modReq n f).mem = s.mem := rfl
@[simp] theorem State.modReq_poison (s : State) (n : Nat) (f : Req → Req) : (s.modReq n f).poison = s.poison := rfl
@[simp] theorem State.modReq_strands (s : State) (n : Nat) (f : Req → Req) : (s.modReq n f).strands = s.strands := rfl
@[simp] theorem State.modReq_stations (s : State) (n : Nat) (f : Req → Req) : (s.modReq n f).stations = s.stations := rfl
@[simp] theorem State.modReq_dies (s : State) (n : Nat) (f : Req → Req) : (s.modReq n f).dies = s.dies := rfl
@[simp] theorem State.modReq_results (s : State) (n : Nat) (f : Req → Req) : (s.modReq n f).results = s.results := rfl
@[simp] theorem State.modReq_resv (s : State) (n : Nat) (f : Req → Req) : (s.modReq n f).resv = s.resv := rfl
@[simp] theorem State.modReq_queueWaits (s : State) (n : Nat) (f : Req → Req) : (s.modReq n f).queueWaits = s.queueWaits := rfl
@[simp] theorem State.modReq_proofs (s : State) (n : Nat) (f : Req → Req) : (s.modReq n f).proofs = s.proofs := rfl
@[simp] theorem State.modReq_grids (s : State) (n : Nat) (f : Req → Req) : (s.modReq n f).grids = s.grids := rfl
@[simp] theorem State.modReq_ctxs (s : State) (n : Nat) (f : Req → Req) : (s.modReq n f).ctxs = s.ctxs := rfl
@[simp] theorem State.modReq_queues (s : State) (n : Nat) (f : Req → Req) : (s.modReq n f).queues = s.queues := rfl
@[simp] theorem State.modReq_saved (s : State) (n : Nat) (f : Req → Req) : (s.modReq n f).saved = s.saved := rfl
@[simp] theorem State.modReq_transit (s : State) (n : Nat) (f : Req → Req) : (s.modReq n f).transit = s.transit := rfl
@[simp] theorem State.modReq_guest (s : State) (n : Nat) (f : Req → Req) : (s.modReq n f).guest = s.guest := rfl
@[simp] theorem State.modReq_shards (s : State) (n : Nat) (f : Req → Req) : (s.modReq n f).shards = s.shards := rfl
@[simp] theorem State.modReq_fw (s : State) (n : Nat) (f : Req → Req) : (s.modReq n f).fw = s.fw := rfl
@[simp] theorem State.modReq_windows (s : State) (n : Nat) (f : Req → Req) : (s.modReq n f).windows = s.windows := rfl
@[simp] theorem State.modReq_atomics (s : State) (n : Nat) (f : Req → Req) : (s.modReq n f).atomics = s.atomics := rfl
@[simp] theorem State.modReq_pcie (s : State) (n : Nat) (f : Req → Req) : (s.modReq n f).pcie = s.pcie := rfl
@[simp] theorem State.modReq_seenAway (s : State) (n : Nat) (f : Req → Req) : (s.modReq n f).seenAway = s.seenAway := rfl
@[simp] theorem State.modReq_marked (s : State) (n : Nat) (f : Req → Req) : (s.modReq n f).marked = s.marked := rfl
@[simp] theorem State.modReq_string (s : State) (n : Nat) (f : Req → Req) : (s.modReq n f).string = s.string := rfl
@[simp] theorem State.modReq_eastDown (s : State) (n : Nat) (f : Req → Req) : (s.modReq n f).eastDown = s.eastDown := rfl
@[simp] theorem State.modReq_westDown (s : State) (n : Nat) (f : Req → Req) : (s.modReq n f).westDown = s.westDown := rfl
@[simp] theorem State.modReq_boot (s : State) (n : Nat) (f : Req → Req) : (s.modReq n f).boot = s.boot := rfl
@[simp] theorem State.modReq_cfg (s : State) (n : Nat) (f : Req → Req) : (s.modReq n f).cfg = s.cfg := rfl
@[simp] theorem State.modReq_walkers (s : State) (n : Nat) (f : Req → Req) : (s.modReq n f).walkers = s.walkers := rfl
@[simp] theorem State.modReq_rescue (s : State) (n : Nat) (f : Req → Req) : (s.modReq n f).rescue = s.rescue := rfl
@[simp] theorem State.modReq_clock (s : State) (n : Nat) (f : Req → Req) : (s.modReq n f).clock = s.clock := rfl
@[simp] theorem State.modReq_nextId (s : State) (n : Nat) (f : Req → Req) : (s.modReq n f).nextId = s.nextId := rfl
@[simp] theorem State.modReq_nextTag (s : State) (n : Nat) (f : Req → Req) : (s.modReq n f).nextTag = s.nextTag := rfl
@[simp] theorem State.modReq_nextAge (s : State) (n : Nat) (f : Req → Req) : (s.modReq n f).nextAge = s.nextAge := rfl
@[simp] theorem State.modReq_cfgSpace (s : State) (n : Nat) (f : Req → Req) : (s.modReq n f).cfgSpace = s.cfgSpace := rfl
@[simp] theorem State.modReq_awayEnded (s : State) (n : Nat) (f : Req → Req) : (s.modReq n f).awayEnded = s.awayEnded := rfl
@[simp] theorem State.modReq_bar4 (s : State) (n : Nat) (f : Req → Req) : (s.modReq n f).bar4 = s.bar4 := rfl
@[simp] theorem State.modReq_sliceRows (s : State) (n : Nat) (f : Req → Req) : (s.modReq n f).sliceRows = s.sliceRows := rfl
@[simp] theorem State.modReq_powerLimit (s : State) (n : Nat) (f : Req → Req) : (s.modReq n f).powerLimit = s.powerLimit := rfl
@[simp] theorem State.modReq_powerOver (s : State) (n : Nat) (f : Req → Req) : (s.modReq n f).powerOver = s.powerOver := rfl

/-! ### delReq -/

@[simp] theorem State.delReq_agenda (s : State) (n : Nat) : (s.delReq n).agenda = s.agenda := rfl
@[simp] theorem State.delReq_focus (s : State) (n : Nat) : (s.delReq n).focus = s.focus := rfl
@[simp] theorem State.delReq_cur (s : State) (n : Nat) : (s.delReq n).cur = s.cur := rfl
@[simp] theorem State.delReq_mem (s : State) (n : Nat) : (s.delReq n).mem = s.mem := rfl
@[simp] theorem State.delReq_poison (s : State) (n : Nat) : (s.delReq n).poison = s.poison := rfl
@[simp] theorem State.delReq_strands (s : State) (n : Nat) : (s.delReq n).strands = s.strands := rfl
@[simp] theorem State.delReq_stations (s : State) (n : Nat) : (s.delReq n).stations = s.stations := rfl
@[simp] theorem State.delReq_dies (s : State) (n : Nat) : (s.delReq n).dies = s.dies := rfl
@[simp] theorem State.delReq_results (s : State) (n : Nat) : (s.delReq n).results = s.results := rfl
@[simp] theorem State.delReq_resv (s : State) (n : Nat) : (s.delReq n).resv = s.resv := rfl
@[simp] theorem State.delReq_queueWaits (s : State) (n : Nat) : (s.delReq n).queueWaits = s.queueWaits := rfl
@[simp] theorem State.delReq_proofs (s : State) (n : Nat) : (s.delReq n).proofs = s.proofs := rfl
@[simp] theorem State.delReq_grids (s : State) (n : Nat) : (s.delReq n).grids = s.grids := rfl
@[simp] theorem State.delReq_ctxs (s : State) (n : Nat) : (s.delReq n).ctxs = s.ctxs := rfl
@[simp] theorem State.delReq_queues (s : State) (n : Nat) : (s.delReq n).queues = s.queues := rfl
@[simp] theorem State.delReq_saved (s : State) (n : Nat) : (s.delReq n).saved = s.saved := rfl
@[simp] theorem State.delReq_transit (s : State) (n : Nat) : (s.delReq n).transit = s.transit := rfl
@[simp] theorem State.delReq_guest (s : State) (n : Nat) : (s.delReq n).guest = s.guest := rfl
@[simp] theorem State.delReq_shards (s : State) (n : Nat) : (s.delReq n).shards = s.shards := rfl
@[simp] theorem State.delReq_fw (s : State) (n : Nat) : (s.delReq n).fw = s.fw := rfl
@[simp] theorem State.delReq_windows (s : State) (n : Nat) : (s.delReq n).windows = s.windows := rfl
@[simp] theorem State.delReq_atomics (s : State) (n : Nat) : (s.delReq n).atomics = s.atomics := rfl
@[simp] theorem State.delReq_pcie (s : State) (n : Nat) : (s.delReq n).pcie = s.pcie := rfl
@[simp] theorem State.delReq_seenAway (s : State) (n : Nat) : (s.delReq n).seenAway = s.seenAway := rfl
@[simp] theorem State.delReq_marked (s : State) (n : Nat) : (s.delReq n).marked = s.marked := rfl
@[simp] theorem State.delReq_string (s : State) (n : Nat) : (s.delReq n).string = s.string := rfl
@[simp] theorem State.delReq_eastDown (s : State) (n : Nat) : (s.delReq n).eastDown = s.eastDown := rfl
@[simp] theorem State.delReq_westDown (s : State) (n : Nat) : (s.delReq n).westDown = s.westDown := rfl
@[simp] theorem State.delReq_boot (s : State) (n : Nat) : (s.delReq n).boot = s.boot := rfl
@[simp] theorem State.delReq_cfg (s : State) (n : Nat) : (s.delReq n).cfg = s.cfg := rfl
@[simp] theorem State.delReq_walkers (s : State) (n : Nat) : (s.delReq n).walkers = s.walkers := rfl
@[simp] theorem State.delReq_rescue (s : State) (n : Nat) : (s.delReq n).rescue = s.rescue := rfl
@[simp] theorem State.delReq_clock (s : State) (n : Nat) : (s.delReq n).clock = s.clock := rfl
@[simp] theorem State.delReq_nextId (s : State) (n : Nat) : (s.delReq n).nextId = s.nextId := rfl
@[simp] theorem State.delReq_nextTag (s : State) (n : Nat) : (s.delReq n).nextTag = s.nextTag := rfl
@[simp] theorem State.delReq_nextAge (s : State) (n : Nat) : (s.delReq n).nextAge = s.nextAge := rfl
@[simp] theorem State.delReq_cfgSpace (s : State) (n : Nat) : (s.delReq n).cfgSpace = s.cfgSpace := rfl
@[simp] theorem State.delReq_awayEnded (s : State) (n : Nat) : (s.delReq n).awayEnded = s.awayEnded := rfl
@[simp] theorem State.delReq_bar4 (s : State) (n : Nat) : (s.delReq n).bar4 = s.bar4 := rfl
@[simp] theorem State.delReq_sliceRows (s : State) (n : Nat) : (s.delReq n).sliceRows = s.sliceRows := rfl
@[simp] theorem State.delReq_powerLimit (s : State) (n : Nat) : (s.delReq n).powerLimit = s.powerLimit := rfl
@[simp] theorem State.delReq_powerOver (s : State) (n : Nat) : (s.delReq n).powerOver = s.powerOver := rfl

/-! ### addReq -/

@[simp] theorem State.addReq_agenda (s : State) (r : Req) : (s.addReq r).agenda = s.agenda := rfl
@[simp] theorem State.addReq_focus (s : State) (r : Req) : (s.addReq r).focus = s.focus := rfl
@[simp] theorem State.addReq_cur (s : State) (r : Req) : (s.addReq r).cur = s.cur := rfl
@[simp] theorem State.addReq_mem (s : State) (r : Req) : (s.addReq r).mem = s.mem := rfl
@[simp] theorem State.addReq_poison (s : State) (r : Req) : (s.addReq r).poison = s.poison := rfl
@[simp] theorem State.addReq_strands (s : State) (r : Req) : (s.addReq r).strands = s.strands := rfl
@[simp] theorem State.addReq_stations (s : State) (r : Req) : (s.addReq r).stations = s.stations := rfl
@[simp] theorem State.addReq_dies (s : State) (r : Req) : (s.addReq r).dies = s.dies := rfl
@[simp] theorem State.addReq_results (s : State) (r : Req) : (s.addReq r).results = s.results := rfl
@[simp] theorem State.addReq_resv (s : State) (r : Req) : (s.addReq r).resv = s.resv := rfl
@[simp] theorem State.addReq_queueWaits (s : State) (r : Req) : (s.addReq r).queueWaits = s.queueWaits := rfl
@[simp] theorem State.addReq_proofs (s : State) (r : Req) : (s.addReq r).proofs = s.proofs := rfl
@[simp] theorem State.addReq_grids (s : State) (r : Req) : (s.addReq r).grids = s.grids := rfl
@[simp] theorem State.addReq_ctxs (s : State) (r : Req) : (s.addReq r).ctxs = s.ctxs := rfl
@[simp] theorem State.addReq_queues (s : State) (r : Req) : (s.addReq r).queues = s.queues := rfl
@[simp] theorem State.addReq_saved (s : State) (r : Req) : (s.addReq r).saved = s.saved := rfl
@[simp] theorem State.addReq_transit (s : State) (r : Req) : (s.addReq r).transit = s.transit := rfl
@[simp] theorem State.addReq_guest (s : State) (r : Req) : (s.addReq r).guest = s.guest := rfl
@[simp] theorem State.addReq_shards (s : State) (r : Req) : (s.addReq r).shards = s.shards := rfl
@[simp] theorem State.addReq_fw (s : State) (r : Req) : (s.addReq r).fw = s.fw := rfl
@[simp] theorem State.addReq_windows (s : State) (r : Req) : (s.addReq r).windows = s.windows := rfl
@[simp] theorem State.addReq_atomics (s : State) (r : Req) : (s.addReq r).atomics = s.atomics := rfl
@[simp] theorem State.addReq_pcie (s : State) (r : Req) : (s.addReq r).pcie = s.pcie := rfl
@[simp] theorem State.addReq_seenAway (s : State) (r : Req) : (s.addReq r).seenAway = s.seenAway := rfl
@[simp] theorem State.addReq_marked (s : State) (r : Req) : (s.addReq r).marked = s.marked := rfl
@[simp] theorem State.addReq_string (s : State) (r : Req) : (s.addReq r).string = s.string := rfl
@[simp] theorem State.addReq_eastDown (s : State) (r : Req) : (s.addReq r).eastDown = s.eastDown := rfl
@[simp] theorem State.addReq_westDown (s : State) (r : Req) : (s.addReq r).westDown = s.westDown := rfl
@[simp] theorem State.addReq_boot (s : State) (r : Req) : (s.addReq r).boot = s.boot := rfl
@[simp] theorem State.addReq_cfg (s : State) (r : Req) : (s.addReq r).cfg = s.cfg := rfl
@[simp] theorem State.addReq_walkers (s : State) (r : Req) : (s.addReq r).walkers = s.walkers := rfl
@[simp] theorem State.addReq_rescue (s : State) (r : Req) : (s.addReq r).rescue = s.rescue := rfl
@[simp] theorem State.addReq_clock (s : State) (r : Req) : (s.addReq r).clock = s.clock := rfl
@[simp] theorem State.addReq_nextTag (s : State) (r : Req) : (s.addReq r).nextTag = s.nextTag := rfl
@[simp] theorem State.addReq_nextAge (s : State) (r : Req) : (s.addReq r).nextAge = s.nextAge := rfl
@[simp] theorem State.addReq_cfgSpace (s : State) (r : Req) : (s.addReq r).cfgSpace = s.cfgSpace := rfl
@[simp] theorem State.addReq_awayEnded (s : State) (r : Req) : (s.addReq r).awayEnded = s.awayEnded := rfl
@[simp] theorem State.addReq_bar4 (s : State) (r : Req) : (s.addReq r).bar4 = s.bar4 := rfl
@[simp] theorem State.addReq_sliceRows (s : State) (r : Req) : (s.addReq r).sliceRows = s.sliceRows := rfl
@[simp] theorem State.addReq_powerLimit (s : State) (r : Req) : (s.addReq r).powerLimit = s.powerLimit := rfl
@[simp] theorem State.addReq_powerOver (s : State) (r : Req) : (s.addReq r).powerOver = s.powerOver := rfl

/-! ### modResult -/

@[simp] theorem State.modResult_agenda (s : State) (n : Nat) (f : PRes → PRes) : (s.modResult n f).agenda = s.agenda := rfl
@[simp] theorem State.modResult_focus (s : State) (n : Nat) (f : PRes → PRes) : (s.modResult n f).focus = s.focus := rfl
@[simp] theorem State.modResult_cur (s : State) (n : Nat) (f : PRes → PRes) : (s.modResult n f).cur = s.cur := rfl
@[simp] theorem State.modResult_mem (s : State) (n : Nat) (f : PRes → PRes) : (s.modResult n f).mem = s.mem := rfl
@[simp] theorem State.modResult_poison (s : State) (n : Nat) (f : PRes → PRes) : (s.modResult n f).poison = s.poison := rfl
@[simp] theorem State.modResult_strands (s : State) (n : Nat) (f : PRes → PRes) : (s.modResult n f).strands = s.strands := rfl
@[simp] theorem State.modResult_stations (s : State) (n : Nat) (f : PRes → PRes) : (s.modResult n f).stations = s.stations := rfl
@[simp] theorem State.modResult_dies (s : State) (n : Nat) (f : PRes → PRes) : (s.modResult n f).dies = s.dies := rfl
@[simp] theorem State.modResult_reqs (s : State) (n : Nat) (f : PRes → PRes) : (s.modResult n f).reqs = s.reqs := rfl
@[simp] theorem State.modResult_resv (s : State) (n : Nat) (f : PRes → PRes) : (s.modResult n f).resv = s.resv := rfl
@[simp] theorem State.modResult_queueWaits (s : State) (n : Nat) (f : PRes → PRes) : (s.modResult n f).queueWaits = s.queueWaits := rfl
@[simp] theorem State.modResult_proofs (s : State) (n : Nat) (f : PRes → PRes) : (s.modResult n f).proofs = s.proofs := rfl
@[simp] theorem State.modResult_grids (s : State) (n : Nat) (f : PRes → PRes) : (s.modResult n f).grids = s.grids := rfl
@[simp] theorem State.modResult_ctxs (s : State) (n : Nat) (f : PRes → PRes) : (s.modResult n f).ctxs = s.ctxs := rfl
@[simp] theorem State.modResult_queues (s : State) (n : Nat) (f : PRes → PRes) : (s.modResult n f).queues = s.queues := rfl
@[simp] theorem State.modResult_saved (s : State) (n : Nat) (f : PRes → PRes) : (s.modResult n f).saved = s.saved := rfl
@[simp] theorem State.modResult_transit (s : State) (n : Nat) (f : PRes → PRes) : (s.modResult n f).transit = s.transit := rfl
@[simp] theorem State.modResult_guest (s : State) (n : Nat) (f : PRes → PRes) : (s.modResult n f).guest = s.guest := rfl
@[simp] theorem State.modResult_shards (s : State) (n : Nat) (f : PRes → PRes) : (s.modResult n f).shards = s.shards := rfl
@[simp] theorem State.modResult_fw (s : State) (n : Nat) (f : PRes → PRes) : (s.modResult n f).fw = s.fw := rfl
@[simp] theorem State.modResult_windows (s : State) (n : Nat) (f : PRes → PRes) : (s.modResult n f).windows = s.windows := rfl
@[simp] theorem State.modResult_atomics (s : State) (n : Nat) (f : PRes → PRes) : (s.modResult n f).atomics = s.atomics := rfl
@[simp] theorem State.modResult_pcie (s : State) (n : Nat) (f : PRes → PRes) : (s.modResult n f).pcie = s.pcie := rfl
@[simp] theorem State.modResult_seenAway (s : State) (n : Nat) (f : PRes → PRes) : (s.modResult n f).seenAway = s.seenAway := rfl
@[simp] theorem State.modResult_marked (s : State) (n : Nat) (f : PRes → PRes) : (s.modResult n f).marked = s.marked := rfl
@[simp] theorem State.modResult_string (s : State) (n : Nat) (f : PRes → PRes) : (s.modResult n f).string = s.string := rfl
@[simp] theorem State.modResult_eastDown (s : State) (n : Nat) (f : PRes → PRes) : (s.modResult n f).eastDown = s.eastDown := rfl
@[simp] theorem State.modResult_westDown (s : State) (n : Nat) (f : PRes → PRes) : (s.modResult n f).westDown = s.westDown := rfl
@[simp] theorem State.modResult_boot (s : State) (n : Nat) (f : PRes → PRes) : (s.modResult n f).boot = s.boot := rfl
@[simp] theorem State.modResult_cfg (s : State) (n : Nat) (f : PRes → PRes) : (s.modResult n f).cfg = s.cfg := rfl
@[simp] theorem State.modResult_walkers (s : State) (n : Nat) (f : PRes → PRes) : (s.modResult n f).walkers = s.walkers := rfl
@[simp] theorem State.modResult_rescue (s : State) (n : Nat) (f : PRes → PRes) : (s.modResult n f).rescue = s.rescue := rfl
@[simp] theorem State.modResult_clock (s : State) (n : Nat) (f : PRes → PRes) : (s.modResult n f).clock = s.clock := rfl
@[simp] theorem State.modResult_nextId (s : State) (n : Nat) (f : PRes → PRes) : (s.modResult n f).nextId = s.nextId := rfl
@[simp] theorem State.modResult_nextTag (s : State) (n : Nat) (f : PRes → PRes) : (s.modResult n f).nextTag = s.nextTag := rfl
@[simp] theorem State.modResult_nextAge (s : State) (n : Nat) (f : PRes → PRes) : (s.modResult n f).nextAge = s.nextAge := rfl
@[simp] theorem State.modResult_cfgSpace (s : State) (n : Nat) (f : PRes → PRes) : (s.modResult n f).cfgSpace = s.cfgSpace := rfl
@[simp] theorem State.modResult_awayEnded (s : State) (n : Nat) (f : PRes → PRes) : (s.modResult n f).awayEnded = s.awayEnded := rfl
@[simp] theorem State.modResult_bar4 (s : State) (n : Nat) (f : PRes → PRes) : (s.modResult n f).bar4 = s.bar4 := rfl
@[simp] theorem State.modResult_sliceRows (s : State) (n : Nat) (f : PRes → PRes) : (s.modResult n f).sliceRows = s.sliceRows := rfl
@[simp] theorem State.modResult_powerLimit (s : State) (n : Nat) (f : PRes → PRes) : (s.modResult n f).powerLimit = s.powerLimit := rfl
@[simp] theorem State.modResult_powerOver (s : State) (n : Nat) (f : PRes → PRes) : (s.modResult n f).powerOver = s.powerOver := rfl

/-! ### deliver -/

@[simp] theorem State.deliver_agenda (s : State) (n : Nat) (v : VWord) : (s.deliver n v).agenda = s.agenda := rfl
@[simp] theorem State.deliver_focus (s : State) (n : Nat) (v : VWord) : (s.deliver n v).focus = s.focus := rfl
@[simp] theorem State.deliver_cur (s : State) (n : Nat) (v : VWord) : (s.deliver n v).cur = s.cur := rfl
@[simp] theorem State.deliver_mem (s : State) (n : Nat) (v : VWord) : (s.deliver n v).mem = s.mem := rfl
@[simp] theorem State.deliver_poison (s : State) (n : Nat) (v : VWord) : (s.deliver n v).poison = s.poison := rfl
@[simp] theorem State.deliver_strands (s : State) (n : Nat) (v : VWord) : (s.deliver n v).strands = s.strands := rfl
@[simp] theorem State.deliver_stations (s : State) (n : Nat) (v : VWord) : (s.deliver n v).stations = s.stations := rfl
@[simp] theorem State.deliver_dies (s : State) (n : Nat) (v : VWord) : (s.deliver n v).dies = s.dies := rfl
@[simp] theorem State.deliver_reqs (s : State) (n : Nat) (v : VWord) : (s.deliver n v).reqs = s.reqs := rfl
@[simp] theorem State.deliver_resv (s : State) (n : Nat) (v : VWord) : (s.deliver n v).resv = s.resv := rfl
@[simp] theorem State.deliver_queueWaits (s : State) (n : Nat) (v : VWord) : (s.deliver n v).queueWaits = s.queueWaits := rfl
@[simp] theorem State.deliver_proofs (s : State) (n : Nat) (v : VWord) : (s.deliver n v).proofs = s.proofs := rfl
@[simp] theorem State.deliver_grids (s : State) (n : Nat) (v : VWord) : (s.deliver n v).grids = s.grids := rfl
@[simp] theorem State.deliver_ctxs (s : State) (n : Nat) (v : VWord) : (s.deliver n v).ctxs = s.ctxs := rfl
@[simp] theorem State.deliver_queues (s : State) (n : Nat) (v : VWord) : (s.deliver n v).queues = s.queues := rfl
@[simp] theorem State.deliver_saved (s : State) (n : Nat) (v : VWord) : (s.deliver n v).saved = s.saved := rfl
@[simp] theorem State.deliver_transit (s : State) (n : Nat) (v : VWord) : (s.deliver n v).transit = s.transit := rfl
@[simp] theorem State.deliver_guest (s : State) (n : Nat) (v : VWord) : (s.deliver n v).guest = s.guest := rfl
@[simp] theorem State.deliver_shards (s : State) (n : Nat) (v : VWord) : (s.deliver n v).shards = s.shards := rfl
@[simp] theorem State.deliver_fw (s : State) (n : Nat) (v : VWord) : (s.deliver n v).fw = s.fw := rfl
@[simp] theorem State.deliver_windows (s : State) (n : Nat) (v : VWord) : (s.deliver n v).windows = s.windows := rfl
@[simp] theorem State.deliver_atomics (s : State) (n : Nat) (v : VWord) : (s.deliver n v).atomics = s.atomics := rfl
@[simp] theorem State.deliver_pcie (s : State) (n : Nat) (v : VWord) : (s.deliver n v).pcie = s.pcie := rfl
@[simp] theorem State.deliver_seenAway (s : State) (n : Nat) (v : VWord) : (s.deliver n v).seenAway = s.seenAway := rfl
@[simp] theorem State.deliver_marked (s : State) (n : Nat) (v : VWord) : (s.deliver n v).marked = s.marked := rfl
@[simp] theorem State.deliver_string (s : State) (n : Nat) (v : VWord) : (s.deliver n v).string = s.string := rfl
@[simp] theorem State.deliver_eastDown (s : State) (n : Nat) (v : VWord) : (s.deliver n v).eastDown = s.eastDown := rfl
@[simp] theorem State.deliver_westDown (s : State) (n : Nat) (v : VWord) : (s.deliver n v).westDown = s.westDown := rfl
@[simp] theorem State.deliver_boot (s : State) (n : Nat) (v : VWord) : (s.deliver n v).boot = s.boot := rfl
@[simp] theorem State.deliver_cfg (s : State) (n : Nat) (v : VWord) : (s.deliver n v).cfg = s.cfg := rfl
@[simp] theorem State.deliver_walkers (s : State) (n : Nat) (v : VWord) : (s.deliver n v).walkers = s.walkers := rfl
@[simp] theorem State.deliver_rescue (s : State) (n : Nat) (v : VWord) : (s.deliver n v).rescue = s.rescue := rfl
@[simp] theorem State.deliver_clock (s : State) (n : Nat) (v : VWord) : (s.deliver n v).clock = s.clock := rfl
@[simp] theorem State.deliver_nextId (s : State) (n : Nat) (v : VWord) : (s.deliver n v).nextId = s.nextId := rfl
@[simp] theorem State.deliver_nextTag (s : State) (n : Nat) (v : VWord) : (s.deliver n v).nextTag = s.nextTag := rfl
@[simp] theorem State.deliver_nextAge (s : State) (n : Nat) (v : VWord) : (s.deliver n v).nextAge = s.nextAge := rfl
@[simp] theorem State.deliver_cfgSpace (s : State) (n : Nat) (v : VWord) : (s.deliver n v).cfgSpace = s.cfgSpace := rfl
@[simp] theorem State.deliver_awayEnded (s : State) (n : Nat) (v : VWord) : (s.deliver n v).awayEnded = s.awayEnded := rfl
@[simp] theorem State.deliver_bar4 (s : State) (n : Nat) (v : VWord) : (s.deliver n v).bar4 = s.bar4 := rfl
@[simp] theorem State.deliver_sliceRows (s : State) (n : Nat) (v : VWord) : (s.deliver n v).sliceRows = s.sliceRows := rfl
@[simp] theorem State.deliver_powerLimit (s : State) (n : Nat) (v : VWord) : (s.deliver n v).powerLimit = s.powerLimit := rfl
@[simp] theorem State.deliver_powerOver (s : State) (n : Nat) (v : VWord) : (s.deliver n v).powerOver = s.powerOver := rfl

/-! ### setPoison -/

@[simp] theorem State.setPoison_agenda (s : State) (a k : Nat) : (s.setPoison a k).agenda = s.agenda := rfl
@[simp] theorem State.setPoison_focus (s : State) (a k : Nat) : (s.setPoison a k).focus = s.focus := rfl
@[simp] theorem State.setPoison_cur (s : State) (a k : Nat) : (s.setPoison a k).cur = s.cur := rfl
@[simp] theorem State.setPoison_mem (s : State) (a k : Nat) : (s.setPoison a k).mem = s.mem := rfl
@[simp] theorem State.setPoison_strands (s : State) (a k : Nat) : (s.setPoison a k).strands = s.strands := rfl
@[simp] theorem State.setPoison_stations (s : State) (a k : Nat) : (s.setPoison a k).stations = s.stations := rfl
@[simp] theorem State.setPoison_dies (s : State) (a k : Nat) : (s.setPoison a k).dies = s.dies := rfl
@[simp] theorem State.setPoison_reqs (s : State) (a k : Nat) : (s.setPoison a k).reqs = s.reqs := rfl
@[simp] theorem State.setPoison_results (s : State) (a k : Nat) : (s.setPoison a k).results = s.results := rfl
@[simp] theorem State.setPoison_resv (s : State) (a k : Nat) : (s.setPoison a k).resv = s.resv := rfl
@[simp] theorem State.setPoison_queueWaits (s : State) (a k : Nat) : (s.setPoison a k).queueWaits = s.queueWaits := rfl
@[simp] theorem State.setPoison_proofs (s : State) (a k : Nat) : (s.setPoison a k).proofs = s.proofs := rfl
@[simp] theorem State.setPoison_grids (s : State) (a k : Nat) : (s.setPoison a k).grids = s.grids := rfl
@[simp] theorem State.setPoison_ctxs (s : State) (a k : Nat) : (s.setPoison a k).ctxs = s.ctxs := rfl
@[simp] theorem State.setPoison_queues (s : State) (a k : Nat) : (s.setPoison a k).queues = s.queues := rfl
@[simp] theorem State.setPoison_saved (s : State) (a k : Nat) : (s.setPoison a k).saved = s.saved := rfl
@[simp] theorem State.setPoison_transit (s : State) (a k : Nat) : (s.setPoison a k).transit = s.transit := rfl
@[simp] theorem State.setPoison_guest (s : State) (a k : Nat) : (s.setPoison a k).guest = s.guest := rfl
@[simp] theorem State.setPoison_shards (s : State) (a k : Nat) : (s.setPoison a k).shards = s.shards := rfl
@[simp] theorem State.setPoison_fw (s : State) (a k : Nat) : (s.setPoison a k).fw = s.fw := rfl
@[simp] theorem State.setPoison_windows (s : State) (a k : Nat) : (s.setPoison a k).windows = s.windows := rfl
@[simp] theorem State.setPoison_atomics (s : State) (a k : Nat) : (s.setPoison a k).atomics = s.atomics := rfl
@[simp] theorem State.setPoison_pcie (s : State) (a k : Nat) : (s.setPoison a k).pcie = s.pcie := rfl
@[simp] theorem State.setPoison_seenAway (s : State) (a k : Nat) : (s.setPoison a k).seenAway = s.seenAway := rfl
@[simp] theorem State.setPoison_marked (s : State) (a k : Nat) : (s.setPoison a k).marked = s.marked := rfl
@[simp] theorem State.setPoison_string (s : State) (a k : Nat) : (s.setPoison a k).string = s.string := rfl
@[simp] theorem State.setPoison_eastDown (s : State) (a k : Nat) : (s.setPoison a k).eastDown = s.eastDown := rfl
@[simp] theorem State.setPoison_westDown (s : State) (a k : Nat) : (s.setPoison a k).westDown = s.westDown := rfl
@[simp] theorem State.setPoison_boot (s : State) (a k : Nat) : (s.setPoison a k).boot = s.boot := rfl
@[simp] theorem State.setPoison_cfg (s : State) (a k : Nat) : (s.setPoison a k).cfg = s.cfg := rfl
@[simp] theorem State.setPoison_walkers (s : State) (a k : Nat) : (s.setPoison a k).walkers = s.walkers := rfl
@[simp] theorem State.setPoison_rescue (s : State) (a k : Nat) : (s.setPoison a k).rescue = s.rescue := rfl
@[simp] theorem State.setPoison_clock (s : State) (a k : Nat) : (s.setPoison a k).clock = s.clock := rfl
@[simp] theorem State.setPoison_nextId (s : State) (a k : Nat) : (s.setPoison a k).nextId = s.nextId := rfl
@[simp] theorem State.setPoison_nextTag (s : State) (a k : Nat) : (s.setPoison a k).nextTag = s.nextTag := rfl
@[simp] theorem State.setPoison_nextAge (s : State) (a k : Nat) : (s.setPoison a k).nextAge = s.nextAge := rfl
@[simp] theorem State.setPoison_cfgSpace (s : State) (a k : Nat) : (s.setPoison a k).cfgSpace = s.cfgSpace := rfl
@[simp] theorem State.setPoison_awayEnded (s : State) (a k : Nat) : (s.setPoison a k).awayEnded = s.awayEnded := rfl
@[simp] theorem State.setPoison_bar4 (s : State) (a k : Nat) : (s.setPoison a k).bar4 = s.bar4 := rfl
@[simp] theorem State.setPoison_sliceRows (s : State) (a k : Nat) : (s.setPoison a k).sliceRows = s.sliceRows := rfl
@[simp] theorem State.setPoison_powerLimit (s : State) (a k : Nat) : (s.setPoison a k).powerLimit = s.powerLimit := rfl
@[simp] theorem State.setPoison_powerOver (s : State) (a k : Nat) : (s.setPoison a k).powerOver = s.powerOver := rfl

/-! ### clearPoison -/

@[simp] theorem State.clearPoison_agenda (s : State) (a : Nat) : (s.clearPoison a).agenda = s.agenda := rfl
@[simp] theorem State.clearPoison_focus (s : State) (a : Nat) : (s.clearPoison a).focus = s.focus := rfl
@[simp] theorem State.clearPoison_cur (s : State) (a : Nat) : (s.clearPoison a).cur = s.cur := rfl
@[simp] theorem State.clearPoison_mem (s : State) (a : Nat) : (s.clearPoison a).mem = s.mem := rfl
@[simp] theorem State.clearPoison_strands (s : State) (a : Nat) : (s.clearPoison a).strands = s.strands := rfl
@[simp] theorem State.clearPoison_stations (s : State) (a : Nat) : (s.clearPoison a).stations = s.stations := rfl
@[simp] theorem State.clearPoison_dies (s : State) (a : Nat) : (s.clearPoison a).dies = s.dies := rfl
@[simp] theorem State.clearPoison_reqs (s : State) (a : Nat) : (s.clearPoison a).reqs = s.reqs := rfl
@[simp] theorem State.clearPoison_results (s : State) (a : Nat) : (s.clearPoison a).results = s.results := rfl
@[simp] theorem State.clearPoison_resv (s : State) (a : Nat) : (s.clearPoison a).resv = s.resv := rfl
@[simp] theorem State.clearPoison_queueWaits (s : State) (a : Nat) : (s.clearPoison a).queueWaits = s.queueWaits := rfl
@[simp] theorem State.clearPoison_proofs (s : State) (a : Nat) : (s.clearPoison a).proofs = s.proofs := rfl
@[simp] theorem State.clearPoison_grids (s : State) (a : Nat) : (s.clearPoison a).grids = s.grids := rfl
@[simp] theorem State.clearPoison_ctxs (s : State) (a : Nat) : (s.clearPoison a).ctxs = s.ctxs := rfl
@[simp] theorem State.clearPoison_queues (s : State) (a : Nat) : (s.clearPoison a).queues = s.queues := rfl
@[simp] theorem State.clearPoison_saved (s : State) (a : Nat) : (s.clearPoison a).saved = s.saved := rfl
@[simp] theorem State.clearPoison_transit (s : State) (a : Nat) : (s.clearPoison a).transit = s.transit := rfl
@[simp] theorem State.clearPoison_guest (s : State) (a : Nat) : (s.clearPoison a).guest = s.guest := rfl
@[simp] theorem State.clearPoison_shards (s : State) (a : Nat) : (s.clearPoison a).shards = s.shards := rfl
@[simp] theorem State.clearPoison_fw (s : State) (a : Nat) : (s.clearPoison a).fw = s.fw := rfl
@[simp] theorem State.clearPoison_windows (s : State) (a : Nat) : (s.clearPoison a).windows = s.windows := rfl
@[simp] theorem State.clearPoison_atomics (s : State) (a : Nat) : (s.clearPoison a).atomics = s.atomics := rfl
@[simp] theorem State.clearPoison_pcie (s : State) (a : Nat) : (s.clearPoison a).pcie = s.pcie := rfl
@[simp] theorem State.clearPoison_seenAway (s : State) (a : Nat) : (s.clearPoison a).seenAway = s.seenAway := rfl
@[simp] theorem State.clearPoison_marked (s : State) (a : Nat) : (s.clearPoison a).marked = s.marked := rfl
@[simp] theorem State.clearPoison_string (s : State) (a : Nat) : (s.clearPoison a).string = s.string := rfl
@[simp] theorem State.clearPoison_eastDown (s : State) (a : Nat) : (s.clearPoison a).eastDown = s.eastDown := rfl
@[simp] theorem State.clearPoison_westDown (s : State) (a : Nat) : (s.clearPoison a).westDown = s.westDown := rfl
@[simp] theorem State.clearPoison_boot (s : State) (a : Nat) : (s.clearPoison a).boot = s.boot := rfl
@[simp] theorem State.clearPoison_cfg (s : State) (a : Nat) : (s.clearPoison a).cfg = s.cfg := rfl
@[simp] theorem State.clearPoison_walkers (s : State) (a : Nat) : (s.clearPoison a).walkers = s.walkers := rfl
@[simp] theorem State.clearPoison_rescue (s : State) (a : Nat) : (s.clearPoison a).rescue = s.rescue := rfl
@[simp] theorem State.clearPoison_clock (s : State) (a : Nat) : (s.clearPoison a).clock = s.clock := rfl
@[simp] theorem State.clearPoison_nextId (s : State) (a : Nat) : (s.clearPoison a).nextId = s.nextId := rfl
@[simp] theorem State.clearPoison_nextTag (s : State) (a : Nat) : (s.clearPoison a).nextTag = s.nextTag := rfl
@[simp] theorem State.clearPoison_nextAge (s : State) (a : Nat) : (s.clearPoison a).nextAge = s.nextAge := rfl
@[simp] theorem State.clearPoison_cfgSpace (s : State) (a : Nat) : (s.clearPoison a).cfgSpace = s.cfgSpace := rfl
@[simp] theorem State.clearPoison_awayEnded (s : State) (a : Nat) : (s.clearPoison a).awayEnded = s.awayEnded := rfl
@[simp] theorem State.clearPoison_bar4 (s : State) (a : Nat) : (s.clearPoison a).bar4 = s.bar4 := rfl
@[simp] theorem State.clearPoison_sliceRows (s : State) (a : Nat) : (s.clearPoison a).sliceRows = s.sliceRows := rfl
@[simp] theorem State.clearPoison_powerLimit (s : State) (a : Nat) : (s.clearPoison a).powerLimit = s.powerLimit := rfl
@[simp] theorem State.clearPoison_powerOver (s : State) (a : Nat) : (s.clearPoison a).powerOver = s.powerOver := rfl

/-! ### putS -/

@[simp] theorem State.putS_agenda (s : State) (k : Nat) (r : SReg) (v : Word) : (s.putS k r v).agenda = s.agenda := by
  unfold State.putS State.setScell; split <;> first | rfl | (split <;> rfl)
@[simp] theorem State.putS_focus (s : State) (k : Nat) (r : SReg) (v : Word) : (s.putS k r v).focus = s.focus := by
  unfold State.putS State.setScell; split <;> first | rfl | (split <;> rfl)
@[simp] theorem State.putS_cur (s : State) (k : Nat) (r : SReg) (v : Word) : (s.putS k r v).cur = s.cur := by
  unfold State.putS State.setScell; split <;> first | rfl | (split <;> rfl)
@[simp] theorem State.putS_mem (s : State) (k : Nat) (r : SReg) (v : Word) : (s.putS k r v).mem = s.mem := by
  unfold State.putS State.setScell; split <;> first | rfl | (split <;> rfl)
@[simp] theorem State.putS_poison (s : State) (k : Nat) (r : SReg) (v : Word) : (s.putS k r v).poison = s.poison := by
  unfold State.putS State.setScell; split <;> first | rfl | (split <;> rfl)
@[simp] theorem State.putS_dies (s : State) (k : Nat) (r : SReg) (v : Word) : (s.putS k r v).dies = s.dies := by
  unfold State.putS State.setScell; split <;> first | rfl | (split <;> rfl)
@[simp] theorem State.putS_reqs (s : State) (k : Nat) (r : SReg) (v : Word) : (s.putS k r v).reqs = s.reqs := by
  unfold State.putS State.setScell; split <;> first | rfl | (split <;> rfl)
@[simp] theorem State.putS_results (s : State) (k : Nat) (r : SReg) (v : Word) : (s.putS k r v).results = s.results := by
  unfold State.putS State.setScell; split <;> first | rfl | (split <;> rfl)
@[simp] theorem State.putS_resv (s : State) (k : Nat) (r : SReg) (v : Word) : (s.putS k r v).resv = s.resv := by
  unfold State.putS State.setScell; split <;> first | rfl | (split <;> rfl)
@[simp] theorem State.putS_queueWaits (s : State) (k : Nat) (r : SReg) (v : Word) : (s.putS k r v).queueWaits = s.queueWaits := by
  unfold State.putS State.setScell; split <;> first | rfl | (split <;> rfl)
@[simp] theorem State.putS_proofs (s : State) (k : Nat) (r : SReg) (v : Word) : (s.putS k r v).proofs = s.proofs := by
  unfold State.putS State.setScell; split <;> first | rfl | (split <;> rfl)
@[simp] theorem State.putS_grids (s : State) (k : Nat) (r : SReg) (v : Word) : (s.putS k r v).grids = s.grids := by
  unfold State.putS State.setScell; split <;> first | rfl | (split <;> rfl)
@[simp] theorem State.putS_ctxs (s : State) (k : Nat) (r : SReg) (v : Word) : (s.putS k r v).ctxs = s.ctxs := by
  unfold State.putS State.setScell; split <;> first | rfl | (split <;> rfl)
@[simp] theorem State.putS_queues (s : State) (k : Nat) (r : SReg) (v : Word) : (s.putS k r v).queues = s.queues := by
  unfold State.putS State.setScell; split <;> first | rfl | (split <;> rfl)
@[simp] theorem State.putS_saved (s : State) (k : Nat) (r : SReg) (v : Word) : (s.putS k r v).saved = s.saved := by
  unfold State.putS State.setScell; split <;> first | rfl | (split <;> rfl)
@[simp] theorem State.putS_transit (s : State) (k : Nat) (r : SReg) (v : Word) : (s.putS k r v).transit = s.transit := by
  unfold State.putS State.setScell; split <;> first | rfl | (split <;> rfl)
@[simp] theorem State.putS_guest (s : State) (k : Nat) (r : SReg) (v : Word) : (s.putS k r v).guest = s.guest := by
  unfold State.putS State.setScell; split <;> first | rfl | (split <;> rfl)
@[simp] theorem State.putS_shards (s : State) (k : Nat) (r : SReg) (v : Word) : (s.putS k r v).shards = s.shards := by
  unfold State.putS State.setScell; split <;> first | rfl | (split <;> rfl)
@[simp] theorem State.putS_fw (s : State) (k : Nat) (r : SReg) (v : Word) : (s.putS k r v).fw = s.fw := by
  unfold State.putS State.setScell; split <;> first | rfl | (split <;> rfl)
@[simp] theorem State.putS_windows (s : State) (k : Nat) (r : SReg) (v : Word) : (s.putS k r v).windows = s.windows := by
  unfold State.putS State.setScell; split <;> first | rfl | (split <;> rfl)
@[simp] theorem State.putS_atomics (s : State) (k : Nat) (r : SReg) (v : Word) : (s.putS k r v).atomics = s.atomics := by
  unfold State.putS State.setScell; split <;> first | rfl | (split <;> rfl)
@[simp] theorem State.putS_pcie (s : State) (k : Nat) (r : SReg) (v : Word) : (s.putS k r v).pcie = s.pcie := by
  unfold State.putS State.setScell; split <;> first | rfl | (split <;> rfl)
@[simp] theorem State.putS_boot (s : State) (k : Nat) (r : SReg) (v : Word) : (s.putS k r v).boot = s.boot := by
  unfold State.putS State.setScell; split <;> first | rfl | (split <;> rfl)
@[simp] theorem State.putS_cfg (s : State) (k : Nat) (r : SReg) (v : Word) : (s.putS k r v).cfg = s.cfg := by
  unfold State.putS State.setScell; split <;> first | rfl | (split <;> rfl)
@[simp] theorem State.putS_walkers (s : State) (k : Nat) (r : SReg) (v : Word) : (s.putS k r v).walkers = s.walkers := by
  unfold State.putS State.setScell; split <;> first | rfl | (split <;> rfl)
@[simp] theorem State.putS_rescue (s : State) (k : Nat) (r : SReg) (v : Word) : (s.putS k r v).rescue = s.rescue := by
  unfold State.putS State.setScell; split <;> first | rfl | (split <;> rfl)
@[simp] theorem State.putS_clock (s : State) (k : Nat) (r : SReg) (v : Word) : (s.putS k r v).clock = s.clock := by
  unfold State.putS State.setScell; split <;> first | rfl | (split <;> rfl)
@[simp] theorem State.putS_nextId (s : State) (k : Nat) (r : SReg) (v : Word) : (s.putS k r v).nextId = s.nextId := by
  unfold State.putS State.setScell; split <;> first | rfl | (split <;> rfl)
@[simp] theorem State.putS_nextTag (s : State) (k : Nat) (r : SReg) (v : Word) : (s.putS k r v).nextTag = s.nextTag := by
  unfold State.putS State.setScell; split <;> first | rfl | (split <;> rfl)
@[simp] theorem State.putS_nextAge (s : State) (k : Nat) (r : SReg) (v : Word) : (s.putS k r v).nextAge = s.nextAge := by
  unfold State.putS State.setScell; split <;> first | rfl | (split <;> rfl)
@[simp] theorem State.putS_cfgSpace (s : State) (k : Nat) (r : SReg) (v : Word) : (s.putS k r v).cfgSpace = s.cfgSpace := by
  unfold State.putS State.setScell; split <;> first | rfl | (split <;> rfl)
@[simp] theorem State.putS_awayEnded (s : State) (k : Nat) (r : SReg) (v : Word) : (s.putS k r v).awayEnded = s.awayEnded := by
  unfold State.putS State.setScell; split <;> first | rfl | (split <;> rfl)
@[simp] theorem State.putS_bar4 (s : State) (k : Nat) (r : SReg) (v : Word) : (s.putS k r v).bar4 = s.bar4 := by
  unfold State.putS State.setScell; split <;> first | rfl | (split <;> rfl)
@[simp] theorem State.putS_sliceRows (s : State) (k : Nat) (r : SReg) (v : Word) : (s.putS k r v).sliceRows = s.sliceRows := by
  unfold State.putS State.setScell; split <;> first | rfl | (split <;> rfl)
@[simp] theorem State.putS_powerLimit (s : State) (k : Nat) (r : SReg) (v : Word) : (s.putS k r v).powerLimit = s.powerLimit := by
  unfold State.putS State.setScell; split <;> first | rfl | (split <;> rfl)
@[simp] theorem State.putS_powerOver (s : State) (k : Nat) (r : SReg) (v : Word) : (s.putS k r v).powerOver = s.powerOver := by
  unfold State.putS State.setScell; split <;> first | rfl | (split <;> rfl)

/-! ### putV -/

@[simp] theorem State.putV_agenda (s : State) (k : Nat) (r : VReg) (v : VWord) (xr : Bool) : (s.putV k r v xr).agenda = s.agenda := by
  unfold State.putV State.setVcell; split <;> first | rfl | (split <;> rfl)
@[simp] theorem State.putV_focus (s : State) (k : Nat) (r : VReg) (v : VWord) (xr : Bool) : (s.putV k r v xr).focus = s.focus := by
  unfold State.putV State.setVcell; split <;> first | rfl | (split <;> rfl)
@[simp] theorem State.putV_cur (s : State) (k : Nat) (r : VReg) (v : VWord) (xr : Bool) : (s.putV k r v xr).cur = s.cur := by
  unfold State.putV State.setVcell; split <;> first | rfl | (split <;> rfl)
@[simp] theorem State.putV_mem (s : State) (k : Nat) (r : VReg) (v : VWord) (xr : Bool) : (s.putV k r v xr).mem = s.mem := by
  unfold State.putV State.setVcell; split <;> first | rfl | (split <;> rfl)
@[simp] theorem State.putV_poison (s : State) (k : Nat) (r : VReg) (v : VWord) (xr : Bool) : (s.putV k r v xr).poison = s.poison := by
  unfold State.putV State.setVcell; split <;> first | rfl | (split <;> rfl)
@[simp] theorem State.putV_dies (s : State) (k : Nat) (r : VReg) (v : VWord) (xr : Bool) : (s.putV k r v xr).dies = s.dies := by
  unfold State.putV State.setVcell; split <;> first | rfl | (split <;> rfl)
@[simp] theorem State.putV_reqs (s : State) (k : Nat) (r : VReg) (v : VWord) (xr : Bool) : (s.putV k r v xr).reqs = s.reqs := by
  unfold State.putV State.setVcell; split <;> first | rfl | (split <;> rfl)
@[simp] theorem State.putV_results (s : State) (k : Nat) (r : VReg) (v : VWord) (xr : Bool) : (s.putV k r v xr).results = s.results := by
  unfold State.putV State.setVcell; split <;> first | rfl | (split <;> rfl)
@[simp] theorem State.putV_resv (s : State) (k : Nat) (r : VReg) (v : VWord) (xr : Bool) : (s.putV k r v xr).resv = s.resv := by
  unfold State.putV State.setVcell; split <;> first | rfl | (split <;> rfl)
@[simp] theorem State.putV_queueWaits (s : State) (k : Nat) (r : VReg) (v : VWord) (xr : Bool) : (s.putV k r v xr).queueWaits = s.queueWaits := by
  unfold State.putV State.setVcell; split <;> first | rfl | (split <;> rfl)
@[simp] theorem State.putV_proofs (s : State) (k : Nat) (r : VReg) (v : VWord) (xr : Bool) : (s.putV k r v xr).proofs = s.proofs := by
  unfold State.putV State.setVcell; split <;> first | rfl | (split <;> rfl)
@[simp] theorem State.putV_grids (s : State) (k : Nat) (r : VReg) (v : VWord) (xr : Bool) : (s.putV k r v xr).grids = s.grids := by
  unfold State.putV State.setVcell; split <;> first | rfl | (split <;> rfl)
@[simp] theorem State.putV_ctxs (s : State) (k : Nat) (r : VReg) (v : VWord) (xr : Bool) : (s.putV k r v xr).ctxs = s.ctxs := by
  unfold State.putV State.setVcell; split <;> first | rfl | (split <;> rfl)
@[simp] theorem State.putV_queues (s : State) (k : Nat) (r : VReg) (v : VWord) (xr : Bool) : (s.putV k r v xr).queues = s.queues := by
  unfold State.putV State.setVcell; split <;> first | rfl | (split <;> rfl)
@[simp] theorem State.putV_saved (s : State) (k : Nat) (r : VReg) (v : VWord) (xr : Bool) : (s.putV k r v xr).saved = s.saved := by
  unfold State.putV State.setVcell; split <;> first | rfl | (split <;> rfl)
@[simp] theorem State.putV_transit (s : State) (k : Nat) (r : VReg) (v : VWord) (xr : Bool) : (s.putV k r v xr).transit = s.transit := by
  unfold State.putV State.setVcell; split <;> first | rfl | (split <;> rfl)
@[simp] theorem State.putV_guest (s : State) (k : Nat) (r : VReg) (v : VWord) (xr : Bool) : (s.putV k r v xr).guest = s.guest := by
  unfold State.putV State.setVcell; split <;> first | rfl | (split <;> rfl)
@[simp] theorem State.putV_shards (s : State) (k : Nat) (r : VReg) (v : VWord) (xr : Bool) : (s.putV k r v xr).shards = s.shards := by
  unfold State.putV State.setVcell; split <;> first | rfl | (split <;> rfl)
@[simp] theorem State.putV_fw (s : State) (k : Nat) (r : VReg) (v : VWord) (xr : Bool) : (s.putV k r v xr).fw = s.fw := by
  unfold State.putV State.setVcell; split <;> first | rfl | (split <;> rfl)
@[simp] theorem State.putV_windows (s : State) (k : Nat) (r : VReg) (v : VWord) (xr : Bool) : (s.putV k r v xr).windows = s.windows := by
  unfold State.putV State.setVcell; split <;> first | rfl | (split <;> rfl)
@[simp] theorem State.putV_atomics (s : State) (k : Nat) (r : VReg) (v : VWord) (xr : Bool) : (s.putV k r v xr).atomics = s.atomics := by
  unfold State.putV State.setVcell; split <;> first | rfl | (split <;> rfl)
@[simp] theorem State.putV_pcie (s : State) (k : Nat) (r : VReg) (v : VWord) (xr : Bool) : (s.putV k r v xr).pcie = s.pcie := by
  unfold State.putV State.setVcell; split <;> first | rfl | (split <;> rfl)
@[simp] theorem State.putV_boot (s : State) (k : Nat) (r : VReg) (v : VWord) (xr : Bool) : (s.putV k r v xr).boot = s.boot := by
  unfold State.putV State.setVcell; split <;> first | rfl | (split <;> rfl)
@[simp] theorem State.putV_cfg (s : State) (k : Nat) (r : VReg) (v : VWord) (xr : Bool) : (s.putV k r v xr).cfg = s.cfg := by
  unfold State.putV State.setVcell; split <;> first | rfl | (split <;> rfl)
@[simp] theorem State.putV_walkers (s : State) (k : Nat) (r : VReg) (v : VWord) (xr : Bool) : (s.putV k r v xr).walkers = s.walkers := by
  unfold State.putV State.setVcell; split <;> first | rfl | (split <;> rfl)
@[simp] theorem State.putV_rescue (s : State) (k : Nat) (r : VReg) (v : VWord) (xr : Bool) : (s.putV k r v xr).rescue = s.rescue := by
  unfold State.putV State.setVcell; split <;> first | rfl | (split <;> rfl)
@[simp] theorem State.putV_clock (s : State) (k : Nat) (r : VReg) (v : VWord) (xr : Bool) : (s.putV k r v xr).clock = s.clock := by
  unfold State.putV State.setVcell; split <;> first | rfl | (split <;> rfl)
@[simp] theorem State.putV_nextId (s : State) (k : Nat) (r : VReg) (v : VWord) (xr : Bool) : (s.putV k r v xr).nextId = s.nextId := by
  unfold State.putV State.setVcell; split <;> first | rfl | (split <;> rfl)
@[simp] theorem State.putV_nextTag (s : State) (k : Nat) (r : VReg) (v : VWord) (xr : Bool) : (s.putV k r v xr).nextTag = s.nextTag := by
  unfold State.putV State.setVcell; split <;> first | rfl | (split <;> rfl)
@[simp] theorem State.putV_nextAge (s : State) (k : Nat) (r : VReg) (v : VWord) (xr : Bool) : (s.putV k r v xr).nextAge = s.nextAge := by
  unfold State.putV State.setVcell; split <;> first | rfl | (split <;> rfl)
@[simp] theorem State.putV_cfgSpace (s : State) (k : Nat) (r : VReg) (v : VWord) (xr : Bool) : (s.putV k r v xr).cfgSpace = s.cfgSpace := by
  unfold State.putV State.setVcell; split <;> first | rfl | (split <;> rfl)
@[simp] theorem State.putV_awayEnded (s : State) (k : Nat) (r : VReg) (v : VWord) (xr : Bool) : (s.putV k r v xr).awayEnded = s.awayEnded := by
  unfold State.putV State.setVcell; split <;> first | rfl | (split <;> rfl)
@[simp] theorem State.putV_bar4 (s : State) (k : Nat) (r : VReg) (v : VWord) (xr : Bool) : (s.putV k r v xr).bar4 = s.bar4 := by
  unfold State.putV State.setVcell; split <;> first | rfl | (split <;> rfl)
@[simp] theorem State.putV_sliceRows (s : State) (k : Nat) (r : VReg) (v : VWord) (xr : Bool) : (s.putV k r v xr).sliceRows = s.sliceRows := by
  unfold State.putV State.setVcell; split <;> first | rfl | (split <;> rfl)
@[simp] theorem State.putV_powerLimit (s : State) (k : Nat) (r : VReg) (v : VWord) (xr : Bool) : (s.putV k r v xr).powerLimit = s.powerLimit := by
  unfold State.putV State.setVcell; split <;> first | rfl | (split <;> rfl)
@[simp] theorem State.putV_powerOver (s : State) (k : Nat) (r : VReg) (v : VWord) (xr : Bool) : (s.putV k r v xr).powerOver = s.powerOver := by
  unfold State.putV State.setVcell; split <;> first | rfl | (split <;> rfl)

/-! ### emptyS -/

@[simp] theorem State.emptyS_agenda (s : State) (k : Nat) (t : Strand) (r : SReg) : (s.emptyS k t r).agenda = s.agenda := by
  unfold State.emptyS State.setScell; split <;> first | rfl | (split <;> rfl)
@[simp] theorem State.emptyS_focus (s : State) (k : Nat) (t : Strand) (r : SReg) : (s.emptyS k t r).focus = s.focus := by
  unfold State.emptyS State.setScell; split <;> first | rfl | (split <;> rfl)
@[simp] theorem State.emptyS_cur (s : State) (k : Nat) (t : Strand) (r : SReg) : (s.emptyS k t r).cur = s.cur := by
  unfold State.emptyS State.setScell; split <;> first | rfl | (split <;> rfl)
@[simp] theorem State.emptyS_mem (s : State) (k : Nat) (t : Strand) (r : SReg) : (s.emptyS k t r).mem = s.mem := by
  unfold State.emptyS State.setScell; split <;> first | rfl | (split <;> rfl)
@[simp] theorem State.emptyS_poison (s : State) (k : Nat) (t : Strand) (r : SReg) : (s.emptyS k t r).poison = s.poison := by
  unfold State.emptyS State.setScell; split <;> first | rfl | (split <;> rfl)
@[simp] theorem State.emptyS_dies (s : State) (k : Nat) (t : Strand) (r : SReg) : (s.emptyS k t r).dies = s.dies := by
  unfold State.emptyS State.setScell; split <;> first | rfl | (split <;> rfl)
@[simp] theorem State.emptyS_reqs (s : State) (k : Nat) (t : Strand) (r : SReg) : (s.emptyS k t r).reqs = s.reqs := by
  unfold State.emptyS State.setScell; split <;> first | rfl | (split <;> rfl)
@[simp] theorem State.emptyS_results (s : State) (k : Nat) (t : Strand) (r : SReg) : (s.emptyS k t r).results = s.results := by
  unfold State.emptyS State.setScell; split <;> first | rfl | (split <;> rfl)
@[simp] theorem State.emptyS_resv (s : State) (k : Nat) (t : Strand) (r : SReg) : (s.emptyS k t r).resv = s.resv := by
  unfold State.emptyS State.setScell; split <;> first | rfl | (split <;> rfl)
@[simp] theorem State.emptyS_queueWaits (s : State) (k : Nat) (t : Strand) (r : SReg) : (s.emptyS k t r).queueWaits = s.queueWaits := by
  unfold State.emptyS State.setScell; split <;> first | rfl | (split <;> rfl)
@[simp] theorem State.emptyS_proofs (s : State) (k : Nat) (t : Strand) (r : SReg) : (s.emptyS k t r).proofs = s.proofs := by
  unfold State.emptyS State.setScell; split <;> first | rfl | (split <;> rfl)
@[simp] theorem State.emptyS_grids (s : State) (k : Nat) (t : Strand) (r : SReg) : (s.emptyS k t r).grids = s.grids := by
  unfold State.emptyS State.setScell; split <;> first | rfl | (split <;> rfl)
@[simp] theorem State.emptyS_ctxs (s : State) (k : Nat) (t : Strand) (r : SReg) : (s.emptyS k t r).ctxs = s.ctxs := by
  unfold State.emptyS State.setScell; split <;> first | rfl | (split <;> rfl)
@[simp] theorem State.emptyS_queues (s : State) (k : Nat) (t : Strand) (r : SReg) : (s.emptyS k t r).queues = s.queues := by
  unfold State.emptyS State.setScell; split <;> first | rfl | (split <;> rfl)
@[simp] theorem State.emptyS_saved (s : State) (k : Nat) (t : Strand) (r : SReg) : (s.emptyS k t r).saved = s.saved := by
  unfold State.emptyS State.setScell; split <;> first | rfl | (split <;> rfl)
@[simp] theorem State.emptyS_transit (s : State) (k : Nat) (t : Strand) (r : SReg) : (s.emptyS k t r).transit = s.transit := by
  unfold State.emptyS State.setScell; split <;> first | rfl | (split <;> rfl)
@[simp] theorem State.emptyS_guest (s : State) (k : Nat) (t : Strand) (r : SReg) : (s.emptyS k t r).guest = s.guest := by
  unfold State.emptyS State.setScell; split <;> first | rfl | (split <;> rfl)
@[simp] theorem State.emptyS_shards (s : State) (k : Nat) (t : Strand) (r : SReg) : (s.emptyS k t r).shards = s.shards := by
  unfold State.emptyS State.setScell; split <;> first | rfl | (split <;> rfl)
@[simp] theorem State.emptyS_fw (s : State) (k : Nat) (t : Strand) (r : SReg) : (s.emptyS k t r).fw = s.fw := by
  unfold State.emptyS State.setScell; split <;> first | rfl | (split <;> rfl)
@[simp] theorem State.emptyS_windows (s : State) (k : Nat) (t : Strand) (r : SReg) : (s.emptyS k t r).windows = s.windows := by
  unfold State.emptyS State.setScell; split <;> first | rfl | (split <;> rfl)
@[simp] theorem State.emptyS_atomics (s : State) (k : Nat) (t : Strand) (r : SReg) : (s.emptyS k t r).atomics = s.atomics := by
  unfold State.emptyS State.setScell; split <;> first | rfl | (split <;> rfl)
@[simp] theorem State.emptyS_pcie (s : State) (k : Nat) (t : Strand) (r : SReg) : (s.emptyS k t r).pcie = s.pcie := by
  unfold State.emptyS State.setScell; split <;> first | rfl | (split <;> rfl)
@[simp] theorem State.emptyS_boot (s : State) (k : Nat) (t : Strand) (r : SReg) : (s.emptyS k t r).boot = s.boot := by
  unfold State.emptyS State.setScell; split <;> first | rfl | (split <;> rfl)
@[simp] theorem State.emptyS_cfg (s : State) (k : Nat) (t : Strand) (r : SReg) : (s.emptyS k t r).cfg = s.cfg := by
  unfold State.emptyS State.setScell; split <;> first | rfl | (split <;> rfl)
@[simp] theorem State.emptyS_walkers (s : State) (k : Nat) (t : Strand) (r : SReg) : (s.emptyS k t r).walkers = s.walkers := by
  unfold State.emptyS State.setScell; split <;> first | rfl | (split <;> rfl)
@[simp] theorem State.emptyS_rescue (s : State) (k : Nat) (t : Strand) (r : SReg) : (s.emptyS k t r).rescue = s.rescue := by
  unfold State.emptyS State.setScell; split <;> first | rfl | (split <;> rfl)
@[simp] theorem State.emptyS_clock (s : State) (k : Nat) (t : Strand) (r : SReg) : (s.emptyS k t r).clock = s.clock := by
  unfold State.emptyS State.setScell; split <;> first | rfl | (split <;> rfl)
@[simp] theorem State.emptyS_nextId (s : State) (k : Nat) (t : Strand) (r : SReg) : (s.emptyS k t r).nextId = s.nextId := by
  unfold State.emptyS State.setScell; split <;> first | rfl | (split <;> rfl)
@[simp] theorem State.emptyS_nextTag (s : State) (k : Nat) (t : Strand) (r : SReg) : (s.emptyS k t r).nextTag = s.nextTag := by
  unfold State.emptyS State.setScell; split <;> first | rfl | (split <;> rfl)
@[simp] theorem State.emptyS_nextAge (s : State) (k : Nat) (t : Strand) (r : SReg) : (s.emptyS k t r).nextAge = s.nextAge := by
  unfold State.emptyS State.setScell; split <;> first | rfl | (split <;> rfl)
@[simp] theorem State.emptyS_cfgSpace (s : State) (k : Nat) (t : Strand) (r : SReg) : (s.emptyS k t r).cfgSpace = s.cfgSpace := by
  unfold State.emptyS State.setScell; split <;> first | rfl | (split <;> rfl)
@[simp] theorem State.emptyS_awayEnded (s : State) (k : Nat) (t : Strand) (r : SReg) : (s.emptyS k t r).awayEnded = s.awayEnded := by
  unfold State.emptyS State.setScell; split <;> first | rfl | (split <;> rfl)
@[simp] theorem State.emptyS_bar4 (s : State) (k : Nat) (t : Strand) (r : SReg) : (s.emptyS k t r).bar4 = s.bar4 := by
  unfold State.emptyS State.setScell; split <;> first | rfl | (split <;> rfl)
@[simp] theorem State.emptyS_sliceRows (s : State) (k : Nat) (t : Strand) (r : SReg) : (s.emptyS k t r).sliceRows = s.sliceRows := by
  unfold State.emptyS State.setScell; split <;> first | rfl | (split <;> rfl)
@[simp] theorem State.emptyS_powerLimit (s : State) (k : Nat) (t : Strand) (r : SReg) : (s.emptyS k t r).powerLimit = s.powerLimit := by
  unfold State.emptyS State.setScell; split <;> first | rfl | (split <;> rfl)
@[simp] theorem State.emptyS_powerOver (s : State) (k : Nat) (t : Strand) (r : SReg) : (s.emptyS k t r).powerOver = s.powerOver := by
  unfold State.emptyS State.setScell; split <;> first | rfl | (split <;> rfl)

/-! ### emptyV -/

@[simp] theorem State.emptyV_agenda (s : State) (k : Nat) (t : Strand) (r : VReg) : (s.emptyV k t r).agenda = s.agenda := by
  unfold State.emptyV State.setVcell; split <;> first | rfl | (split <;> rfl)
@[simp] theorem State.emptyV_focus (s : State) (k : Nat) (t : Strand) (r : VReg) : (s.emptyV k t r).focus = s.focus := by
  unfold State.emptyV State.setVcell; split <;> first | rfl | (split <;> rfl)
@[simp] theorem State.emptyV_cur (s : State) (k : Nat) (t : Strand) (r : VReg) : (s.emptyV k t r).cur = s.cur := by
  unfold State.emptyV State.setVcell; split <;> first | rfl | (split <;> rfl)
@[simp] theorem State.emptyV_mem (s : State) (k : Nat) (t : Strand) (r : VReg) : (s.emptyV k t r).mem = s.mem := by
  unfold State.emptyV State.setVcell; split <;> first | rfl | (split <;> rfl)
@[simp] theorem State.emptyV_poison (s : State) (k : Nat) (t : Strand) (r : VReg) : (s.emptyV k t r).poison = s.poison := by
  unfold State.emptyV State.setVcell; split <;> first | rfl | (split <;> rfl)
@[simp] theorem State.emptyV_dies (s : State) (k : Nat) (t : Strand) (r : VReg) : (s.emptyV k t r).dies = s.dies := by
  unfold State.emptyV State.setVcell; split <;> first | rfl | (split <;> rfl)
@[simp] theorem State.emptyV_reqs (s : State) (k : Nat) (t : Strand) (r : VReg) : (s.emptyV k t r).reqs = s.reqs := by
  unfold State.emptyV State.setVcell; split <;> first | rfl | (split <;> rfl)
@[simp] theorem State.emptyV_results (s : State) (k : Nat) (t : Strand) (r : VReg) : (s.emptyV k t r).results = s.results := by
  unfold State.emptyV State.setVcell; split <;> first | rfl | (split <;> rfl)
@[simp] theorem State.emptyV_resv (s : State) (k : Nat) (t : Strand) (r : VReg) : (s.emptyV k t r).resv = s.resv := by
  unfold State.emptyV State.setVcell; split <;> first | rfl | (split <;> rfl)
@[simp] theorem State.emptyV_queueWaits (s : State) (k : Nat) (t : Strand) (r : VReg) : (s.emptyV k t r).queueWaits = s.queueWaits := by
  unfold State.emptyV State.setVcell; split <;> first | rfl | (split <;> rfl)
@[simp] theorem State.emptyV_proofs (s : State) (k : Nat) (t : Strand) (r : VReg) : (s.emptyV k t r).proofs = s.proofs := by
  unfold State.emptyV State.setVcell; split <;> first | rfl | (split <;> rfl)
@[simp] theorem State.emptyV_grids (s : State) (k : Nat) (t : Strand) (r : VReg) : (s.emptyV k t r).grids = s.grids := by
  unfold State.emptyV State.setVcell; split <;> first | rfl | (split <;> rfl)
@[simp] theorem State.emptyV_ctxs (s : State) (k : Nat) (t : Strand) (r : VReg) : (s.emptyV k t r).ctxs = s.ctxs := by
  unfold State.emptyV State.setVcell; split <;> first | rfl | (split <;> rfl)
@[simp] theorem State.emptyV_queues (s : State) (k : Nat) (t : Strand) (r : VReg) : (s.emptyV k t r).queues = s.queues := by
  unfold State.emptyV State.setVcell; split <;> first | rfl | (split <;> rfl)
@[simp] theorem State.emptyV_saved (s : State) (k : Nat) (t : Strand) (r : VReg) : (s.emptyV k t r).saved = s.saved := by
  unfold State.emptyV State.setVcell; split <;> first | rfl | (split <;> rfl)
@[simp] theorem State.emptyV_transit (s : State) (k : Nat) (t : Strand) (r : VReg) : (s.emptyV k t r).transit = s.transit := by
  unfold State.emptyV State.setVcell; split <;> first | rfl | (split <;> rfl)
@[simp] theorem State.emptyV_guest (s : State) (k : Nat) (t : Strand) (r : VReg) : (s.emptyV k t r).guest = s.guest := by
  unfold State.emptyV State.setVcell; split <;> first | rfl | (split <;> rfl)
@[simp] theorem State.emptyV_shards (s : State) (k : Nat) (t : Strand) (r : VReg) : (s.emptyV k t r).shards = s.shards := by
  unfold State.emptyV State.setVcell; split <;> first | rfl | (split <;> rfl)
@[simp] theorem State.emptyV_fw (s : State) (k : Nat) (t : Strand) (r : VReg) : (s.emptyV k t r).fw = s.fw := by
  unfold State.emptyV State.setVcell; split <;> first | rfl | (split <;> rfl)
@[simp] theorem State.emptyV_windows (s : State) (k : Nat) (t : Strand) (r : VReg) : (s.emptyV k t r).windows = s.windows := by
  unfold State.emptyV State.setVcell; split <;> first | rfl | (split <;> rfl)
@[simp] theorem State.emptyV_atomics (s : State) (k : Nat) (t : Strand) (r : VReg) : (s.emptyV k t r).atomics = s.atomics := by
  unfold State.emptyV State.setVcell; split <;> first | rfl | (split <;> rfl)
@[simp] theorem State.emptyV_pcie (s : State) (k : Nat) (t : Strand) (r : VReg) : (s.emptyV k t r).pcie = s.pcie := by
  unfold State.emptyV State.setVcell; split <;> first | rfl | (split <;> rfl)
@[simp] theorem State.emptyV_boot (s : State) (k : Nat) (t : Strand) (r : VReg) : (s.emptyV k t r).boot = s.boot := by
  unfold State.emptyV State.setVcell; split <;> first | rfl | (split <;> rfl)
@[simp] theorem State.emptyV_cfg (s : State) (k : Nat) (t : Strand) (r : VReg) : (s.emptyV k t r).cfg = s.cfg := by
  unfold State.emptyV State.setVcell; split <;> first | rfl | (split <;> rfl)
@[simp] theorem State.emptyV_walkers (s : State) (k : Nat) (t : Strand) (r : VReg) : (s.emptyV k t r).walkers = s.walkers := by
  unfold State.emptyV State.setVcell; split <;> first | rfl | (split <;> rfl)
@[simp] theorem State.emptyV_rescue (s : State) (k : Nat) (t : Strand) (r : VReg) : (s.emptyV k t r).rescue = s.rescue := by
  unfold State.emptyV State.setVcell; split <;> first | rfl | (split <;> rfl)
@[simp] theorem State.emptyV_clock (s : State) (k : Nat) (t : Strand) (r : VReg) : (s.emptyV k t r).clock = s.clock := by
  unfold State.emptyV State.setVcell; split <;> first | rfl | (split <;> rfl)
@[simp] theorem State.emptyV_nextId (s : State) (k : Nat) (t : Strand) (r : VReg) : (s.emptyV k t r).nextId = s.nextId := by
  unfold State.emptyV State.setVcell; split <;> first | rfl | (split <;> rfl)
@[simp] theorem State.emptyV_nextTag (s : State) (k : Nat) (t : Strand) (r : VReg) : (s.emptyV k t r).nextTag = s.nextTag := by
  unfold State.emptyV State.setVcell; split <;> first | rfl | (split <;> rfl)
@[simp] theorem State.emptyV_nextAge (s : State) (k : Nat) (t : Strand) (r : VReg) : (s.emptyV k t r).nextAge = s.nextAge := by
  unfold State.emptyV State.setVcell; split <;> first | rfl | (split <;> rfl)
@[simp] theorem State.emptyV_cfgSpace (s : State) (k : Nat) (t : Strand) (r : VReg) : (s.emptyV k t r).cfgSpace = s.cfgSpace := by
  unfold State.emptyV State.setVcell; split <;> first | rfl | (split <;> rfl)
@[simp] theorem State.emptyV_awayEnded (s : State) (k : Nat) (t : Strand) (r : VReg) : (s.emptyV k t r).awayEnded = s.awayEnded := by
  unfold State.emptyV State.setVcell; split <;> first | rfl | (split <;> rfl)
@[simp] theorem State.emptyV_bar4 (s : State) (k : Nat) (t : Strand) (r : VReg) : (s.emptyV k t r).bar4 = s.bar4 := by
  unfold State.emptyV State.setVcell; split <;> first | rfl | (split <;> rfl)
@[simp] theorem State.emptyV_sliceRows (s : State) (k : Nat) (t : Strand) (r : VReg) : (s.emptyV k t r).sliceRows = s.sliceRows := by
  unfold State.emptyV State.setVcell; split <;> first | rfl | (split <;> rfl)
@[simp] theorem State.emptyV_powerLimit (s : State) (k : Nat) (t : Strand) (r : VReg) : (s.emptyV k t r).powerLimit = s.powerLimit := by
  unfold State.emptyV State.setVcell; split <;> first | rfl | (split <;> rfl)
@[simp] theorem State.emptyV_powerOver (s : State) (k : Nat) (t : Strand) (r : VReg) : (s.emptyV k t r).powerOver = s.powerOver := by
  unfold State.emptyV State.setVcell; split <;> first | rfl | (split <;> rfl)

/-! ### The field that changes -/

@[simp] theorem State.slot_setSlot (s : State) (k j : Nat) (t : Strand) :
    (s.setSlot k t).slot j = if j = k then some t else s.slot j := tblGet_tblPut ..

@[simp] theorem State.slot_freeSlot (s : State) (k j : Nat) : (s.freeSlot k).slot j = if j = k then none else s.slot j :=
  tblGet_tblDel ..

@[simp] theorem State.slot_modSlot (s : State) (k j : Nat) (f : Strand → Strand) :
    (s.modSlot k f).slot j = if j = k then (s.slot k).map f else s.slot j := tblGet_tblMod ..

@[simp] theorem State.slot_modCur (s : State) (j : Nat) (f : Strand → Strand) :
    (s.modCur f).slot j = if j = s.cur then s.curStrand.map f else s.slot j := tblGet_tblMod ..

@[simp] theorem State.curStrand_modCur (s : State) (f : Strand → Strand) : (s.modCur f).curStrand = s.curStrand.map f := by
  simp [State.curStrand]

@[simp] theorem State.station_setStation (s : State) (n m : Nat) (x : Station) :
    (s.setStation n x).station m = if m = n then x else s.station m := by
  simp only [State.station, State.setStation, tblGet_tblPut]; split <;> rfl

@[simp] theorem State.station_modStation (s : State) (n m : Nat) (f : Station → Station) :
    (s.modStation n f).station m = if m = n then f (s.station n) else s.station m := by
  simp [State.modStation]

@[simp] theorem State.gridOf_modGrid (s : State) (g h : Nat) (f : Grid → Grid) :
    (s.modGrid g f).gridOf h = if h = g then (s.gridOf g).map f else s.gridOf h := tblGet_tblMod ..

@[simp] theorem State.req_modReq (s : State) (n m : Nat) (f : Req → Req) :
    (s.modReq n f).req m = if m = n then (s.req n).map f else s.req m := tblGet_tblMod ..

@[simp] theorem State.req_delReq (s : State) (n m : Nat) : (s.delReq n).req m = if m = n then none else s.req m :=
  tblGet_tblDel ..

@[simp] theorem State.req_addReq (s : State) (r : Req) (m : Nat) :
    (s.addReq r).req m = if m = s.nextId then some { r with order := s.nextId } else s.req m := tblGet_tblPut ..

@[simp] theorem State.nextId_addReq (s : State) (r : Req) : (s.addReq r).nextId = s.nextId + 1 := rfl

@[simp] theorem State.result_modResult (s : State) (n m : Nat) (f : PRes → PRes) :
    tblGet (s.modResult n f).results m = if m = n then (tblGet s.results n).map f else tblGet s.results m := tblGet_tblMod ..

@[simp] theorem State.poisonAt_setPoison (s : State) (a b k : Nat) :
    (s.setPoison a k).poisonAt b = if b / 64 = a / 64 then some k else s.poisonAt b := tblGet_tblPut ..

@[simp] theorem State.poisonAt_clearPoison (s : State) (a b : Nat) :
    (s.clearPoison a).poisonAt b = if b / 64 = a / 64 then none else s.poisonAt b := tblGet_tblDel ..

/-- An update of another table than the strands leaves the slots alone; so with stations, requests and grids. -/
theorem State.slot_congr {s u : State} (h : u.strands = s.strands) (k : Nat) : u.slot k = s.slot k := by simp [State.slot, h]
theorem State.station_congr {s u : State} (h : u.stations = s.stations) (n : Nat) : u.station n = s.station n := by
  rw [State.station, State.station, h]
theorem State.req_congr {s u : State} (h : u.reqs = s.reqs) (n : Nat) : u.req n = s.req n := by simp [State.req, h]
theorem State.gridOf_congr {s u : State} (h : u.grids = s.grids) (g : Nat) : u.gridOf g = s.gridOf g := by simp [State.gridOf, h]

end Sys2Proof.Machine
end

