-- ==== Sys2Proof/Laws/Ops.lean ====
section
/-! SUPPORT. What the shared operations do: the examination at issue and the instructions that pass it or stop there, the end of a
grid by a fault, traps, and what each leaves of home memory. -/

namespace Sys2Proof.Machine

/-! ### Issue -/

/-- An instruction whose examination passes is its effect on the executing strand. -/
theorem State.issue_of_pass {s : State} {t : Strand} {src : Nat} {e : Bool} {srcs dsts : List Opnd} {f : Strand → State}
    (ht : s.curStrand = some t) (hg : s.gate src e srcs dsts = none) : s.issue src e srcs dsts f = .next (f t) := by
  simp [State.issue, ht, hg]

/-- An instruction whose examination stops it is the state in which it stops. -/
theorem State.issue_of_stop {s u : State} {src : Nat} {e : Bool} {srcs dsts : List Opnd} {f : Strand → State}
    (hg : s.gate src e srcs dsts = some u) : s.issue src e srcs dsts f = .next u := by simp [State.issue, hg]

/-- Everything an instruction with an examination can do. -/
theorem State.issue_cases {s u : State} {src : Nat} {e : Bool} {srcs dsts : List Opnd} {f : Strand → State}
    (h : s.issue src e srcs dsts f = .next u) :
    s.gate src e srcs dsts = some u ∨ (s.gate src e srcs dsts = none ∧ ∃ t, s.curStrand = some t ∧ u = f t) := by
  cases hg : s.gate src e srcs dsts with
  | some v => rw [State.issue_of_stop hg] at h; left; simpa using h
  | none =>
    right
    cases ht : s.curStrand with
    | none => simp [State.gate, ht] at hg
    | some t => rw [State.issue_of_pass ht hg] at h; exact ⟨rfl, t, rfl, by simpa using h.symm⟩

/-- An instruction with an examination answers a next state. -/
theorem State.issue_next (s : State) (src : Nat) (e : Bool) (srcs dsts : List Opnd) (f : Strand → State) :
    ∃ u, s.issue src e srcs dsts f = .next u := ⟨_, rfl⟩

theorem State.binS_of_pass {s : State} {t : Strand} {d a b : SReg} {e : Bool} (f : Word → Word → Word)
    (ht : s.curStrand = some t) (hg : s.gate 0 e [.s a, .s b] [.s d] = none) :
    s.binS d a b e f = .next (s.putS s.cur d (f (s.sval t a) (s.sval t b))).advance := State.issue_of_pass ht hg

theorem State.unS_of_pass {s : State} {t : Strand} {d a : SReg} {e : Bool} (f : Word → Word)
    (ht : s.curStrand = some t) (hg : s.gate 0 e [.s a] [.s d] = none) :
    s.unS d a e f = .next (s.putS s.cur d (f (s.sval t a))).advance := State.issue_of_pass ht hg

/-- Everything the examination at issue can answer (R19, R32, R33, R36, R123). -/
theorem State.gate_cases {s u : State} {t : Strand} {src : Nat} {e : Bool} {srcs dsts : List Opnd}
    (ht : s.curStrand = some t) (h : s.gate src e srcs dsts = some u) :
    u = s.illegal src 4 ∨ (∃ c, u = s.fault c) ∨ (∃ k r, e = true ∧ u = s.trapPrecise (causeOf 10 src 0) k r) ∨
      (∃ x, u = s.hold x) ∨ ∃ p, u = s.faultPoison p := by
  simp only [State.gate, ht] at h
  repeat' split at h
  all_goals first
    | cases h
    | skip
  · exact .inl rfl
  · exact .inr (.inl ⟨_, rfl⟩)
  · exact .inr (.inr (.inl ⟨_, _, ‹_›, rfl⟩))
  · exact .inr (.inr (.inr (.inl ⟨_, rfl⟩)))
  · exact .inr (.inr (.inr (.inr ⟨_, rfl⟩)))
  · exact .inr (.inl ⟨_, rfl⟩)
  · exact .inr (.inr (.inr (.inl ⟨_, rfl⟩)))
  · exact .inr (.inr (.inr (.inl ⟨_, rfl⟩)))

/-! ### Writes of registers -/

@[simp] theorem State.putS_x0 (s : State) (k : Nat) (v : Word) : s.putS k (.x 0) v = s := rfl

/-- A write of an x register other than x0 changes that register of its slot alone (R28). -/
theorem State.putS_x {s : State} {k : Nat} {i : Fin 16} (h : i ≠ 0) (v : Word) :
    s.putS k (.x i) v = s.modSlot k fun t => { t with x := t.x.set i { val := v } } := by simp [State.putS, State.setScell, h]

/-- A write of a v register changes that register of its slot alone. -/
theorem State.putV_v (s : State) (k : Nat) (i : Fin 16) (v : VWord) (xr : Bool) :
    s.putV k (.v i) v xr = s.modSlot k fun t => { t with v := t.v.set i { val := v, xr := xr } } := rfl

/-- A write of a y register changes its station alone. -/
theorem State.putS_y_strands (s : State) (k : Nat) (i : Fin 16) (v : Word) : (s.putS k (.y i) v).strands = s.strands := rfl

theorem State.putS_x_stations (s : State) (k : Nat) (i : Fin 16) (v : Word) : (s.putS k (.x i) v).stations = s.stations := by
  unfold State.putS State.setScell; dsimp only; split <;> rfl

@[simp] theorem Strand.advance_of_norep {t : Strand} (h : t.rep = none) : t.advance = { t with hold := .none, pc := t.pc + 4 } := by
  simp [Strand.advance, h]

@[simp] theorem Strand.advance_hold (t : Strand) : t.advance.hold = .none := by
  unfold Strand.advance; dsimp only; repeat' split
  all_goals rfl

@[simp] theorem Strand.advance_x (t : Strand) : t.advance.x = t.x := by
  unfold Strand.advance; dsimp only; repeat' split
  all_goals rfl

@[simp] theorem Strand.advance_tag (t : Strand) : t.advance.tag = t.tag := by
  unfold Strand.advance; dsimp only; repeat' split
  all_goals rfl

/-- The advance changes the PC, the hold and the repetition alone. -/
theorem Strand.advance_frame (t : Strand) : { t.advance with pc := t.pc, hold := t.hold, rep := t.rep } = t := by
  unfold Strand.advance; dsimp only; repeat' split
  all_goals rfl

/-! ### Faults and traps leave home memory alone (R3, R288, R321) -/

@[simp] theorem State.addRecord_mem (s : State) (d : Nat) (r : Record) : (s.addRecord d r).mem = s.mem := rfl
@[simp] theorem State.addRecord_grids (s : State) (d : Nat) (r : Record) : (s.addRecord d r).grids = s.grids := rfl
@[simp] theorem State.addRecord_strands (s : State) (d : Nat) (r : Record) : (s.addRecord d r).strands = s.strands := rfl
@[simp] theorem State.dropReqs_mem (s : State) (l : List Nat) : (s.dropReqs l).mem = s.mem := rfl
@[simp] theorem State.dropReqs_strands (s : State) (l : List Nat) : (s.dropReqs l).strands = s.strands := rfl
@[simp] theorem State.dropReqs_grids (s : State) (l : List Nat) : (s.dropReqs l).grids = s.grids := rfl

/-! A reservation's grant changes the reservations and the results, and the requests as `resvGrant_reqs` says (R226, R227). -/

@[simp] theorem State.resvGrant_agenda (s : State) (k : Nat) : (s.resvGrant k).agenda = s.agenda := by
  unfold State.resvGrant; dsimp only; repeat' split
  all_goals rfl
@[simp] theorem State.resvGrant_focus (s : State) (k : Nat) : (s.resvGrant k).focus = s.focus := by
  unfold State.resvGrant; dsimp only; repeat' split
  all_goals rfl
@[simp] theorem State.resvGrant_cur (s : State) (k : Nat) : (s.resvGrant k).cur = s.cur := by
  unfold State.resvGrant; dsimp only; repeat' split
  all_goals rfl
@[simp] theorem State.resvGrant_mem (s : State) (k : Nat) : (s.resvGrant k).mem = s.mem := by
  unfold State.resvGrant; dsimp only; repeat' split
  all_goals rfl
@[simp] theorem State.resvGrant_poison (s : State) (k : Nat) : (s.resvGrant k).poison = s.poison := by
  unfold State.resvGrant; dsimp only; repeat' split
  all_goals rfl
@[simp] theorem State.resvGrant_strands (s : State) (k : Nat) : (s.resvGrant k).strands = s.strands := by
  unfold State.resvGrant; dsimp only; repeat' split
  all_goals rfl
@[simp] theorem State.resvGrant_stations (s : State) (k : Nat) : (s.resvGrant k).stations = s.stations := by
  unfold State.resvGrant; dsimp only; repeat' split
  all_goals rfl
@[simp] theorem State.resvGrant_dies (s : State) (k : Nat) : (s.resvGrant k).dies = s.dies := by
  unfold State.resvGrant; dsimp only; repeat' split
  all_goals rfl
/-- A grant to an LRW of this package with no destination, of a poisoned word, becomes a request that ends as a fault; no other
grant adds a request (R227). -/
theorem State.resvGrant_reqs (s : State) (k : Nat) :
    ((s.resvGrant k).reqs = s.reqs ∧ (s.resvGrant k).nextId = s.nextId) ∨
    ∃ r : Req, r.kind = .lrw ∧ (s.resvGrant k).reqs = tblPut s.reqs s.nextId r ∧ (s.resvGrant k).nextId = s.nextId + 1 := by
  unfold State.resvGrant; dsimp only; repeat' split
  all_goals first | exact .inl ⟨rfl, rfl⟩ | exact .inr ⟨_, rfl, rfl, rfl⟩
@[simp] theorem State.resvGrant_queueWaits (s : State) (k : Nat) : (s.resvGrant k).queueWaits = s.queueWaits := by
  unfold State.resvGrant; dsimp only; repeat' split
  all_goals rfl
@[simp] theorem State.resvGrant_proofs (s : State) (k : Nat) : (s.resvGrant k).proofs = s.proofs := by
  unfold State.resvGrant; dsimp only; repeat' split
  all_goals rfl
@[simp] theorem State.resvGrant_grids (s : State) (k : Nat) : (s.resvGrant k).grids = s.grids := by
  unfold State.resvGrant; dsimp only; repeat' split
  all_goals rfl
@[simp] theorem State.resvGrant_ctxs (s : State) (k : Nat) : (s.resvGrant k).ctxs = s.ctxs := by
  unfold State.resvGrant; dsimp only; repeat' split
  all_goals rfl
@[simp] theorem State.resvGrant_queues (s : State) (k : Nat) : (s.resvGrant k).queues = s.queues := by
  unfold State.resvGrant; dsimp only; repeat' split
  all_goals rfl
@[simp] theorem State.resvGrant_saved (s : State) (k : Nat) : (s.resvGrant k).saved = s.saved := by
  unfold State.resvGrant; dsimp only; repeat' split
  all_goals rfl
@[simp] theorem State.resvGrant_transit (s : State) (k : Nat) : (s.resvGrant k).transit = s.transit := by
  unfold State.resvGrant; dsimp only; repeat' split
  all_goals rfl
@[simp] theorem State.resvGrant_guest (s : State) (k : Nat) : (s.resvGrant k).guest = s.guest := by
  unfold State.resvGrant; dsimp only; repeat' split
  all_goals rfl
@[simp] theorem State.resvGrant_shards (s : State) (k : Nat) : (s.resvGrant k).shards = s.shards := by
  unfold State.resvGrant; dsimp only; repeat' split
  all_goals rfl
@[simp] theorem State.resvGrant_fw (s : State) (k : Nat) : (s.resvGrant k).fw = s.fw := by
  unfold State.resvGrant; dsimp only; repeat' split
  all_goals rfl
@[simp] theorem State.resvGrant_windows (s : State) (k : Nat) : (s.resvGrant k).windows = s.windows := by
  unfold State.resvGrant; dsimp only; repeat' split
  all_goals rfl
@[simp] theorem State.resvGrant_atomics (s : State) (k : Nat) : (s.resvGrant k).atomics = s.atomics := by
  unfold State.resvGrant; dsimp only; repeat' split
  all_goals rfl
@[simp] theorem State.resvGrant_pcie (s : State) (k : Nat) : (s.resvGrant k).pcie = s.pcie := by
  unfold State.resvGrant; dsimp only; repeat' split
  all_goals rfl
@[simp] theorem State.resvGrant_boot (s : State) (k : Nat) : (s.resvGrant k).boot = s.boot := by
  unfold State.resvGrant; dsimp only; repeat' split
  all_goals rfl
@[simp] theorem State.resvGrant_cfg (s : State) (k : Nat) : (s.resvGrant k).cfg = s.cfg := by
  unfold State.resvGrant; dsimp only; repeat' split
  all_goals rfl
@[simp] theorem State.resvGrant_walkers (s : State) (k : Nat) : (s.resvGrant k).walkers = s.walkers := by
  unfold State.resvGrant; dsimp only; repeat' split
  all_goals rfl
@[simp] theorem State.resvGrant_rescue (s : State) (k : Nat) : (s.resvGrant k).rescue = s.rescue := by
  unfold State.resvGrant; dsimp only; repeat' split
  all_goals rfl
@[simp] theorem State.resvGrant_clock (s : State) (k : Nat) : (s.resvGrant k).clock = s.clock := by
  unfold State.resvGrant; dsimp only; repeat' split
  all_goals rfl
@[simp] theorem State.resvGrant_nextTag (s : State) (k : Nat) : (s.resvGrant k).nextTag = s.nextTag := by
  unfold State.resvGrant; dsimp only; repeat' split
  all_goals rfl
@[simp] theorem State.resvGrant_nextAge (s : State) (k : Nat) : (s.resvGrant k).nextAge = s.nextAge := by
  unfold State.resvGrant; dsimp only; repeat' split
  all_goals rfl
@[simp] theorem State.resvGrant_cfgSpace (s : State) (k : Nat) : (s.resvGrant k).cfgSpace = s.cfgSpace := by
  unfold State.resvGrant; dsimp only; repeat' split
  all_goals rfl
@[simp] theorem State.resvGrant_awayEnded (s : State) (k : Nat) : (s.resvGrant k).awayEnded = s.awayEnded := by
  unfold State.resvGrant; dsimp only; repeat' split
  all_goals rfl
@[simp] theorem State.resvGrant_bar4 (s : State) (k : Nat) : (s.resvGrant k).bar4 = s.bar4 := by
  unfold State.resvGrant; dsimp only; repeat' split
  all_goals rfl
@[simp] theorem State.resvGrant_sliceRows (s : State) (k : Nat) : (s.resvGrant k).sliceRows = s.sliceRows := by
  unfold State.resvGrant; dsimp only; repeat' split
  all_goals rfl
@[simp] theorem State.resvGrant_powerLimit (s : State) (k : Nat) : (s.resvGrant k).powerLimit = s.powerLimit := by
  unfold State.resvGrant; dsimp only; repeat' split
  all_goals rfl
@[simp] theorem State.resvGrant_powerOver (s : State) (k : Nat) : (s.resvGrant k).powerOver = s.powerOver := by
  unfold State.resvGrant; dsimp only; repeat' split
  all_goals rfl
/-- The answers to LRWs that a home gives up change the String alone (R226). -/
theorem State.answerGone_frame (s : State) (gone : List LWaiter) :
    ∃ l, s.answerGone gone = { s with string := s.string ++ l } := by
  induction gone generalizing s with
  | nil => exact ⟨[], by simp [State.answerGone]⟩
  | cons w t ih =>
    cases hw : w.from_ with
    | none => simpa [State.answerGone, hw] using ih s
    | some f =>
      obtain ⟨l, h⟩ := ih (s.reply f 0 0)
      exact ⟨_ :: l, by simpa [State.answerGone, hw, State.reply] using h⟩

@[simp] theorem State.answerGone_agenda (s : State) (l : List LWaiter) : (s.answerGone l).agenda = s.agenda := by
  obtain ⟨_, h⟩ := s.answerGone_frame l; rw [h]
@[simp] theorem State.answerGone_focus (s : State) (l : List LWaiter) : (s.answerGone l).focus = s.focus := by
  obtain ⟨_, h⟩ := s.answerGone_frame l; rw [h]
@[simp] theorem State.answerGone_cur (s : State) (l : List LWaiter) : (s.answerGone l).cur = s.cur := by
  obtain ⟨_, h⟩ := s.answerGone_frame l; rw [h]
@[simp] theorem State.answerGone_mem (s : State) (l : List LWaiter) : (s.answerGone l).mem = s.mem := by
  obtain ⟨_, h⟩ := s.answerGone_frame l; rw [h]
@[simp] theorem State.answerGone_poison (s : State) (l : List LWaiter) : (s.answerGone l).poison = s.poison := by
  obtain ⟨_, h⟩ := s.answerGone_frame l; rw [h]
@[simp] theorem State.answerGone_strands (s : State) (l : List LWaiter) : (s.answerGone l).strands = s.strands := by
  obtain ⟨_, h⟩ := s.answerGone_frame l; rw [h]
@[simp] theorem State.answerGone_stations (s : State) (l : List LWaiter) : (s.answerGone l).stations = s.stations := by
  obtain ⟨_, h⟩ := s.answerGone_frame l; rw [h]
@[simp] theorem State.answerGone_dies (s : State) (l : List LWaiter) : (s.answerGone l).dies = s.dies := by
  obtain ⟨_, h⟩ := s.answerGone_frame l; rw [h]
@[simp] theorem State.answerGone_reqs (s : State) (l : List LWaiter) : (s.answerGone l).reqs = s.reqs := by
  obtain ⟨_, h⟩ := s.answerGone_frame l; rw [h]
@[simp] theorem State.answerGone_queueWaits (s : State) (l : List LWaiter) : (s.answerGone l).queueWaits = s.queueWaits := by
  obtain ⟨_, h⟩ := s.answerGone_frame l; rw [h]
@[simp] theorem State.answerGone_proofs (s : State) (l : List LWaiter) : (s.answerGone l).proofs = s.proofs := by
  obtain ⟨_, h⟩ := s.answerGone_frame l; rw [h]
@[simp] theorem State.answerGone_grids (s : State) (l : List LWaiter) : (s.answerGone l).grids = s.grids := by
  obtain ⟨_, h⟩ := s.answerGone_frame l; rw [h]
@[simp] theorem State.answerGone_ctxs (s : State) (l : List LWaiter) : (s.answerGone l).ctxs = s.ctxs := by
  obtain ⟨_, h⟩ := s.answerGone_frame l; rw [h]
@[simp] theorem State.answerGone_queues (s : State) (l : List LWaiter) : (s.answerGone l).queues = s.queues := by
  obtain ⟨_, h⟩ := s.answerGone_frame l; rw [h]
@[simp] theorem State.answerGone_saved (s : State) (l : List LWaiter) : (s.answerGone l).saved = s.saved := by
  obtain ⟨_, h⟩ := s.answerGone_frame l; rw [h]
@[simp] theorem State.answerGone_transit (s : State) (l : List LWaiter) : (s.answerGone l).transit = s.transit := by
  obtain ⟨_, h⟩ := s.answerGone_frame l; rw [h]
@[simp] theorem State.answerGone_guest (s : State) (l : List LWaiter) : (s.answerGone l).guest = s.guest := by
  obtain ⟨_, h⟩ := s.answerGone_frame l; rw [h]
@[simp] theorem State.answerGone_shards (s : State) (l : List LWaiter) : (s.answerGone l).shards = s.shards := by
  obtain ⟨_, h⟩ := s.answerGone_frame l; rw [h]
@[simp] theorem State.answerGone_fw (s : State) (l : List LWaiter) : (s.answerGone l).fw = s.fw := by
  obtain ⟨_, h⟩ := s.answerGone_frame l; rw [h]
@[simp] theorem State.answerGone_windows (s : State) (l : List LWaiter) : (s.answerGone l).windows = s.windows := by
  obtain ⟨_, h⟩ := s.answerGone_frame l; rw [h]
@[simp] theorem State.answerGone_atomics (s : State) (l : List LWaiter) : (s.answerGone l).atomics = s.atomics := by
  obtain ⟨_, h⟩ := s.answerGone_frame l; rw [h]
@[simp] theorem State.answerGone_pcie (s : State) (l : List LWaiter) : (s.answerGone l).pcie = s.pcie := by
  obtain ⟨_, h⟩ := s.answerGone_frame l; rw [h]
@[simp] theorem State.answerGone_boot (s : State) (l : List LWaiter) : (s.answerGone l).boot = s.boot := by
  obtain ⟨_, h⟩ := s.answerGone_frame l; rw [h]
@[simp] theorem State.answerGone_cfg (s : State) (l : List LWaiter) : (s.answerGone l).cfg = s.cfg := by
  obtain ⟨_, h⟩ := s.answerGone_frame l; rw [h]
@[simp] theorem State.answerGone_walkers (s : State) (l : List LWaiter) : (s.answerGone l).walkers = s.walkers := by
  obtain ⟨_, h⟩ := s.answerGone_frame l; rw [h]
@[simp] theorem State.answerGone_rescue (s : State) (l : List LWaiter) : (s.answerGone l).rescue = s.rescue := by
  obtain ⟨_, h⟩ := s.answerGone_frame l; rw [h]
@[simp] theorem State.answerGone_clock (s : State) (l : List LWaiter) : (s.answerGone l).clock = s.clock := by
  obtain ⟨_, h⟩ := s.answerGone_frame l; rw [h]
@[simp] theorem State.answerGone_nextId (s : State) (l : List LWaiter) : (s.answerGone l).nextId = s.nextId := by
  obtain ⟨_, h⟩ := s.answerGone_frame l; rw [h]
@[simp] theorem State.answerGone_nextTag (s : State) (l : List LWaiter) : (s.answerGone l).nextTag = s.nextTag := by
  obtain ⟨_, h⟩ := s.answerGone_frame l; rw [h]
@[simp] theorem State.answerGone_nextAge (s : State) (l : List LWaiter) : (s.answerGone l).nextAge = s.nextAge := by
  obtain ⟨_, h⟩ := s.answerGone_frame l; rw [h]
@[simp] theorem State.answerGone_cfgSpace (s : State) (l : List LWaiter) : (s.answerGone l).cfgSpace = s.cfgSpace := by
  obtain ⟨_, h⟩ := s.answerGone_frame l; rw [h]
@[simp] theorem State.answerGone_results (s : State) (l : List LWaiter) : (s.answerGone l).results = s.results := by
  obtain ⟨_, h⟩ := s.answerGone_frame l; rw [h]
@[simp] theorem State.answerGone_resv (s : State) (l : List LWaiter) : (s.answerGone l).resv = s.resv := by
  obtain ⟨_, h⟩ := s.answerGone_frame l; rw [h]

@[simp] theorem State.resvEnd_agenda (s : State) (g : Nat) (l : List Nat) : (s.resvEnd g l).agenda = s.agenda := by
  induction l generalizing s with
  | nil => rfl
  | cons k t ih => unfold State.resvEnd; dsimp only; rw [ih]; (repeat' split) <;> simp
@[simp] theorem State.resvEnd_focus (s : State) (g : Nat) (l : List Nat) : (s.resvEnd g l).focus = s.focus := by
  induction l generalizing s with
  | nil => rfl
  | cons k t ih => unfold State.resvEnd; dsimp only; rw [ih]; (repeat' split) <;> simp
@[simp] theorem State.resvEnd_cur (s : State) (g : Nat) (l : List Nat) : (s.resvEnd g l).cur = s.cur := by
  induction l generalizing s with
  | nil => rfl
  | cons k t ih => unfold State.resvEnd; dsimp only; rw [ih]; (repeat' split) <;> simp
@[simp] theorem State.resvEnd_mem (s : State) (g : Nat) (l : List Nat) : (s.resvEnd g l).mem = s.mem := by
  induction l generalizing s with
  | nil => rfl
  | cons k t ih => unfold State.resvEnd; dsimp only; rw [ih]; (repeat' split) <;> simp
@[simp] theorem State.resvEnd_poison (s : State) (g : Nat) (l : List Nat) : (s.resvEnd g l).poison = s.poison := by
  induction l generalizing s with
  | nil => rfl
  | cons k t ih => unfold State.resvEnd; dsimp only; rw [ih]; (repeat' split) <;> simp
@[simp] theorem State.resvEnd_strands (s : State) (g : Nat) (l : List Nat) : (s.resvEnd g l).strands = s.strands := by
  induction l generalizing s with
  | nil => rfl
  | cons k t ih => unfold State.resvEnd; dsimp only; rw [ih]; (repeat' split) <;> simp
@[simp] theorem State.resvEnd_stations (s : State) (g : Nat) (l : List Nat) : (s.resvEnd g l).stations = s.stations := by
  induction l generalizing s with
  | nil => rfl
  | cons k t ih => unfold State.resvEnd; dsimp only; rw [ih]; (repeat' split) <;> simp
@[simp] theorem State.resvEnd_dies (s : State) (g : Nat) (l : List Nat) : (s.resvEnd g l).dies = s.dies := by
  induction l generalizing s with
  | nil => rfl
  | cons k t ih => unfold State.resvEnd; dsimp only; rw [ih]; (repeat' split) <;> simp
@[simp] theorem State.resvEnd_queueWaits (s : State) (g : Nat) (l : List Nat) : (s.resvEnd g l).queueWaits = s.queueWaits := by
  induction l generalizing s with
  | nil => rfl
  | cons k t ih => unfold State.resvEnd; dsimp only; rw [ih]; (repeat' split) <;> simp
@[simp] theorem State.resvEnd_proofs (s : State) (g : Nat) (l : List Nat) : (s.resvEnd g l).proofs = s.proofs := by
  induction l generalizing s with
  | nil => rfl
  | cons k t ih => unfold State.resvEnd; dsimp only; rw [ih]; (repeat' split) <;> simp
@[simp] theorem State.resvEnd_grids (s : State) (g : Nat) (l : List Nat) : (s.resvEnd g l).grids = s.grids := by
  induction l generalizing s with
  | nil => rfl
  | cons k t ih => unfold State.resvEnd; dsimp only; rw [ih]; (repeat' split) <;> simp
@[simp] theorem State.resvEnd_ctxs (s : State) (g : Nat) (l : List Nat) : (s.resvEnd g l).ctxs = s.ctxs := by
  induction l generalizing s with
  | nil => rfl
  | cons k t ih => unfold State.resvEnd; dsimp only; rw [ih]; (repeat' split) <;> simp
@[simp] theorem State.resvEnd_queues (s : State) (g : Nat) (l : List Nat) : (s.resvEnd g l).queues = s.queues := by
  induction l generalizing s with
  | nil => rfl
  | cons k t ih => unfold State.resvEnd; dsimp only; rw [ih]; (repeat' split) <;> simp
@[simp] theorem State.resvEnd_saved (s : State) (g : Nat) (l : List Nat) : (s.resvEnd g l).saved = s.saved := by
  induction l generalizing s with
  | nil => rfl
  | cons k t ih => unfold State.resvEnd; dsimp only; rw [ih]; (repeat' split) <;> simp
@[simp] theorem State.resvEnd_transit (s : State) (g : Nat) (l : List Nat) : (s.resvEnd g l).transit = s.transit := by
  induction l generalizing s with
  | nil => rfl
  | cons k t ih => unfold State.resvEnd; dsimp only; rw [ih]; (repeat' split) <;> simp
@[simp] theorem State.resvEnd_guest (s : State) (g : Nat) (l : List Nat) : (s.resvEnd g l).guest = s.guest := by
  induction l generalizing s with
  | nil => rfl
  | cons k t ih => unfold State.resvEnd; dsimp only; rw [ih]; (repeat' split) <;> simp
@[simp] theorem State.resvEnd_shards (s : State) (g : Nat) (l : List Nat) : (s.resvEnd g l).shards = s.shards := by
  induction l generalizing s with
  | nil => rfl
  | cons k t ih => unfold State.resvEnd; dsimp only; rw [ih]; (repeat' split) <;> simp
@[simp] theorem State.resvEnd_fw (s : State) (g : Nat) (l : List Nat) : (s.resvEnd g l).fw = s.fw := by
  induction l generalizing s with
  | nil => rfl
  | cons k t ih => unfold State.resvEnd; dsimp only; rw [ih]; (repeat' split) <;> simp
@[simp] theorem State.resvEnd_windows (s : State) (g : Nat) (l : List Nat) : (s.resvEnd g l).windows = s.windows := by
  induction l generalizing s with
  | nil => rfl
  | cons k t ih => unfold State.resvEnd; dsimp only; rw [ih]; (repeat' split) <;> simp
@[simp] theorem State.resvEnd_atomics (s : State) (g : Nat) (l : List Nat) : (s.resvEnd g l).atomics = s.atomics := by
  induction l generalizing s with
  | nil => rfl
  | cons k t ih => unfold State.resvEnd; dsimp only; rw [ih]; (repeat' split) <;> simp
@[simp] theorem State.resvEnd_pcie (s : State) (g : Nat) (l : List Nat) : (s.resvEnd g l).pcie = s.pcie := by
  induction l generalizing s with
  | nil => rfl
  | cons k t ih => unfold State.resvEnd; dsimp only; rw [ih]; (repeat' split) <;> simp
@[simp] theorem State.resvEnd_boot (s : State) (g : Nat) (l : List Nat) : (s.resvEnd g l).boot = s.boot := by
  induction l generalizing s with
  | nil => rfl
  | cons k t ih => unfold State.resvEnd; dsimp only; rw [ih]; (repeat' split) <;> simp
@[simp] theorem State.resvEnd_cfg (s : State) (g : Nat) (l : List Nat) : (s.resvEnd g l).cfg = s.cfg := by
  induction l generalizing s with
  | nil => rfl
  | cons k t ih => unfold State.resvEnd; dsimp only; rw [ih]; (repeat' split) <;> simp
@[simp] theorem State.resvEnd_walkers (s : State) (g : Nat) (l : List Nat) : (s.resvEnd g l).walkers = s.walkers := by
  induction l generalizing s with
  | nil => rfl
  | cons k t ih => unfold State.resvEnd; dsimp only; rw [ih]; (repeat' split) <;> simp
@[simp] theorem State.resvEnd_rescue (s : State) (g : Nat) (l : List Nat) : (s.resvEnd g l).rescue = s.rescue := by
  induction l generalizing s with
  | nil => rfl
  | cons k t ih => unfold State.resvEnd; dsimp only; rw [ih]; (repeat' split) <;> simp
@[simp] theorem State.resvEnd_clock (s : State) (g : Nat) (l : List Nat) : (s.resvEnd g l).clock = s.clock := by
  induction l generalizing s with
  | nil => rfl
  | cons k t ih => unfold State.resvEnd; dsimp only; rw [ih]; (repeat' split) <;> simp
@[simp] theorem State.resvEnd_nextTag (s : State) (g : Nat) (l : List Nat) : (s.resvEnd g l).nextTag = s.nextTag := by
  induction l generalizing s with
  | nil => rfl
  | cons k t ih => unfold State.resvEnd; dsimp only; rw [ih]; (repeat' split) <;> simp
@[simp] theorem State.resvEnd_nextAge (s : State) (g : Nat) (l : List Nat) : (s.resvEnd g l).nextAge = s.nextAge := by
  induction l generalizing s with
  | nil => rfl
  | cons k t ih => unfold State.resvEnd; dsimp only; rw [ih]; (repeat' split) <;> simp
@[simp] theorem State.resvEnd_cfgSpace (s : State) (g : Nat) (l : List Nat) : (s.resvEnd g l).cfgSpace = s.cfgSpace := by
  induction l generalizing s with
  | nil => rfl
  | cons k t ih => unfold State.resvEnd; dsimp only; rw [ih]; (repeat' split) <;> simp

/-- Asking again for page kinds only adds requests. -/
@[simp] theorem State.reask_mem (s : State) (l : List (Nat × Nat)) : (s.reask l).mem = s.mem := by
  induction l generalizing s with
  | nil => rfl
  | cons p t ih => unfold State.reask; dsimp only; rw [ih]; (repeat' split) <;> rfl
@[simp] theorem State.reask_grids (s : State) (l : List (Nat × Nat)) : (s.reask l).grids = s.grids := by
  induction l generalizing s with
  | nil => rfl
  | cons p t ih => unfold State.reask; dsimp only; rw [ih]; (repeat' split) <;> rfl
@[simp] theorem State.reask_cur (s : State) (l : List (Nat × Nat)) : (s.reask l).cur = s.cur := by
  induction l generalizing s with
  | nil => rfl
  | cons p t ih => unfold State.reask; dsimp only; rw [ih]; (repeat' split) <;> rfl
@[simp] theorem State.reask_cfg (s : State) (l : List (Nat × Nat)) : (s.reask l).cfg = s.cfg := by
  induction l generalizing s with
  | nil => rfl
  | cons p t ih => unfold State.reask; dsimp only; rw [ih]; (repeat' split) <;> rfl
@[simp] theorem State.reask_focus (s : State) (l : List (Nat × Nat)) : (s.reask l).focus = s.focus := by
  induction l generalizing s with
  | nil => rfl
  | cons p t ih => unfold State.reask; dsimp only; rw [ih]; (repeat' split) <;> rfl
@[simp] theorem State.reask_strands (s : State) (l : List (Nat × Nat)) : (s.reask l).strands = s.strands := by
  induction l generalizing s with
  | nil => rfl
  | cons p t ih => unfold State.reask; dsimp only; rw [ih]; (repeat' split) <;> rfl

/-- The end of a grid's parts leaves home memory, the grids and the firmware alone; its strands leave their slots. -/
@[simp] theorem State.stopGrid_mem (s : State) (g : Nat) : (s.stopGrid g).mem = s.mem := by
  unfold State.stopGrid; dsimp only; rw [State.resvEnd_mem, State.reask_mem]; rfl
@[simp] theorem State.stopGrid_grids (s : State) (g : Nat) : (s.stopGrid g).grids = s.grids := by
  unfold State.stopGrid; dsimp only; rw [State.resvEnd_grids, State.reask_grids]; rfl
@[simp] theorem State.stopGrid_strands (s : State) (g : Nat) :
    (s.stopGrid g).strands = s.strands.filter fun e => e.2.grid != g := by
  unfold State.stopGrid; dsimp only; rw [State.resvEnd_strands, State.reask_strands]; rfl
@[simp] theorem State.stopGrid_cur (s : State) (g : Nat) : (s.stopGrid g).cur = s.cur := by
  unfold State.stopGrid; dsimp only; rw [State.resvEnd_cur, State.reask_cur]; rfl
@[simp] theorem State.stopGrid_cfg (s : State) (g : Nat) : (s.stopGrid g).cfg = s.cfg := by
  unfold State.stopGrid; dsimp only; rw [State.resvEnd_cfg, State.reask_cfg]; rfl
@[simp] theorem State.stopGrid_focus (s : State) (g : Nat) : (s.stopGrid g).focus = s.focus := by
  unfold State.stopGrid; dsimp only; rw [State.resvEnd_focus, State.reask_focus]; rfl

/-- A fault of a grid, in its four cases (R288, R400, R401). -/
theorem State.faultGrid_cases (s : State) (g : Nat) (code : Cause) (kind : Fin 5) (master : Fin 8) (k : Nat) (pc addr aux : Word) :
    let d := dieOf (stationOf k)
    let u := s.faultGrid g code kind master k pc addr aux
    let r := s.slotRecord k code kind master g pc addr aux
    (s.gridOf g = none ∧ u = s.addRecord d r) ∨
    (∃ gr, s.gridOf g = some gr ∧ gr.st = .faulted ∧ u = s) ∨
    (∃ gr, s.gridOf g = some gr ∧ gr.st = .ending ∧ u = s.modDie d fun x => { x with lateflt := x.lateflt + 1 }) ∨
    (∃ gr, s.gridOf g = some gr ∧ ¬ (gr.st = .ending ∨ gr.st = .faulted) ∧
      u = ((s.addRecord d r).modGrid g fun gr => { gr with st := .ending, cause := code, addr := addr }).stopGrid g) := by
  dsimp only
  unfold State.faultGrid
  cases h : s.gridOf g with
  | none => exact .inl ⟨rfl, rfl⟩
  | some gr =>
    by_cases hf : gr.st = .faulted
    · exact .inr (.inl ⟨gr, rfl, hf, if_pos hf⟩)
    · by_cases he : gr.st = .ending
      · exact .inr (.inr (.inl ⟨gr, rfl, he, by simp [he]⟩))
      · exact .inr (.inr (.inr ⟨gr, rfl, by simp [hf, he], by simp [hf, he]⟩))

@[simp] theorem State.faultGrid_mem (s : State) (g : Nat) (code : Cause) (kind : Fin 5) (master : Fin 8) (k : Nat)
    (pc addr aux : Word) : (s.faultGrid g code kind master k pc addr aux).mem = s.mem := by
  obtain ⟨_, h⟩ | ⟨_, _, _, h⟩ | ⟨_, _, _, h⟩ | ⟨_, _, _, h⟩ := s.faultGrid_cases g code kind master k pc addr aux <;> rw [h] <;> simp

@[simp] theorem State.faultGrid_focus (s : State) (g : Nat) (code : Cause) (kind : Fin 5) (master : Fin 8) (k : Nat)
    (pc addr aux : Word) : (s.faultGrid g code kind master k pc addr aux).focus = s.focus := by
  obtain ⟨_, h⟩ | ⟨_, _, _, h⟩ | ⟨_, _, _, h⟩ | ⟨_, _, _, h⟩ := s.faultGrid_cases g code kind master k pc addr aux <;> rw [h] <;> simp [State.addRecord]

@[simp] theorem State.faultCur_mem (s : State) (code : Cause) (kind : Fin 5) (addr aux : Word) :
    (s.faultCur code kind addr aux).mem = s.mem := by
  unfold State.faultCur; dsimp only; repeat' split
  all_goals simp

@[simp] theorem State.fault_mem (s : State) (code : Cause) : (s.fault code).mem = s.mem := State.faultCur_mem ..
@[simp] theorem State.faultAt_mem (s : State) (code : Cause) (a : Word) : (s.faultAt code a).mem = s.mem := State.faultCur_mem ..
@[simp] theorem State.illegal_mem (s : State) (a b : Nat) : (s.illegal a b).mem = s.mem := State.faultCur_mem ..

@[simp] theorem State.faultPoison_mem (s : State) (p : Poison) : (s.faultPoison p).mem = s.mem := by
  unfold State.faultPoison; dsimp only; repeat' split
  all_goals simp

@[simp] theorem State.trapAt_mem (s : State) (k : Nat) (code : Cause) (kind reg : Nat) (a : Word) :
    (s.trapAt k code kind reg a).mem = s.mem := by
  unfold State.trapAt; repeat' split
  all_goals simp

@[simp] theorem State.trapPrecise_mem (s : State) (code : Cause) (kind reg : Nat) : (s.trapPrecise code kind reg).mem = s.mem := by
  unfold State.trapPrecise; repeat' split
  all_goals simp

/-- A precise trap outside a handler, with one installed, is the entry of the executing strand alone (R321). -/
theorem State.trapPrecise_entry {s : State} {t : Strand} (code : Cause) (kind reg : Nat) (ht : s.curStrand = some t)
    (hi : t.intrap = false) (hv : t.utvec ≠ 0) :
    s.trapPrecise code kind reg = s.setSlot s.cur (t.enterTrap code kind reg t.pc) := by
  simp only [State.trapPrecise, ht, hi, Bool.false_eq_true, if_false, State.trapAt]
  rw [show s.slot s.cur = some t from ht]
  exact if_neg hv

/-- The examination at issue changes no byte of home memory. -/
theorem State.gate_mem {s u : State} {t : Strand} {src : Nat} {e : Bool} {srcs dsts : List Opnd} (ht : s.curStrand = some t)
    (h : s.gate src e srcs dsts = some u) : u.mem = s.mem := by
  obtain h | ⟨_, h⟩ | ⟨_, _, _, h⟩ | ⟨_, h⟩ | ⟨_, h⟩ := State.gate_cases ht h <;> rw [h] <;> simp

end Sys2Proof.Machine
end

