-- ==== Sys2Proof/Laws/PerInstr.lean ====
section
/-! SUPPORT. One lemma per constructor: an instruction has a word, and an event has none. -/

namespace Sys2Proof.Laws.Encodes

/-- The encoder answers for the instructions, and for them alone. -/
def Statement (i : Instr) : Prop := (encode i).isSome = i.isWord

theorem add (d : SReg) (a : SReg) (b : SReg) (e : Bool) : Statement (.add d a b e) := rfl
theorem sub (d : SReg) (a : SReg) (b : SReg) (e : Bool) : Statement (.sub d a b e) := rfl
theorem and (d : SReg) (a : SReg) (b : SReg) (e : Bool) : Statement (.and d a b e) := rfl
theorem or (d : SReg) (a : SReg) (b : SReg) (e : Bool) : Statement (.or d a b e) := rfl
theorem xor (d : SReg) (a : SReg) (b : SReg) (e : Bool) : Statement (.xor d a b e) := rfl
theorem sll (d : SReg) (a : SReg) (b : SReg) (e : Bool) : Statement (.sll d a b e) := rfl
theorem srl (d : SReg) (a : SReg) (b : SReg) (e : Bool) : Statement (.srl d a b e) := rfl
theorem sra (d : SReg) (a : SReg) (b : SReg) (e : Bool) : Statement (.sra d a b e) := rfl
theorem slt (d : SReg) (a : SReg) (b : SReg) (e : Bool) : Statement (.slt d a b e) := rfl
theorem sltu (d : SReg) (a : SReg) (b : SReg) (e : Bool) : Statement (.sltu d a b e) := rfl
theorem min (d : SReg) (a : SReg) (b : SReg) (e : Bool) : Statement (.min d a b e) := rfl
theorem max (d : SReg) (a : SReg) (b : SReg) (e : Bool) : Statement (.max d a b e) := rfl
theorem minu (d : SReg) (a : SReg) (b : SReg) (e : Bool) : Statement (.minu d a b e) := rfl
theorem maxu (d : SReg) (a : SReg) (b : SReg) (e : Bool) : Statement (.maxu d a b e) := rfl
theorem clz (d : SReg) (a : SReg) (e : Bool) : Statement (.clz d a e) := rfl
theorem ctz (d : SReg) (a : SReg) (e : Bool) : Statement (.ctz d a e) := rfl
theorem popc (d : SReg) (a : SReg) (e : Bool) : Statement (.popc d a e) := rfl
theorem sextB (d : SReg) (a : SReg) (e : Bool) : Statement (.sextB d a e) := rfl
theorem sextH (d : SReg) (a : SReg) (e : Bool) : Statement (.sextH d a e) := rfl
theorem sextW (d : SReg) (a : SReg) (e : Bool) : Statement (.sextW d a e) := rfl
theorem zextB (d : SReg) (a : SReg) (e : Bool) : Statement (.zextB d a e) := rfl
theorem zextH (d : SReg) (a : SReg) (e : Bool) : Statement (.zextH d a e) := rfl
theorem zextW (d : SReg) (a : SReg) (e : Bool) : Statement (.zextW d a e) := rfl
theorem sel (d : SReg) (a : SReg) (b : SReg) (e : Bool) : Statement (.sel d a b e) := rfl
theorem addW (d : SReg) (a : SReg) (b : SReg) (e : Bool) : Statement (.addW d a b e) := rfl
theorem subW (d : SReg) (a : SReg) (b : SReg) (e : Bool) : Statement (.subW d a b e) := rfl
theorem andW (d : SReg) (a : SReg) (b : SReg) (e : Bool) : Statement (.andW d a b e) := rfl
theorem orW (d : SReg) (a : SReg) (b : SReg) (e : Bool) : Statement (.orW d a b e) := rfl
theorem xorW (d : SReg) (a : SReg) (b : SReg) (e : Bool) : Statement (.xorW d a b e) := rfl
theorem sllW (d : SReg) (a : SReg) (b : SReg) (e : Bool) : Statement (.sllW d a b e) := rfl
theorem srlW (d : SReg) (a : SReg) (b : SReg) (e : Bool) : Statement (.srlW d a b e) := rfl
theorem sraW (d : SReg) (a : SReg) (b : SReg) (e : Bool) : Statement (.sraW d a b e) := rfl
theorem sltW (d : SReg) (a : SReg) (b : SReg) (e : Bool) : Statement (.sltW d a b e) := rfl
theorem sltuW (d : SReg) (a : SReg) (b : SReg) (e : Bool) : Statement (.sltuW d a b e) := rfl
theorem minW (d : SReg) (a : SReg) (b : SReg) (e : Bool) : Statement (.minW d a b e) := rfl
theorem maxW (d : SReg) (a : SReg) (b : SReg) (e : Bool) : Statement (.maxW d a b e) := rfl
theorem minuW (d : SReg) (a : SReg) (b : SReg) (e : Bool) : Statement (.minuW d a b e) := rfl
theorem maxuW (d : SReg) (a : SReg) (b : SReg) (e : Bool) : Statement (.maxuW d a b e) := rfl
theorem clzW (d : SReg) (a : SReg) (e : Bool) : Statement (.clzW d a e) := rfl
theorem ctzW (d : SReg) (a : SReg) (e : Bool) : Statement (.ctzW d a e) := rfl
theorem popcW (d : SReg) (a : SReg) (e : Bool) : Statement (.popcW d a e) := rfl
theorem mul (d : SReg) (a : SReg) (b : SReg) (e : Bool) : Statement (.mul d a b e) := rfl
theorem mulh (d : SReg) (a : SReg) (b : SReg) (e : Bool) : Statement (.mulh d a b e) := rfl
theorem mulhu (d : SReg) (a : SReg) (b : SReg) (e : Bool) : Statement (.mulhu d a b e) := rfl
theorem div (d : SReg) (a : SReg) (b : SReg) (e : Bool) : Statement (.div d a b e) := rfl
theorem divu (d : SReg) (a : SReg) (b : SReg) (e : Bool) : Statement (.divu d a b e) := rfl
theorem rem (d : SReg) (a : SReg) (b : SReg) (e : Bool) : Statement (.rem d a b e) := rfl
theorem remu (d : SReg) (a : SReg) (b : SReg) (e : Bool) : Statement (.remu d a b e) := rfl
theorem mulW (d : SReg) (a : SReg) (b : SReg) (e : Bool) : Statement (.mulW d a b e) := rfl
theorem mulhW (d : SReg) (a : SReg) (b : SReg) (e : Bool) : Statement (.mulhW d a b e) := rfl
theorem mulhuW (d : SReg) (a : SReg) (b : SReg) (e : Bool) : Statement (.mulhuW d a b e) := rfl
theorem divW (d : SReg) (a : SReg) (b : SReg) (e : Bool) : Statement (.divW d a b e) := rfl
theorem divuW (d : SReg) (a : SReg) (b : SReg) (e : Bool) : Statement (.divuW d a b e) := rfl
theorem remW (d : SReg) (a : SReg) (b : SReg) (e : Bool) : Statement (.remW d a b e) := rfl
theorem remuW (d : SReg) (a : SReg) (b : SReg) (e : Bool) : Statement (.remuW d a b e) := rfl
theorem addi (d : SReg) (a : SReg) (imm : BitVec 15) (e : Bool) : Statement (.addi d a imm e) := rfl
theorem andi (d : SReg) (a : SReg) (imm : BitVec 15) (e : Bool) : Statement (.andi d a imm e) := rfl
theorem ori (d : SReg) (a : SReg) (imm : BitVec 15) (e : Bool) : Statement (.ori d a imm e) := rfl
theorem xori (d : SReg) (a : SReg) (imm : BitVec 15) (e : Bool) : Statement (.xori d a imm e) := rfl
theorem slti (d : SReg) (a : SReg) (imm : BitVec 15) (e : Bool) : Statement (.slti d a imm e) := rfl
theorem sltiu (d : SReg) (a : SReg) (imm : BitVec 15) (e : Bool) : Statement (.sltiu d a imm e) := rfl
theorem slli (d : SReg) (a : SReg) (sh : BitVec 6) (e : Bool) : Statement (.slli d a sh e) := rfl
theorem srli (d : SReg) (a : SReg) (sh : BitVec 6) (e : Bool) : Statement (.srli d a sh e) := rfl
theorem srai (d : SReg) (a : SReg) (sh : BitVec 6) (e : Bool) : Statement (.srai d a sh e) := rfl
theorem slliW (d : SReg) (a : SReg) (sh : BitVec 5) (e : Bool) : Statement (.slliW d a sh e) := rfl
theorem srliW (d : SReg) (a : SReg) (sh : BitVec 5) (e : Bool) : Statement (.srliW d a sh e) := rfl
theorem sraiW (d : SReg) (a : SReg) (sh : BitVec 5) (e : Bool) : Statement (.sraiW d a sh e) := rfl
theorem lui (d : SReg) (imm : BitVec 20) (e : Bool) : Statement (.lui d imm e) := rfl
theorem auipc (d : SReg) (imm : BitVec 20) (e : Bool) : Statement (.auipc d imm e) := rfl
theorem beq (a : SReg) (b : SReg) (off : BitVec 15) (e : Bool) : Statement (.beq a b off e) := rfl
theorem bne (a : SReg) (b : SReg) (off : BitVec 15) (e : Bool) : Statement (.bne a b off e) := rfl
theorem blt (a : SReg) (b : SReg) (off : BitVec 15) (e : Bool) : Statement (.blt a b off e) := rfl
theorem bge (a : SReg) (b : SReg) (off : BitVec 15) (e : Bool) : Statement (.bge a b off e) := rfl
theorem bltu (a : SReg) (b : SReg) (off : BitVec 15) (e : Bool) : Statement (.bltu a b off e) := rfl
theorem bgeu (a : SReg) (b : SReg) (off : BitVec 15) (e : Bool) : Statement (.bgeu a b off e) := rfl
theorem jal (d : SReg) (off : BitVec 21) : Statement (.jal d off) := rfl
theorem jalr (d : SReg) (a : SReg) (imm : BitVec 15) (e : Bool) : Statement (.jalr d a imm e) := rfl
theorem bpredAny (p : PReg) (off : BitVec 15) (e : Bool) : Statement (.bpredAny p off e) := rfl
theorem bpredAll (p : PReg) (off : BitVec 15) (e : Bool) : Statement (.bpredAll p off e) := rfl
theorem bpredNone (p : PReg) (off : BitVec 15) (e : Bool) : Statement (.bpredNone p off e) := rfl
theorem bpredNall (p : PReg) (off : BitVec 15) (e : Bool) : Statement (.bpredNall p off e) := rfl
theorem ld (sz : LdSize) (d : SReg) (a : SReg) (imm : BitVec 12) (e : Bool) : Statement (.ld sz d a imm e) := rfl
theorem st (sz : Size) (d : SReg) (a : SReg) (imm : BitVec 12) (e : Bool) : Statement (.st sz d a imm e) := rfl
theorem ldl (sz : Size) (d : SReg) (a : SReg) (imm : BitVec 12) (e : Bool) : Statement (.ldl sz d a imm e) := rfl
theorem stl (sz : Size) (d : SReg) (a : SReg) (imm : BitVec 12) (e : Bool) : Statement (.stl sz d a imm e) := rfl
theorem phaseR (sc : Scope) (e : Bool) : Statement (.phaseR sc e) := rfl
theorem phaseA (sc : Scope) (e : Bool) : Statement (.phaseA sc e) := rfl
theorem phaseRa (sc : Scope) (e : Bool) : Statement (.phaseRa sc e) := rfl
theorem qfence (m : BitVec 4) (e : Bool) : Statement (.qfence m e) := rfl
theorem fencei (e : Bool) : Statement (.fencei e) := rfl
theorem prefL1 (a : SReg) (e : Bool) : Statement (.prefL1 a e) := rfl
theorem prefHome (a : SReg) (e : Bool) : Statement (.prefHome a e) := rfl
theorem amoadd (dbl : Bool) (d : SReg) (a : SReg) (b : SReg) (e : Bool) : Statement (.amoadd dbl d a b e) := rfl
theorem amoand (dbl : Bool) (d : SReg) (a : SReg) (b : SReg) (e : Bool) : Statement (.amoand dbl d a b e) := rfl
theorem amoor (dbl : Bool) (d : SReg) (a : SReg) (b : SReg) (e : Bool) : Statement (.amoor dbl d a b e) := rfl
theorem amoxor (dbl : Bool) (d : SReg) (a : SReg) (b : SReg) (e : Bool) : Statement (.amoxor dbl d a b e) := rfl
theorem amomin (dbl : Bool) (d : SReg) (a : SReg) (b : SReg) (e : Bool) : Statement (.amomin dbl d a b e) := rfl
theorem amomax (dbl : Bool) (d : SReg) (a : SReg) (b : SReg) (e : Bool) : Statement (.amomax dbl d a b e) := rfl
theorem amominu (dbl : Bool) (d : SReg) (a : SReg) (b : SReg) (e : Bool) : Statement (.amominu dbl d a b e) := rfl
theorem amomaxu (dbl : Bool) (d : SReg) (a : SReg) (b : SReg) (e : Bool) : Statement (.amomaxu dbl d a b e) := rfl
theorem amoswap (dbl : Bool) (d : SReg) (a : SReg) (b : SReg) (e : Bool) : Statement (.amoswap dbl d a b e) := rfl
theorem amocas (dbl : Bool) (d : SReg) (a : SReg) (b : SReg) (e : Bool) : Statement (.amocas dbl d a b e) := rfl
theorem amofadd32 (d : SReg) (a : SReg) (b : SReg) (e : Bool) : Statement (.amofadd32 d a b e) := rfl
theorem amofxadd (d : SReg) (a : SReg) (b : SReg) (e : Bool) : Statement (.amofxadd d a b e) := rfl
theorem lrw (d : SReg) (a : SReg) (e : Bool) : Statement (.lrw d a e) := rfl
theorem sch (a : SReg) (b : SReg) (e : Bool) : Statement (.sch a b e) := rfl
theorem rrel (a : SReg) (e : Bool) : Statement (.rrel a e) := rfl
theorem enq (d : SReg) (a : SReg) (b : VReg) (e : Bool) : Statement (.enq d a b e) := rfl
theorem deq (d : VReg) (a : SReg) (e : Bool) : Statement (.deq d a e) := rfl
theorem enqNw (d : SReg) (a : SReg) (b : VReg) (e : Bool) : Statement (.enqNw d a b e) := rfl
theorem deqNw (d : VReg) (a : SReg) (e : Bool) : Statement (.deqNw d a e) := rfl
theorem prpub (a : SReg) (b : SReg) (e : Bool) : Statement (.prpub a b e) := rfl
theorem prwait (a : SReg) (e : Bool) : Statement (.prwait a e) := rfl
theorem prtest (d : SReg) (a : SReg) (e : Bool) : Statement (.prtest d a e) := rfl
theorem prtake (d : SReg) (a : SReg) (e : Bool) : Statement (.prtake d a e) := rfl
theorem prgen (d : SReg) (a : SReg) (b : SReg) (e : Bool) : Statement (.prgen d a b e) := rfl
theorem prarm (d : SReg) (a : SReg) (b : SReg) (e : Bool) : Statement (.prarm d a b e) := rfl
theorem vadd (ty : ITy) (vd : VReg) (va : VReg) (vb : VReg) (pg : PReg) (e : Bool) : Statement (.vadd ty vd va vb pg e) := rfl
theorem vsub (ty : ITy) (vd : VReg) (va : VReg) (vb : VReg) (pg : PReg) (e : Bool) : Statement (.vsub ty vd va vb pg e) := rfl
theorem vmul (ty : ITy) (vd : VReg) (va : VReg) (vb : VReg) (pg : PReg) (e : Bool) : Statement (.vmul ty vd va vb pg e) := rfl
theorem vmulh (ty : ITy) (vd : VReg) (va : VReg) (vb : VReg) (pg : PReg) (e : Bool) : Statement (.vmulh ty vd va vb pg e) := rfl
theorem vmad (ty : ITy) (vd : VReg) (va : VReg) (vb : VReg) (pg : PReg) (e : Bool) : Statement (.vmad ty vd va vb pg e) := rfl
theorem vmin (ty : ITy) (vd : VReg) (va : VReg) (vb : VReg) (pg : PReg) (e : Bool) : Statement (.vmin ty vd va vb pg e) := rfl
theorem vmax (ty : ITy) (vd : VReg) (va : VReg) (vb : VReg) (pg : PReg) (e : Bool) : Statement (.vmax ty vd va vb pg e) := rfl
theorem vand (ty : ITy) (vd : VReg) (va : VReg) (vb : VReg) (pg : PReg) (e : Bool) : Statement (.vand ty vd va vb pg e) := rfl
theorem vor (ty : ITy) (vd : VReg) (va : VReg) (vb : VReg) (pg : PReg) (e : Bool) : Statement (.vor ty vd va vb pg e) := rfl
theorem vxor (ty : ITy) (vd : VReg) (va : VReg) (vb : VReg) (pg : PReg) (e : Bool) : Statement (.vxor ty vd va vb pg e) := rfl
theorem vsll (ty : ITy) (vd : VReg) (va : VReg) (vb : VReg) (pg : PReg) (e : Bool) : Statement (.vsll ty vd va vb pg e) := rfl
theorem vsrl (ty : ITy) (vd : VReg) (va : VReg) (vb : VReg) (pg : PReg) (e : Bool) : Statement (.vsrl ty vd va vb pg e) := rfl
theorem vsra (ty : ITy) (vd : VReg) (va : VReg) (vb : VReg) (pg : PReg) (e : Bool) : Statement (.vsra ty vd va vb pg e) := rfl
theorem vabs (ty : ITy) (vd : VReg) (va : VReg) (pg : PReg) (e : Bool) : Statement (.vabs ty vd va pg e) := rfl
theorem vneg (ty : ITy) (vd : VReg) (va : VReg) (pg : PReg) (e : Bool) : Statement (.vneg ty vd va pg e) := rfl
theorem vaddVs (ty : ITy) (vd : VReg) (va : VReg) (b : SReg) (pg : PReg) (e : Bool) : Statement (.vaddVs ty vd va b pg e) := rfl
theorem vsubVs (ty : ITy) (vd : VReg) (va : VReg) (b : SReg) (pg : PReg) (e : Bool) : Statement (.vsubVs ty vd va b pg e) := rfl
theorem vmulVs (ty : ITy) (vd : VReg) (va : VReg) (b : SReg) (pg : PReg) (e : Bool) : Statement (.vmulVs ty vd va b pg e) := rfl
theorem vmulhVs (ty : ITy) (vd : VReg) (va : VReg) (b : SReg) (pg : PReg) (e : Bool) : Statement (.vmulhVs ty vd va b pg e) := rfl
theorem vmadVs (ty : ITy) (vd : VReg) (va : VReg) (b : SReg) (pg : PReg) (e : Bool) : Statement (.vmadVs ty vd va b pg e) := rfl
theorem vminVs (ty : ITy) (vd : VReg) (va : VReg) (b : SReg) (pg : PReg) (e : Bool) : Statement (.vminVs ty vd va b pg e) := rfl
theorem vmaxVs (ty : ITy) (vd : VReg) (va : VReg) (b : SReg) (pg : PReg) (e : Bool) : Statement (.vmaxVs ty vd va b pg e) := rfl
theorem vandVs (ty : ITy) (vd : VReg) (va : VReg) (b : SReg) (pg : PReg) (e : Bool) : Statement (.vandVs ty vd va b pg e) := rfl
theorem vorVs (ty : ITy) (vd : VReg) (va : VReg) (b : SReg) (pg : PReg) (e : Bool) : Statement (.vorVs ty vd va b pg e) := rfl
theorem vxorVs (ty : ITy) (vd : VReg) (va : VReg) (b : SReg) (pg : PReg) (e : Bool) : Statement (.vxorVs ty vd va b pg e) := rfl
theorem vsllVs (ty : ITy) (vd : VReg) (va : VReg) (b : SReg) (pg : PReg) (e : Bool) : Statement (.vsllVs ty vd va b pg e) := rfl
theorem vsrlVs (ty : ITy) (vd : VReg) (va : VReg) (b : SReg) (pg : PReg) (e : Bool) : Statement (.vsrlVs ty vd va b pg e) := rfl
theorem vsraVs (ty : ITy) (vd : VReg) (va : VReg) (b : SReg) (pg : PReg) (e : Bool) : Statement (.vsraVs ty vd va b pg e) := rfl
theorem vaddVi (ty : ITy) (vd : VReg) (va : VReg) (imm : BitVec 5) (pg : PReg) (e : Bool) : Statement (.vaddVi ty vd va imm pg e) := rfl
theorem vsubVi (ty : ITy) (vd : VReg) (va : VReg) (imm : BitVec 5) (pg : PReg) (e : Bool) : Statement (.vsubVi ty vd va imm pg e) := rfl
theorem vmulVi (ty : ITy) (vd : VReg) (va : VReg) (imm : BitVec 5) (pg : PReg) (e : Bool) : Statement (.vmulVi ty vd va imm pg e) := rfl
theorem vmulhVi (ty : ITy) (vd : VReg) (va : VReg) (imm : BitVec 5) (pg : PReg) (e : Bool) : Statement (.vmulhVi ty vd va imm pg e) := rfl
theorem vmadVi (ty : ITy) (vd : VReg) (va : VReg) (imm : BitVec 5) (pg : PReg) (e : Bool) : Statement (.vmadVi ty vd va imm pg e) := rfl
theorem vminVi (ty : ITy) (vd : VReg) (va : VReg) (imm : BitVec 5) (pg : PReg) (e : Bool) : Statement (.vminVi ty vd va imm pg e) := rfl
theorem vmaxVi (ty : ITy) (vd : VReg) (va : VReg) (imm : BitVec 5) (pg : PReg) (e : Bool) : Statement (.vmaxVi ty vd va imm pg e) := rfl
theorem vandVi (ty : ITy) (vd : VReg) (va : VReg) (imm : BitVec 5) (pg : PReg) (e : Bool) : Statement (.vandVi ty vd va imm pg e) := rfl
theorem vorVi (ty : ITy) (vd : VReg) (va : VReg) (imm : BitVec 5) (pg : PReg) (e : Bool) : Statement (.vorVi ty vd va imm pg e) := rfl
theorem vxorVi (ty : ITy) (vd : VReg) (va : VReg) (imm : BitVec 5) (pg : PReg) (e : Bool) : Statement (.vxorVi ty vd va imm pg e) := rfl
theorem vsllVi (ty : ITy) (vd : VReg) (va : VReg) (imm : BitVec 5) (pg : PReg) (e : Bool) : Statement (.vsllVi ty vd va imm pg e) := rfl
theorem vsrlVi (ty : ITy) (vd : VReg) (va : VReg) (imm : BitVec 5) (pg : PReg) (e : Bool) : Statement (.vsrlVi ty vd va imm pg e) := rfl
theorem vsraVi (ty : ITy) (vd : VReg) (va : VReg) (imm : BitVec 5) (pg : PReg) (e : Bool) : Statement (.vsraVi ty vd va imm pg e) := rfl
theorem fadd (ty : FTy) (vd : VReg) (va : VReg) (vb : VReg) (pg : PReg) (e : Bool) : Statement (.fadd ty vd va vb pg e) := rfl
theorem fsub (ty : FTy) (vd : VReg) (va : VReg) (vb : VReg) (pg : PReg) (e : Bool) : Statement (.fsub ty vd va vb pg e) := rfl
theorem fmul (ty : FTy) (vd : VReg) (va : VReg) (vb : VReg) (pg : PReg) (e : Bool) : Statement (.fmul ty vd va vb pg e) := rfl
theorem fma (ty : FTy) (vd : VReg) (va : VReg) (vb : VReg) (pg : PReg) (e : Bool) : Statement (.fma ty vd va vb pg e) := rfl
theorem fmin (ty : FTy) (vd : VReg) (va : VReg) (vb : VReg) (pg : PReg) (e : Bool) : Statement (.fmin ty vd va vb pg e) := rfl
theorem fmax (ty : FTy) (vd : VReg) (va : VReg) (vb : VReg) (pg : PReg) (e : Bool) : Statement (.fmax ty vd va vb pg e) := rfl
theorem fabs (ty : FTy) (vd : VReg) (va : VReg) (pg : PReg) (e : Bool) : Statement (.fabs ty vd va pg e) := rfl
theorem fneg (ty : FTy) (vd : VReg) (va : VReg) (pg : PReg) (e : Bool) : Statement (.fneg ty vd va pg e) := rfl
theorem faddVs (ty : FTy) (vd : VReg) (va : VReg) (b : SReg) (pg : PReg) (e : Bool) : Statement (.faddVs ty vd va b pg e) := rfl
theorem fsubVs (ty : FTy) (vd : VReg) (va : VReg) (b : SReg) (pg : PReg) (e : Bool) : Statement (.fsubVs ty vd va b pg e) := rfl
theorem fmulVs (ty : FTy) (vd : VReg) (va : VReg) (b : SReg) (pg : PReg) (e : Bool) : Statement (.fmulVs ty vd va b pg e) := rfl
theorem fmaVs (ty : FTy) (vd : VReg) (va : VReg) (b : SReg) (pg : PReg) (e : Bool) : Statement (.fmaVs ty vd va b pg e) := rfl
theorem fminVs (ty : FTy) (vd : VReg) (va : VReg) (b : SReg) (pg : PReg) (e : Bool) : Statement (.fminVs ty vd va b pg e) := rfl
theorem fmaxVs (ty : FTy) (vd : VReg) (va : VReg) (b : SReg) (pg : PReg) (e : Bool) : Statement (.fmaxVs ty vd va b pg e) := rfl
theorem vcmpEq (ty : ITy) (pd : PReg) (va : VReg) (vb : VReg) (pg : PReg) (e : Bool) : Statement (.vcmpEq ty pd va vb pg e) := rfl
theorem vcmpNe (ty : ITy) (pd : PReg) (va : VReg) (vb : VReg) (pg : PReg) (e : Bool) : Statement (.vcmpNe ty pd va vb pg e) := rfl
theorem vcmpLt (ty : ITy) (pd : PReg) (va : VReg) (vb : VReg) (pg : PReg) (e : Bool) : Statement (.vcmpLt ty pd va vb pg e) := rfl
theorem vcmpLe (ty : ITy) (pd : PReg) (va : VReg) (vb : VReg) (pg : PReg) (e : Bool) : Statement (.vcmpLe ty pd va vb pg e) := rfl
theorem vcmpLtu (ty : ITy) (pd : PReg) (va : VReg) (vb : VReg) (pg : PReg) (e : Bool) : Statement (.vcmpLtu ty pd va vb pg e) := rfl
theorem vcmpLeu (ty : ITy) (pd : PReg) (va : VReg) (vb : VReg) (pg : PReg) (e : Bool) : Statement (.vcmpLeu ty pd va vb pg e) := rfl
theorem fcmpEq (ty : FTy) (pd : PReg) (va : VReg) (vb : VReg) (pg : PReg) (e : Bool) : Statement (.fcmpEq ty pd va vb pg e) := rfl
theorem fcmpNe (ty : FTy) (pd : PReg) (va : VReg) (vb : VReg) (pg : PReg) (e : Bool) : Statement (.fcmpNe ty pd va vb pg e) := rfl
theorem fcmpLt (ty : FTy) (pd : PReg) (va : VReg) (vb : VReg) (pg : PReg) (e : Bool) : Statement (.fcmpLt ty pd va vb pg e) := rfl
theorem fcmpLe (ty : FTy) (pd : PReg) (va : VReg) (vb : VReg) (pg : PReg) (e : Bool) : Statement (.fcmpLe ty pd va vb pg e) := rfl
theorem fcmpUn (ty : FTy) (pd : PReg) (va : VReg) (vb : VReg) (pg : PReg) (e : Bool) : Statement (.fcmpUn ty pd va vb pg e) := rfl
theorem vsel (ty : ETy) (vd : VReg) (va : VReg) (vb : VReg) (pg : PReg) (e : Bool) : Statement (.vsel ty vd va vb pg e) := rfl
theorem vmov (ty : ETy) (vd : VReg) (va : VReg) (pg : PReg) (e : Bool) : Statement (.vmov ty vd va pg e) := rfl
theorem vbcast (ty : ETy) (vd : VReg) (a : SReg) (pg : PReg) (e : Bool) : Statement (.vbcast ty vd a pg e) := rfl
theorem vext (ty : ETy) (d : SReg) (va : VReg) (b : SReg) (e : Bool) : Statement (.vext ty d va b e) := rfl
theorem vperm (ty : ITy) (vd : VReg) (va : VReg) (vb : VReg) (pg : PReg) (e : Bool) : Statement (.vperm ty vd va vb pg e) := rfl
theorem vzip (ty : ETy) (vd : VReg) (va : VReg) (vb : VReg) (pg : PReg) (e : Bool) : Statement (.vzip ty vd va vb pg e) := rfl
theorem vuzp (ty : ETy) (vd : VReg) (va : VReg) (vb : VReg) (pg : PReg) (e : Bool) : Statement (.vuzp ty vd va vb pg e) := rfl
theorem vslideUp (ty : ETy) (vd : VReg) (va : VReg) (b : SReg) (pg : PReg) (e : Bool) : Statement (.vslideUp ty vd va b pg e) := rfl
theorem vslideDn (ty : ETy) (vd : VReg) (va : VReg) (b : SReg) (pg : PReg) (e : Bool) : Statement (.vslideDn ty vd va b pg e) := rfl
theorem vbcasthBf16 (vd : VReg) (imm : BitVec 16) (e : Bool) : Statement (.vbcasthBf16 vd imm e) := rfl
theorem vbcasthF32 (vd : VReg) (imm : BitVec 16) (e : Bool) : Statement (.vbcasthF32 vd imm e) := rfl
theorem vld (ty : ETy) (vd : VReg) (a : SReg) (b : SReg) (pg : PReg) (e : Bool) : Statement (.vld ty vd a b pg e) := rfl
theorem vst (ty : ETy) (vd : VReg) (a : SReg) (b : SReg) (pg : PReg) (e : Bool) : Statement (.vst ty vd a b pg e) := rfl
theorem vlds (ty : ETy) (vd : VReg) (a : SReg) (b : SReg) (pg : PReg) (e : Bool) : Statement (.vlds ty vd a b pg e) := rfl
theorem vsts (ty : ETy) (vd : VReg) (a : SReg) (b : SReg) (pg : PReg) (e : Bool) : Statement (.vsts ty vd a b pg e) := rfl
theorem vgath (ty : ETy) (vd : VReg) (a : SReg) (vb : VReg) (pg : PReg) (e : Bool) : Statement (.vgath ty vd a vb pg e) := rfl
theorem vscat (ty : ETy) (vd : VReg) (a : SReg) (vb : VReg) (pg : PReg) (e : Bool) : Statement (.vscat ty vd a vb pg e) := rfl
theorem vcvt (dty : ETy) (sty : ETy) (rs : RSel) (vd : VReg) (va : VReg) (pg : PReg) (e : Bool) : Statement (.vcvt dty sty rs vd va pg e) := rfl
theorem vqnt (sty : FTy) (rs : RSel) (vd : VReg) (va : VReg) (pg : PReg) (e : Bool) : Statement (.vqnt sty rs vd va pg e) := rfl
theorem vqps (fmt : PsFmt) (sty : FTy) (rs : RSel) (vd : VReg) (va : VReg) (pg : PReg) (e : Bool) : Statement (.vqps fmt sty rs vd va pg e) := rfl
theorem vdq (dty : FTy) (fmt : DqFmt) (rs : RSel) (vd : VReg) (va : VReg) (pg : PReg) (e : Bool) : Statement (.vdq dty fmt rs vd va pg e) := rfl
theorem vhad32 (ty : ETy) (vd : VReg) (va : VReg) (m : BitVec 5) (pg : PReg) (e : Bool) : Statement (.vhad32 ty vd va m pg e) := rfl
theorem vmaxx (ty : ETy) (vd : VReg) (va : VReg) (k : BitVec 5) (pg : PReg) (e : Bool) : Statement (.vmaxx ty vd va k pg e) := rfl
theorem vunpk5 (vd : VReg) (va : VReg) (h : BitVec 4) (pg : PReg) (e : Bool) : Statement (.vunpk5 vd va h pg e) := rfl
theorem vpack5 (vd : VReg) (va : VReg) (h : BitVec 4) (pg : PReg) (e : Bool) : Statement (.vpack5 vd va h pg e) := rfl
theorem vsfu (fn : SfuFn) (ty : FTy) (vd : VReg) (va : VReg) (pg : PReg) (e : Bool) : Statement (.vsfu fn ty vd va pg e) := rfl
theorem vred (op : RedOp) (ty : ETy) (vd : VReg) (va : VReg) (pg : PReg) (e : Bool) : Statement (.vred op ty vd va pg e) := rfl
theorem vwhile (ty : ETy) (pd : PReg) (a : SReg) (b : SReg) (e : Bool) : Statement (.vwhile ty pd a b e) := rfl
theorem vwidth (ty : ETy) (d : SReg) (e : Bool) : Statement (.vwidth ty d e) := rfl
theorem vrep (a : SReg) (l : BitVec 4) (e : Bool) : Statement (.vrep a l e) := rfl
theorem pand (pd : PReg) (pa : PReg) (pb : PReg) (pg : PReg) (e : Bool) : Statement (.pand pd pa pb pg e) := rfl
theorem por (pd : PReg) (pa : PReg) (pb : PReg) (pg : PReg) (e : Bool) : Statement (.por pd pa pb pg e) := rfl
theorem pxor (pd : PReg) (pa : PReg) (pb : PReg) (pg : PReg) (e : Bool) : Statement (.pxor pd pa pb pg e) := rfl
theorem pnot (pd : PReg) (pa : PReg) (pg : PReg) (e : Bool) : Statement (.pnot pd pa pg e) := rfl
theorem pcnt (ty : ETy) (d : SReg) (pa : PReg) (pg : PReg) (e : Bool) : Statement (.pcnt ty d pa pg e) := rfl
theorem pfirst (ty : ETy) (pd : PReg) (pa : PReg) (pg : PReg) (e : Bool) : Statement (.pfirst ty pd pa pg e) := rfl
theorem mcfg (a : SReg) (e : Bool) : Statement (.mcfg a e) := rfl
theorem mldwT64 (sla : Bool) (tr : Bool) (a : SReg) (e : Bool) : Statement (.mldwT64 sla tr a e) := rfl
theorem mldwC64 (sla : Bool) (tr : Bool) (a : SReg) (e : Bool) : Statement (.mldwC64 sla tr a e) := rfl
theorem mstep (a : VReg) (b : VReg) (g : Fin 8) (e : Bool) : Statement (.mstep a b g e) := rfl
theorem mzero (back : Bool) (e : Bool) : Statement (.mzero back e) := rfl
theorem mswapL (e : Bool) : Statement (.mswapL e) := rfl
theorem mswapA (e : Bool) : Statement (.mswapA e) := rfl
theorem mswapLa (e : Bool) : Statement (.mswapLa e) := rfl
theorem mdrain (fmt : DrainFmt) (k : Compl) (back : Bool) (a : SReg) (b : SReg) (c : SReg) (e : Bool) : Statement (.mdrain fmt k back a b c e) := rfl
theorem mstat (sel : Fin 7) (a : SReg) (b : SReg) (e : Bool) : Statement (.mstat sel a b e) := rfl
theorem mwait (e : Bool) : Statement (.mwait e) := rfl
theorem pbind (q : Fin 8) (a : SReg) (b : SReg) (e : Bool) : Statement (.pbind q a b e) := rfl
theorem punbind (q : Fin 8) (e : Bool) : Statement (.punbind q e) := rfl
theorem pstat (a : SReg) (q : Fin 8) (e : Bool) : Statement (.pstat a q e) := rfl
theorem pskip (q : Fin 8) (a : SReg) (e : Bool) : Statement (.pskip q a e) := rfl
theorem cpy (k : Compl) (a : SReg) (b : SReg) (c : SReg) (e : Bool) : Statement (.cpy k a b c e) := rfl
theorem cpyt (k : Compl) (a : SReg) (b : SReg) (c : SReg) (e : Bool) : Statement (.cpyt k a b c e) := rfl
theorem cpyd (k : Compl) (a : SReg) (b : SReg) (c : SReg) (e : Bool) : Statement (.cpyd k a b c e) := rfl
theorem cpys (k : Compl) (a : SReg) (b : SReg) (c : SReg) (e : Bool) : Statement (.cpys k a b c e) := rfl
theorem spawn (d : SReg) (a : SReg) (e : Bool) : Statement (.spawn d a e) := rfl
theorem spawnl (d : SReg) (a : SReg) (e : Bool) : Statement (.spawnl d a e) := rfl
theorem migrate (a : SReg) (e : Bool) : Statement (.migrate a e) := rfl
theorem yield (e : Bool) : Statement (.yield e) := rfl
theorem sleep (e : Bool) : Statement (.sleep e) := rfl
theorem cbar (e : Bool) : Statement (.cbar e) := rfl
theorem exit (e : Bool) : Statement (.exit e) := rfl
theorem msend (a : SReg) (b : SReg) (e : Bool) : Statement (.msend a b e) := rfl
theorem mrecv (d : SReg) (a : SReg) (e : Bool) : Statement (.mrecv d a e) := rfl
theorem rqpush (d : SReg) (a : SReg) (b : SReg) (e : Bool) : Statement (.rqpush d a b e) := rfl
theorem rqpop (d : SReg) (a : SReg) (e : Bool) : Statement (.rqpop d a e) := rfl
theorem tmrset (d : SReg) (a : SReg) (e : Bool) : Statement (.tmrset d a e) := rfl
theorem csrr (d : SReg) (csr : BitVec 10) (e : Bool) : Statement (.csrr d csr e) := rfl
theorem csrw (d : SReg) (a : SReg) (csr : BitVec 10) (e : Bool) : Statement (.csrw d a csr e) := rfl
theorem csrs (d : SReg) (a : SReg) (csr : BitVec 10) (e : Bool) : Statement (.csrs d a csr e) := rfl
theorem csrc (d : SReg) (a : SReg) (csr : BitVec 10) (e : Bool) : Statement (.csrc d a csr e) := rfl
theorem uret (e : Bool) : Statement (.uret e) := rfl
theorem trapu (n : BitVec 6) (e : Bool) : Statement (.trapu n e) := rfl
theorem svc (d : SReg) (a : SReg) (n : BitVec 10) (e : Bool) : Statement (.svc d a n e) := rfl
theorem sret (d : SReg) (a : SReg) (e : Bool) : Statement (.sret d a e) := rfl
theorem dtinvPage (a : SReg) (e : Bool) : Statement (.dtinvPage a e) := rfl
theorem dtinvCtx (a : SReg) (e : Bool) : Statement (.dtinvCtx a e) := rfl
theorem dtinvAll (a : SReg) (e : Bool) : Statement (.dtinvAll a e) := rfl
theorem dtrep (d : SReg) (e : Bool) : Statement (.dtrep d e) := rfl
theorem dtrepFail (d : SReg) (a : SReg) (e : Bool) : Statement (.dtrepFail d a e) := rfl
theorem dtqry (sel : BitVec 2) (d : SReg) (a : SReg) (e : Bool) : Statement (.dtqry sel d a e) := rfl
theorem spls (d : SReg) (a : SReg) (e : Bool) : Statement (.spls d a e) := rfl
theorem splr (d : SReg) (a : SReg) (e : Bool) : Statement (.splr d a e) := rfl
theorem freeze (a : SReg) (e : Bool) : Statement (.freeze a e) := rfl
theorem thaw (a : SReg) (e : Bool) : Statement (.thaw a e) := rfl
theorem rgnw (d : SReg) (a : SReg) (i : BitVec 6) (e : Bool) : Statement (.rgnw d a i e) := rfl
theorem puw (d : SReg) (a : SReg) (i : BitVec 4) (e : Bool) : Statement (.puw d a i e) := rfl
theorem commit (d : SReg) (a : SReg) (e : Bool) : Statement (.commit d a e) := rfl
theorem illegalInstruction (cause : Cause) : Statement (.illegalInstruction cause) := rfl
theorem userTrapEntry : Statement (.userTrapEntry) := rfl
theorem timerFire (slot : Nat) : Statement (.timerFire slot) := rfl
theorem resultArrive (res : Nat) : Statement (.resultArrive res) := rfl
theorem storeMerge (station : Nat) (line : Nat) : Statement (.storeMerge station line) := rfl
theorem mergeAtHome (req : Nat) : Statement (.mergeAtHome req) := rfl
theorem fillAtHome (req : Nat) : Statement (.fillAtHome req) := rfl
theorem phaseReleaseComplete (slot : Nat) : Statement (.phaseReleaseComplete slot) := rfl
theorem kindQueryReply (req : Nat) : Statement (.kindQueryReply req) := rfl
theorem hostWindowWriteSend (station : Nat) : Statement (.hostWindowWriteSend station) := rfl
theorem bankAmoPerform (req : Nat) : Statement (.bankAmoPerform req) := rfl
theorem bankLrw (req : Nat) : Statement (.bankLrw req) := rfl
theorem bankSch (req : Nat) : Statement (.bankSch req) := rfl
theorem bankRrel (req : Nat) : Statement (.bankRrel req) := rfl
theorem bankEnq (req : Nat) : Statement (.bankEnq req) := rfl
theorem bankDeq (req : Nat) : Statement (.bankDeq req) := rfl
theorem waiterRecordFree (slice : Nat) : Statement (.waiterRecordFree slice) := rfl
theorem proofPublishAtHome (req : Nat) : Statement (.proofPublishAtHome req) := rfl
theorem proofWaitAtHome (req : Nat) : Statement (.proofWaitAtHome req) := rfl
theorem proofTakeAtHome (req : Nat) : Statement (.proofTakeAtHome req) := rfl
theorem proofTestAtHome (req : Nat) : Statement (.proofTestAtHome req) := rfl
theorem proofReply (req : Nat) : Statement (.proofReply req) := rfl
theorem vsfuServe (station : Nat) : Statement (.vsfuServe station) := rfl
theorem readStreamFetch (slot : Nat) (port : Fin 8) : Statement (.readStreamFetch slot port) := rfl
theorem writeStreamSend (slot : Nat) (port : Fin 8) : Statement (.writeStreamSend slot port) := rfl
theorem channelWordArrive (slot : Nat) (port : Fin 8) : Statement (.channelWordArrive slot port) := rfl
theorem mcfgPerform (station : Nat) : Statement (.mcfgPerform station) := rfl
theorem mstepPerform (station : Nat) : Statement (.mstepPerform station) := rfl
theorem mzeroPerform (station : Nat) : Statement (.mzeroPerform station) := rfl
theorem mswapPerform (station : Nat) : Statement (.mswapPerform station) := rfl
theorem mldwLoadDone (slot : Nat) : Statement (.mldwLoadDone slot) := rfl
theorem mdrainCapture (station : Nat) : Statement (.mdrainCapture station) := rfl
theorem mdrainWriteDone (station : Nat) : Statement (.mdrainWriteDone station) := rfl
theorem mstatPerform (station : Nat) : Statement (.mstatPerform station) := rfl
theorem cpyPerform (station : Nat) : Statement (.cpyPerform station) := rfl
theorem cpytPerform (station : Nat) : Statement (.cpytPerform station) := rfl
theorem cpydPerform (station : Nat) : Statement (.cpydPerform station) := rfl
theorem cpysPerform (station : Nat) : Statement (.cpysPerform station) := rfl
theorem copyCompletion (station : Nat) : Statement (.copyCompletion station) := rfl
theorem mailboxAccept (station : Nat) : Statement (.mailboxAccept station) := rfl
theorem migrateArrive (tag : Nat) : Statement (.migrateArrive tag) := rfl
theorem runQueueDispatch (station : Nat) : Statement (.runQueueDispatch station) := rfl
theorem launchUnitAccept (req : Nat) : Statement (.launchUnitAccept req) := rfl
theorem queueTailWrite (q : Nat) (value : Word) : Statement (.queueTailWrite q value) := rfl
theorem queueReset (q : Nat) : Statement (.queueReset q) := rfl
theorem queueDisable (q : Nat) : Statement (.queueDisable q) := rfl
theorem queueEnable (q : Nat) : Statement (.queueEnable q) := rfl
theorem registerWrite (func : Nat) (off : Nat) (value : Word) : Statement (.registerWrite func off value) := rfl
theorem launch (q : Nat) (ids : List Nat) : Statement (.launch q ids) := rfl
theorem launchp (q : Nat) (ids : List Nat) : Statement (.launchp q ids) := rfl
theorem callib (q : Nat) : Statement (.callib q) := rfl
theorem signal (q : Nat) : Statement (.signal q) := rfl
theorem wait (q : Nat) : Statement (.wait q) := rfl
theorem waitSignalPoll (q : Nat) : Statement (.waitSignalPoll q) := rfl
theorem waitConditionMet (q : Nat) : Statement (.waitConditionMet q) := rfl
theorem copy (q : Nat) : Statement (.copy q) := rfl
theorem loadshard (q : Nat) : Statement (.loadshard q) := rfl
theorem commandComplete (q : Nat) (cmd : Nat) : Statement (.commandComplete q cmd) := rfl
theorem coursePlace (die : Nat) : Statement (.coursePlace die) := rfl
theorem chordArmed (grid : Nat) (chord : Nat) : Statement (.chordArmed grid chord) := rfl
theorem chordDispatch (die : Nat) : Statement (.chordDispatch die) := rfl
theorem chordEnd (station : Nat) : Statement (.chordEnd station) := rfl
theorem gridComplete (grid : Nat) : Statement (.gridComplete grid) := rfl
theorem gridFaulted (grid : Nat) : Statement (.gridFaulted grid) := rfl
theorem slotSpill (slot : Nat) : Statement (.slotSpill slot) := rfl
theorem chordSpill (station : Nat) : Statement (.chordSpill station) := rfl
theorem chordRestore (station : Nat) : Statement (.chordRestore station) := rfl
theorem rescueCheck (die : Nat) : Statement (.rescueCheck die) := rfl
theorem waitforWalk (die : Nat) : Statement (.waitforWalk die) := rfl
theorem thermalSlotChange (slot : Nat) (disable : Bool) (cooler : Nat) : Statement (.thermalSlotChange slot disable cooler) := rfl
theorem timesliceRotate (station : Nat) : Statement (.timesliceRotate station) := rfl
theorem suspend (ctx : Nat) : Statement (.suspend ctx) := rfl
theorem ctxResume (ctx : Nat) : Statement (.ctxResume ctx) := rfl
theorem ctxMigrate (ctx : Nat) (arg : Word) : Statement (.ctxMigrate ctx arg) := rfl
theorem release (ctx : Nat) : Statement (.release ctx) := rfl
theorem guestTake (gqn : Nat) : Statement (.guestTake gqn) := rfl
theorem guestWaithSatisfied (gqn : Nat) : Statement (.guestWaithSatisfied gqn) := rfl
theorem guestDone (gqn : Nat) (seq : Word) : Statement (.guestDone gqn seq) := rfl
theorem guestFault (gqn : Nat) (seq : Word) (cause : Cause) : Statement (.guestFault gqn seq cause) := rfl
theorem guestReturn (gqn : Nat) (seq : Word) : Statement (.guestReturn gqn seq) := rfl
theorem parked (ctx : Nat) : Statement (.parked ctx) := rfl
theorem parklate (ctx : Nat) : Statement (.parklate ctx) := rfl
theorem trq (ctx : Nat) (gva : Word) (write : Bool) : Statement (.trq ctx gva write) := rfl
theorem invack (inv : Nat) : Statement (.invack inv) := rfl
theorem invlate (inv : Nat) : Statement (.invlate inv) := rfl
theorem ready : Statement (.ready) := rfl
theorem readyTimeout : Statement (.readyTimeout) := rfl
theorem guestCoherentRequest (cls : GuestClass) (addr : Word) (data : BitVec 512) : Statement (.guestCoherentRequest cls addr data) := rfl
theorem guestReset : Statement (.guestReset) := rfl
theorem guestRailOverload : Statement (.guestRailOverload) := rfl
theorem dtuTranslate (req : Nat) : Statement (.dtuTranslate req) := rfl
theorem walkComplete (die : Nat) (ctx : Nat) (page : Nat) : Statement (.walkComplete die ctx page) := rfl
theorem stationReissue (station : Nat) : Statement (.stationReissue station) := rfl
theorem managementRecordHandle (die : Nat) : Statement (.managementRecordHandle die) := rfl
theorem inboundWrite (func : Nat) (off : Nat) (bytes : List Byte) (attr : WriteTlp) : Statement (.inboundWrite func off bytes attr) := rfl
theorem inboundRead (func : Nat) (off : Nat) (size : ReadTlp) : Statement (.inboundRead func off size) := rfl
theorem hostReadCompletion (req : Nat) (status : CplStatus) (data : BitVec 2048) : Statement (.hostReadCompletion req status data) := rfl
theorem completionTimeout (req : Nat) : Statement (.completionTimeout req) := rfl
theorem stringFlitArrive (flit : Flit) : Statement (.stringFlitArrive flit) := rfl
theorem meshFlitRetry (link : Link) (fails : Nat) : Statement (.meshFlitRetry link fails) := rfl
theorem linkFail (link : Link) (reqs : List Nat) : Statement (.linkFail link reqs) := rfl
theorem linkdown : Statement (.linkdown) := rfl
theorem uncorrectableError (place : ErrPlace) : Statement (.uncorrectableError place) := rfl
theorem sliceScrub (found : ScrubResult) : Statement (.sliceScrub found) := rfl
theorem stationSelfTest (station : Nat) (found : TestResult) : Statement (.stationSelfTest station found) := rfl
theorem shardCheck (shard : Nat) : Statement (.shardCheck shard) := rfl
theorem shardLoadTimeout (shard : Nat) : Statement (.shardLoadTimeout shard) := rfl
theorem shardRecheck (shard : Nat) : Statement (.shardRecheck shard) := rfl
theorem rasClear (die : Nat) (mask : Word) : Statement (.rasClear die mask) := rfl
theorem stage (slot : Nat) : Statement (.stage slot) := rfl
theorem fwVerifyDone (slot : Nat) (sigs : Bool) (svn : Nat) : Statement (.fwVerifyDone slot sigs svn) := rfl
theorem activate (slot : Nat) : Statement (.activate slot) := rfl
theorem abort : Statement (.abort) := rfl
theorem trialDeadline : Statement (.trialDeadline) := rfl
theorem packageReset : Statement (.packageReset) := rfl
theorem ringTokenTimeout : Statement (.ringTokenTimeout) := rfl
theorem thermalThreshold (station : Nat) (reading : Reading) : Statement (.thermalThreshold station reading) := rfl
theorem thermtrip : Statement (.thermtrip) := rfl
theorem badcmd (q : Nat) : Statement (.badcmd q) := rfl
theorem channelCreditReturn (slot : Nat) (port : Fin 8) : Statement (.channelCreditReturn slot port) := rfl
theorem thermalTransferArrive (tag : Nat) : Statement (.thermalTransferArrive tag) := rfl
theorem linkRetrainComplete (link : Link) : Statement (.linkRetrainComplete link) := rfl
theorem configurationRequest (req : CfgReq) : Statement (.configurationRequest req) := rfl
theorem perstDeassertion (found : BootCheck) (lp6Ok : Bool) (images : (Vector Bool 2)) : Statement (.perstDeassertion found lp6Ok images) := rfl
theorem powerRemoval : Statement (.powerRemoval) := rfl
theorem guestSnoopResponse (snoop : Nat) (reply : SnoopReply) : Statement (.guestSnoopResponse snoop reply) := rfl
theorem contextCreation (ctx : Nat) (quota : Nat) (stations : List Nat) (guestQueues : List GuestQueue) : Statement (.contextCreation ctx quota stations guestQueues) := rfl
theorem contextDestruction (ctx : Nat) : Statement (.contextDestruction ctx) := rfl

end Sys2Proof.Laws.Encodes
end

