-- ==== Sys2Proof/Tests/Slice0.lean ====
section
/-! SUPPORT. The package's own tests. Words written out from the spec's encoding tables (opcode_table.json and R46 to R63) decode to
their instructions; well-formedness refuses an ill-formed term for each of its checks; and for every statement a witness: a
concrete state and operands that meet the hypotheses of each of its clauses, mostly with what one step gives there. The expected
values are worked out from the rules by hand. -/

namespace Sys2Proof.Tests

set_option Elab.async false

open Sys2Proof Sys2Proof.Machine Sys2Proof.Claims

/-! ### Small states -/

/-- Scalar registers with some values. -/
def regs (l : List (Fin 16 × Word)) : Vector SCell 16 := l.foldl (fun v e => v.set e.1 { val := e.2 }) (Vector.replicate 16 {})

/-- Vector registers with some values. -/
def vregs (l : List (Fin 16 × VWord)) : Vector VCell 16 := l.foldl (fun v e => v.set e.1 { val := e.2 }) (Vector.replicate 16 {})

/-- A vector word from its elements of sz bytes, lowest first; the others are 0. -/
def vec (sz : Nat) (l : List Nat) : VWord := BitVec.ofNat 2048 (l.foldr (fun x a => a * 2 ^ (8 * sz) + x % 2 ^ (8 * sz)) 0)

/-- A strand of a chord: slot 0 of station 0, grid 1 of context 0, at 0x10000, with some scalar registers. -/
def strand (l : List (Fin 16 × Word)) : Strand where
  tag := 1
  ctx := 0
  world := false
  priv := false
  grid := 1
  loose := false
  index := 0
  nm1 := 1
  chordCsr := 0
  courseCsr := 0
  stageCsr := 0
  gridCsr := 0
  pc := 0x10000
  x := regs l

/-- Its grid. -/
def grid1 : Grid where
  st := .running
  ctx := 0
  world := false
  serial := 1
  entry := 0x10000
  arg0 := 0
  arg1 := 0
  wm1 := 0
  hm1 := 0
  strands := 2
  stages := 1
  courses := 1
  allowance := 0
  priority := 0
  ways := 0
  mode := 0
  seed := 0
  pimg := 0
  plen := 0
  quota := 0
  proofs := []
  ports := []
  crec := 0
  sig := 0
  by_ := .queue 0 0
  placed := 1

/-- Its chord on station 0, of two strands. -/
def chord1 : Chord where
  grid := 1
  course := 0
  x := 0
  y := 0
  n := 2
  st := .resident
  live := [1, 2]
  tags := [1, 2]

/-- A station with that chord, 4 ways of plate (1 MiB), and a descriptor that grants everything there to everyone. -/
def plateStation : Station where
  chord := some chord1
  ways := 4
  prot := (Vector.replicate 16 0).set 0 0xFC003FFF00000000

/-- The package with that strand, whose section is stations 0 to 3 of die 0. -/
def base (t : Strand) (st : Station := { chord := some chord1 }) : State :=
  { State.reset with
    strands := [(0, t)]
    stations := [(0, st)]
    grids := [(1, grid1)]
    ctxs := [(0, {})]
    dies := State.reset.dies.set 0 { ctxTab := [(0, { valid := true, sect := 0xF })] }
    nextId := 100
    nextTag := 10
    nextAge := 10 }

/-- The examination at issue passes in that state (`Passes`, decidably). -/
def ok (t : Strand) (s : State) (src : Nat) (e : Bool) (srcs dsts : List Opnd) : Bool :=
  decide (s.curStrand = some t) && (s.gate src e srcs dsts).isNone

theorem passes_of_ok {t : Strand} {s : State} {src : Nat} {e : Bool} {srcs dsts : List Opnd} (h : ok t s src e srcs dsts = true) :
    Passes s t src e srcs dsts := by
  simp only [ok, Bool.and_eq_true, decide_eq_true_eq, Option.isNone_iff_eq_none] at h
  exact h

/-- The state after one instruction or event. -/
noncomputable def after (i : Instr) (s : State) : State :=
  match exec i s with
  | .next u => u
  | .fault _ => s
  | .refused _ => s

/-- What an x register of a slot holds. -/
def xval (s : State) (k : Nat) (i : Fin 16) : Option Word := (s.slot k).map fun t => (t.x[i]).val

/-- What a v register of a slot holds. -/
def vval (s : State) (k : Nat) (i : Fin 16) : Option VWord := (s.slot k).map fun t => (t.v[i]).val

/-- How the grid of the strand stands, with its cause. -/
def gridSt (s : State) : Option (GridState × Cause) := (s.gridOf 1).map fun g => (g.st, g.cause)

/-! ### Decoding: one word of every instruction, from the match bits and the fields of the spec's table -/

/-- Whether each word decodes to its instruction. -/
noncomputable def decodes (l : List (BitVec 32 × Instr)) : Bool := l.all fun x =>
  match decodeWord x.1 with
  | .ok i => decide (i = x.2)
  | .error _ => false

/-- Whether each word is refused under its detail (R53). -/
noncomputable def refuses (l : List (BitVec 32 × Detail)) : Bool := l.all fun x =>
  match decodeWord x.1 with
  | .ok _ => false
  | .error d => decide (d = x.2)

theorem test_decode_scalar_arithmetic_1 : decodes
    [(0x057F2C00, .add (.x 11) (.y 15) (.x 5) true),
     (0x06A21801, .sub (.y 5) (.x 2) (.x 3) false),
     (0x05931002, .and (.x 12) (.y 3) (.x 2) false),
     (0x04437403, .or (.x 2) (.x 3) (.x 14) true),
     (0x04689404, .xor (.x 3) (.x 8) (.y 2) true),
     (0x045B9805, .sll (.x 2) (.y 11) (.y 3) false),
     (0x07E8A806, .srl (.y 15) (.x 8) (.y 5) false),
     (0x066D1007, .sra (.y 3) (.x 13) (.x 2) false),
     (0x0452E008, .slt (.x 2) (.y 2) (.y 12) false),
     (0x054E2809, .sltu (.x 10) (.x 14) (.x 5) false),
     (0x066A900A, .min (.y 3) (.x 10) (.y 2) false),
     (0x0493A80B, .max (.x 4) (.y 3) (.y 5) false),
     (0x0584900C, .minu (.x 12) (.x 4) (.y 2) false),
     (0x0662A00D, .maxu (.y 3) (.x 2) (.y 4) false),
     (0x0616040E, .clz (.y 0) (.y 6) true),
     (0x072B040F, .ctz (.y 9) (.x 11) true),
     (0x067E0410, .popc (.y 3) (.y 14) true),
     (0x058A0011, .sextB (.x 12) (.x 10) false),
     (0x07460012, .sextH (.y 10) (.x 6) false),
     (0x04730413, .sextW (.x 3) (.y 3) true),
     (0x06300414, .zextB (.y 1) (.y 0) true),
     (0x070F0415, .zextH (.y 8) (.x 15) true),
     (0x06830016, .zextW (.y 4) (.x 3) false),
     (0x062E3417, .sel (.y 1) (.x 14) (.x 6) true),
     (0x08BE8400, .addW (.x 5) (.y 14) (.y 0) true)] = true := by decide +kernel

theorem test_decode_scalar_arithmetic_2 : decodes
    [(0x085FB001, .subW (.x 2) (.y 15) (.y 6) false),
     (0x0B329C02, .andW (.y 9) (.y 2) (.y 3) true),
     (0x09776403, .orW (.x 11) (.y 7) (.x 12) true),
     (0x0A7A7804, .xorW (.y 3) (.y 10) (.x 15) false),
     (0x0B63FC05, .sllW (.y 11) (.x 3) (.y 15) true),
     (0x0A17B006, .srlW (.y 0) (.y 7) (.y 6) false),
     (0x0858BC07, .sraW (.x 2) (.y 8) (.y 7) true),
     (0x0AB3B408, .sltW (.y 5) (.y 3) (.y 6) true),
     (0x09576C09, .sltuW (.x 10) (.y 7) (.x 13) true),
     (0x083F7C0A, .minW (.x 1) (.y 15) (.x 15) true),
     (0x08D4240B, .maxW (.x 6) (.y 4) (.x 4) true),
     (0x0847CC0C, .minuW (.x 2) (.x 7) (.y 9) true),
     (0x08B8440D, .maxuW (.x 5) (.y 8) (.x 8) true),
     (0x09BE040E, .clzW (.x 13) (.y 14) true),
     (0x0866040F, .ctzW (.x 3) (.x 6) true),
     (0x09B20410, .popcW (.x 13) (.y 2) true),
     (0x0FA5DC00, .mul (.y 13) (.x 5) (.y 11) true),
     (0x0F924C01, .mulh (.y 12) (.y 2) (.x 9) true),
     (0x0D96EC02, .mulhu (.x 12) (.y 6) (.y 13) true),
     (0x0FE82803, .div (.y 15) (.x 8) (.x 5) false),
     (0x0CC54004, .divu (.x 6) (.x 5) (.x 8) false),
     (0x0C30D805, .rem (.x 1) (.y 0) (.y 11) false),
     (0x0D2A0806, .remu (.x 9) (.x 10) (.x 1) false),
     (0x0DD26500, .mulW (.x 14) (.y 2) (.x 12) true),
     (0x0FE5B901, .mulhW (.y 15) (.x 5) (.y 7) false)] = true := by decide +kernel

theorem test_decode_scalar_arithmetic_3 : decodes
    [(0x0DFDE502, .mulhuW (.x 15) (.y 13) (.y 12) true),
     (0x0DA48503, .divW (.x 13) (.x 4) (.y 0) true),
     (0x0C471904, .divuW (.x 2) (.x 7) (.x 3) false),
     (0x0DE62505, .remW (.x 15) (.x 6) (.x 4) true),
     (0x0E822106, .remuW (.y 4) (.x 2) (.x 4) false),
     (0x126588B0, .addi (.y 3) (.x 5) 17584 false),
     (0x17EC9A8F, .andi (.y 15) (.x 12) 20111 false),
     (0x187C369F, .ori (.x 3) (.y 12) 6815 true),
     (0x1CB5444A, .xori (.x 5) (.y 5) 8266 true),
     (0x228C78B1, .slti (.y 4) (.x 12) 15537 false),
     (0x249C7E7A, .sltiu (.x 4) (.y 12) 15994 true),
     (0x2A0A0006, .slli (.y 0) (.x 10) 6 false),
     (0x28984416, .srli (.x 4) (.y 8) 22 true),
     (0x2A1B802D, .srai (.y 0) (.y 11) 45 false),
     (0x2A212407, .slliW (.y 1) (.x 1) 7 true),
     (0x28B76012, .srliW (.x 5) (.y 7) 18 false),
     (0x2B31A00A, .sraiW (.y 9) (.y 1) 10 false),
     (0x2EFB0EF5, .lui (.y 7) 886517 true),
     (0x322BBA01, .auipc (.y 1) 384513 false)] = true := by decide +kernel

theorem test_decode_branches : decodes
    [(0x41993C85, .beq (.x 12) (.y 9) 7301 true),
     (0x46A89A7F, .bne (.y 5) (.x 8) 20095 false),
     (0x4B48D4C0, .blt (.y 10) (.x 8) 26816 true),
     (0x4F1A3906, .bge (.y 8) (.y 10) 7430 false),
     (0x52305984, .bltu (.y 1) (.y 0) 11652 false),
     (0x543A47C4, .bgeu (.x 1) (.y 10) 9156 true),
     (0x59263257, .jal (.x 9) 406103),
     (0x5EF4F670, .jalr (.y 7) (.y 4) 31344 true),
     (0x6080CF80, .bpredAny 4 26496 true),
     (0x60611250, .bpredAll 3 2640 false),
     (0x60223D0A, .bpredNone 1 7434 true),
     (0x6043533B, .bpredNall 2 11067 false)] = true := by decide +kernel

theorem test_decode_loads_stores_phases : decodes
    [(0x669D71C4, .ld .d (.y 4) (.y 13) 2500 false),
     (0x6BD56982, .st .d (.y 14) (.y 5) 1410 false),
     (0x6FCD1885, .ldl .b (.y 14) (.x 13) 3205 false),
     (0x6FA6EEF2, .stl .d (.y 13) (.x 6) 1778 true),
     (0x70000410, .phaseR .station true),
     (0x70000423, .phaseA .ring true),
     (0x70000030, .phaseRa .station false),
     (0x70000043, .qfence 3 false),
     (0x70000080, .fencei false),
     (0x700504C0, .prefL1 (.x 5) true),
     (0x701A00C1, .prefHome (.y 10) false)] = true := by decide +kernel

theorem test_decode_atomics_queues_proofs : decodes
    [(0x76DE6010, .amoadd true (.y 6) (.y 14) (.x 12) false),
     (0x743AC001, .amoand false (.x 1) (.y 10) (.y 8) false),
     (0x75DC3802, .amoor false (.x 14) (.y 12) (.x 7) false),
     (0x75275003, .amoxor false (.x 9) (.x 7) (.x 10) false),
     (0x75327014, .amomin true (.x 9) (.y 2) (.x 14) false),
     (0x77D86405, .amomax false (.y 14) (.y 8) (.x 12) true),
     (0x777EE816, .amominu true (.y 11) (.y 14) (.y 13) false),
     (0x7621E407, .amomaxu false (.y 1) (.x 1) (.y 12) true),
     (0x7681C808, .amoswap false (.y 4) (.x 1) (.y 9) false),
     (0x74B0A009, .amocas false (.x 5) (.y 0) (.y 4) false),
     (0x76425C0A, .amofadd32 (.y 2) (.x 2) (.x 11) true),
     (0x7759201B, .amofxadd (.y 10) (.y 9) (.x 4) false),
     (0x79070400, .lrw (.x 8) (.x 7) true),
     (0x7802C801, .sch (.x 2) (.y 9) false),
     (0x78110402, .rrel (.y 1) true),
     (0x7A41C803, .enq (.y 2) (.x 1) (.q 1) false),
     (0x79EB0004, .deq (.v 15) (.x 11) false),
     (0x7AE97C05, .enqNw (.y 7) (.x 9) (.v 15) true),
     (0x7A3F0006, .deqNw (.w 1) (.y 15) false),
     (0x7C178C00, .prpub (.y 7) (.y 1) true),
     (0x7C1E0001, .prwait (.y 14) false),
     (0x7F6F0002, .prtest (.y 11) (.x 15) false),
     (0x7DC40403, .prtake (.x 14) (.x 4) true),
     (0x7DEB1804, .prgen (.x 15) (.x 11) (.x 3) false),
     (0x7DC33C05, .prarm (.x 14) (.x 3) (.x 7) true)] = true := by decide +kernel

theorem test_decode_vector_arithmetic_compare_1 : decodes
    [(0x80BFBF00, .vadd .i8 (.v 5) (.q 7) (.w 7) 6 true),
     (0x813D2A11, .vsub .i16 (.v 9) (.q 5) (.v 5) 4 false),
     (0x81BD8102, .vmul .i8 (.v 13) (.q 5) (.w 0) 2 false),
     (0x82EE8E13, .vmulh .i16 (.w 7) (.v 14) (.w 1) 4 true),
     (0x80EC5CB4, .vmad .i64 (.v 7) (.v 12) (.v 11) 1 true),
     (0x81727A05, .vmin .i8 (.v 11) (.w 2) (.v 15) 4 false),
     (0x8171A1B6, .vmax .i64 (.v 11) (.w 1) (.w 4) 3 false),
     (0x811D2487, .vand .i8 (.v 8) (.q 5) (.v 4) 1 true),
     (0x805DCD28, .vor .i32 (.v 2) (.q 5) (.q 1) 2 true),
     (0x81DCF719, .vxor .i16 (.v 14) (.q 4) (.q 6) 6 true),
     (0x80B2F6BA, .vsll .i64 (.v 5) (.w 2) (.q 6) 5 true),
     (0x806913AB, .vsrl .i32 (.v 3) (.v 9) (.v 2) 7 false),
     (0x8069F8BC, .vsra .i64 (.v 3) (.v 9) (.q 7) 1 false),
     (0x807403AD, .vabs .i32 (.v 3) (.w 4) 7 false),
     (0x813C048E, .vneg .i8 (.v 9) (.q 4) 1 true),
     (0x842FD0D0, .fadd .f32 (.v 1) (.v 15) (.q 2) 1 false),
     (0x8609D4C1, .fsub .bf16 (.w 0) (.v 9) (.q 2) 1 true),
     (0x84E8C742, .fmul .bf16 (.v 7) (.v 8) (.q 0) 6 true),
     (0x85A38753, .fma .f32 (.v 13) (.v 3) (.w 0) 6 true),
     (0x869538C4, .fmin .bf16 (.w 4) (.w 5) (.v 7) 1 false),
     (0x8535C755, .fmax .f32 (.v 9) (.w 5) (.q 0) 6 true),
     (0x843004C6, .fabs .bf16 (.v 1) (.w 0) 1 true),
     (0x86C40357, .fneg .f32 (.w 6) (.v 4) 6 false),
     (0x88BBA990, .vcmpEq .i16 5 (.q 3) (.w 5) 3 false),
     (0x8850EE21, .vcmpNe .i32 2 (.w 0) (.q 5) 4 true)] = true := by decide +kernel

theorem test_decode_vector_arithmetic_compare_2 : decodes
    [(0x8841FE02, .vcmpLt .i8 2 (.v 1) (.q 7) 4 true),
     (0x88782E33, .vcmpLe .i64 3 (.q 0) (.v 5) 4 true),
     (0x8864DCB4, .vcmpLtu .i64 3 (.v 4) (.q 3) 1 true),
     (0x88ED2125, .vcmpLeu .i32 7 (.v 13) (.v 4) 2 false),
     (0x886C1E58, .fcmpEq .f32 3 (.v 12) (.v 3) 4 true),
     (0x887E77C9, .fcmpNe .bf16 3 (.q 6) (.v 14) 7 true),
     (0x886417CA, .fcmpLt .bf16 3 (.v 4) (.v 2) 7 true),
     (0x884976CB, .fcmpLe .bf16 2 (.v 9) (.v 14) 5 true),
     (0x88ECD24C, .fcmpUn .bf16 7 (.v 12) (.q 2) 4 false)] = true := by decide +kernel

theorem test_decode_vector_scalar_immediate_1 : decodes
    [(0xA1727180, .vaddVs .i8 (.v 11) (.w 2) (.x 14) 3 false),
     (0xA2374081, .vsubVs .i8 (.w 1) (.w 7) (.x 8) 1 false),
     (0xA0463DA2, .vmulVs .i32 (.v 2) (.v 6) (.x 7) 3 true),
     (0xA14F8B13, .vmulhVs .i16 (.v 10) (.v 15) (.y 1) 6 false),
     (0xA19A09A4, .vmadVs .i32 (.v 12) (.q 2) (.x 1) 3 false),
     (0xA0388A85, .vminVs .i8 (.v 1) (.q 0) (.y 1) 5 false),
     (0xA11E7CB6, .vmaxVs .i64 (.v 8) (.q 6) (.x 15) 1 true),
     (0xA25BEE37, .vandVs .i64 (.w 2) (.q 3) (.y 13) 4 true),
     (0xA10B3B98, .vorVs .i16 (.v 8) (.v 11) (.x 7) 7 false),
     (0xA182D939, .vxorVs .i64 (.v 12) (.v 2) (.y 11) 2 false),
     (0xA2B8ED8A, .vsllVs .i8 (.w 5) (.q 0) (.y 13) 3 true),
     (0xA043B79B, .vsrlVs .i16 (.v 2) (.v 3) (.y 6) 7 true),
     (0xA288B9AC, .vsraVs .i32 (.w 4) (.v 8) (.y 7) 3 false),
     (0xA8C97CB0, .vaddVi .i64 (.v 6) (.v 9) 15 1 true),
     (0xA9725921, .vsubVi .i32 (.v 11) (.w 2) 11 2 false),
     (0xA8EC34A2, .vmulVi .i32 (.v 7) (.v 12) 6 1 true),
     (0xA8704AB3, .vmulhVi .i64 (.v 3) (.w 0) 9 5 false),
     (0xAA390C94, .vmadVi .i16 (.w 1) (.q 1) 1 1 true),
     (0xA8AD9C85, .vminVi .i8 (.v 5) (.v 13) 19 1 true),
     (0xA9554086, .vmaxVi .i8 (.v 10) (.w 5) 8 1 false),
     (0xA9788537, .vandVi .i64 (.v 11) (.q 0) 16 2 true),
     (0xA85BDF18, .vorVi .i16 (.v 2) (.q 3) 27 6 true),
     (0xAA398A99, .vxorVi .i16 (.w 1) (.q 1) 17 5 false),
     (0xA861151A, .vsllVi .i16 (.v 3) (.v 1) 2 2 true),
     (0xA9BB7A8B, .vsrlVi .i8 (.v 13) (.q 3) 15 5 false)] = true := by decide +kernel

theorem test_decode_vector_scalar_immediate_2 : decodes
    [(0xAAB2B50C, .vsraVi .i8 (.w 5) (.w 2) 22 2 true),
     (0xA5578DD0, .faddVs .f32 (.v 10) (.w 7) (.y 1) 3 true),
     (0xA5F922D1, .fsubVs .f32 (.v 15) (.q 1) (.x 4) 5 false),
     (0xA47E84D2, .fmulVs .f32 (.v 3) (.q 6) (.y 0) 1 true),
     (0xA47B8E53, .fmaVs .f32 (.v 3) (.q 3) (.y 1) 4 true),
     (0xA4FEF954, .fminVs .f32 (.v 7) (.q 6) (.y 15) 2 false),
     (0xA4B88DC5, .fmaxVs .bf16 (.v 5) (.q 0) (.y 1) 3 true)] = true := by decide +kernel

theorem test_decode_vector_movement_memory_conversion_1 : decodes
    [(0x8E47C0B0, .vsel .i64 (.w 2) (.v 7) (.q 0) 1 false),
     (0x8DCF02D1, .vmov .f32 (.v 14) (.v 15) 5 false),
     (0x8D5000D2, .vbcast .f32 (.v 10) (.y 0) 1 false),
     (0x8E0E5C13, .vext .i16 (.y 0) (.v 14) (.x 11) true),
     (0x8D38ADA4, .vperm .i32 (.v 9) (.q 0) (.w 5) 3 true),
     (0x8D509715, .vzip .i16 (.v 10) (.w 0) (.w 2) 6 true),
     (0x8EA61D16, .vuzp .i16 (.w 5) (.v 6) (.v 3) 2 true),
     (0x8D0FF5C7, .vslideUp .bf16 (.v 8) (.v 15) (.y 14) 3 true),
     (0x8CB23938, .vslideDn .i64 (.v 5) (.w 2) (.x 7) 2 false),
     (0x8CCAF0B9, .vbcasthBf16 (.v 6) 22411 false),
     (0x8D67A78A, .vbcasthF32 (.v 11) 15672 true),
     (0x9267ECA0, .vld .i32 (.w 3) (.x 7) (.y 13) 1 true),
     (0x91D88D31, .vst .i64 (.v 14) (.y 8) (.y 1) 2 true),
     (0x91791622, .vlds .i32 (.v 11) (.y 9) (.x 2) 4 true),
     (0x9185B2C3, .vsts .bf16 (.v 12) (.x 5) (.y 6) 5 false),
     (0x910DAE34, .vgath .i64 (.v 8) (.x 13) (.w 5) 4 true),
     (0x90A27715, .vscat .i16 (.v 5) (.x 2) (.v 14) 6 true),
     (0x94236640, .vcvt .bf16 .i64 .mode (.v 1) (.v 3) 4 true),
     (0x95A40151, .vqnt .f32 .mode (.v 13) (.v 4) 2 false),
     (0x96F507CA, .vqps .ps3 .bf16 (.explicit .rne) (.w 7) (.w 5) 7 true),
     (0x9423014B, .vdq .bf16 .ps3 (.explicit .rne) (.v 1) (.v 3) 2 false),
     (0x98B54EA0, .vhad32 .i32 (.v 5) (.w 5) 9 5 true),
     (0x98831AD1, .vmaxx .f32 (.v 4) (.v 3) 3 5 false),
     (0x99A92382, .vunpk5 (.v 13) (.v 9) 4 7 false),
     (0x98322E03, .vpack5 (.v 1) (.w 2) 5 4 true)] = true := by decide +kernel

theorem test_decode_vector_movement_memory_conversion_2 : decodes
    [(0x9A112944, .vsfu .cos .bf16 (.w 0) (.w 1) 2 false),
     (0x9AF541C5, .vred .fadd .bf16 (.w 7) (.w 5) 3 false),
     (0x9C50EC00, .vwhile .i8 2 (.y 0) (.y 13) true),
     (0x9D200001, .vwidth .i8 (.x 9) false),
     (0x9C167C02, .vrep (.y 6) 15 true),
     (0x9C440F03, .pand 2 4 1 6 true),
     (0x9CC41904, .por 6 4 3 2 false),
     (0x9CE33285, .pxor 7 3 6 5 false),
     (0x9C440186, .pnot 2 4 3 false),
     (0x9DE20597, .pcnt .i16 (.x 15) 2 3 true),
     (0x9CA40108, .pfirst .i8 5 4 2 false)] = true := by decide +kernel

theorem test_decode_engines_ports_messages_1 : decodes
    [(0xC2000400, .mcfg (.y 0) true),
     (0xC3C00440, .mldwT64 false false (.y 14) true),
     (0xC0200041, .mldwC64 false false (.x 1) false),
     (0xC1C20086, .mstep (.v 14) (.v 2) 6 false),
     (0xC00004C0, .mzero false true),
     (0xC0000501, .mswapL true),
     (0xC0000502, .mswapA true),
     (0xC0000103, .mswapLa false),
     (0xC0E00142, .mdrain .a64 .none true (.x 7) (.x 0) (.x 0) false),
     (0xC3D10582, .mstat 2 (.y 14) (.y 1) true),
     (0xC00001C0, .mwait false),
     (0xC6D80403, .pbind 3 (.y 6) (.y 8) true),
     (0xC4000447, .punbind 7 true),
     (0xC5600084, .pstat (.x 11) 4 false),
     (0xC42000C1, .pskip 1 (.x 1) false),
     (0xC46C7104, .cpy .pub (.x 3) (.x 12) (.x 14) false),
     (0xC7F93D48, .cpyt .msg (.y 15) (.y 9) (.x 7) true),
     (0xC73B5584, .cpyd .pub (.y 9) (.y 11) (.x 10) true),
     (0xC44005C0, .cpys .none (.x 2) (.x 0) (.x 0) true),
     (0xC8EC0400, .spawn (.x 7) (.x 12) true),
     (0xC8EB0401, .spawnl (.x 7) (.x 11) true),
     (0xC8180402, .migrate (.y 8) true),
     (0xC8000003, .yield false),
     (0xC8000404, .sleep true),
     (0xC8000005, .cbar false)] = true := by decide +kernel

theorem test_decode_engines_ports_messages_2 : decodes
    [(0xC8000406, .exit true),
     (0xCC026800, .msend (.x 2) (.x 13) false),
     (0xCDE30001, .mrecv (.x 15) (.x 3) false),
     (0xCD27C002, .rqpush (.x 9) (.x 7) (.y 8) false),
     (0xCFB40403, .rqpop (.y 13) (.y 4) true),
     (0xCD890404, .tmrset (.x 12) (.x 9) true)] = true := by decide +kernel

theorem test_decode_control_privileged : decodes
    [(0xD3E003D1, .csrr (.y 15) 977 false),
     (0xD1380EDE, .csrw (.x 9) (.y 8) 734 true),
     (0xD3C91131, .csrs (.y 14) (.x 9) 305 false),
     (0xD3191A62, .csrc (.y 8) (.y 9) 610 false),
     (0xD4000000, .uret false),
     (0xD4000835, .trapu 53 false),
     (0xD49016DD, .svc (.x 4) (.y 0) 733 true),
     (0xDBF90400, .sret (.y 15) (.y 9) true),
     (0xD81A0C00, .dtinvPage (.y 10) true),
     (0xD81E0C01, .dtinvCtx (.y 14) true),
     (0xD81B0C02, .dtinvAll (.y 11) true),
     (0xD8A01400, .dtrep (.x 5) true),
     (0xD8C11401, .dtrepFail (.x 6) (.x 1) true),
     (0xDB251803, .dtqry 3 (.y 9) (.x 5) false),
     (0xD97C2400, .spls (.x 11) (.y 12) true),
     (0xD9EC2800, .splr (.x 15) (.x 12) false),
     (0xD8113000, .freeze (.y 1) false),
     (0xD80D3800, .thaw (.x 13) false),
     (0xD90E4005, .rgnw (.x 8) (.x 14) 5 false),
     (0xDA124C09, .puw (.y 0) (.y 2) 9 true),
     (0xD8CE5000, .commit (.x 6) (.x 14) false)] = true := by decide +kernel

/-- Reserved and malformed words are refused under the detail of R53: an empty major, a reserved fn, a set reserved bit, a reserved
type code, and an operand that the instruction does not take. -/
theorem test_decode_refuses : refuses
    [(0x00000000, .badMajor), (0xFC000000, .badMajor), (0x040003FF, .badFn), (0x0C853198, .badFn), (0x6400E000, .badType),
     (0x61010000, .badField), (0x60040000, .badField), (0x70000000, .badType), (0x70000040, .badType), (0x70000015, .badType),
     (0x70000018, .badField), (0x93010001, .badOpnd), (0x7B020006, .badOpnd), (0x80000060, .badType), (0x84000000, .badType),
     (0x94002012, .badType), (0x940FE041, .badType), (0x98000000, .badType), (0x9800002F, .badFn), (0xC0000187, .badType),
     (0xC0000141, .badField), (0xD8005800, .badFn)] = true := by decide +kernel

/-! ### Well-formedness: an ill-formed term for each check -/

theorem test_wf_refuses :
    ([.qfence 0 false, .deq (.q 0) (.x 1) false, .deqNw (.q 7) (.x 1) false, .vld .i8 (.q 0) (.x 1) (.x 2) 0 false,
      .vst .i8 (.q 1) (.x 1) (.x 2) 0 false, .vlds .i8 (.q 2) (.x 1) (.x 2) 0 false, .vsts .i8 (.q 3) (.x 1) (.x 2) 0 false,
      .vgath .i8 (.v 0) (.x 1) (.v 1) 0 false, .vgath .i32 (.q 0) (.x 1) (.v 1) 0 false, .vgath .i32 (.v 0) (.x 1) (.q 1) 0 false,
      .vscat .i8 (.v 0) (.x 1) (.v 1) 0 false, .vscat .i32 (.q 0) (.x 1) (.v 1) 0 false, .vscat .i32 (.v 0) (.x 1) (.q 1) 0 false,
      .vcvt .i8 .i8 .mode (.v 0) (.v 1) 0 false, .vcvt .f32 .i8 .sr (.v 0) (.v 1) 0 false, .vqnt .f32 .sr (.v 0) (.v 1) 0 false,
      .vqnt .f32 .mode (.v 15) (.v 1) 0 false, .vqnt .f32 .mode (.w 7) (.v 1) 0 false, .vqps .ps3 .f32 .sr (.v 0) (.v 1) 0 false,
      .vdq .f32 .ps3 .sr (.v 0) (.v 1) 0 false, .vdq .f32 .mx .mode (.v 0) (.v 15) 0 false, .vhad32 .i8 (.v 0) (.v 1) 0 0 false,
      .vmaxx .i64 (.v 0) (.v 1) 5 0 false, .vsfu .exp2 .f32 (.q 0) (.v 1) 0 false, .vred .fadd .i32 (.v 0) (.v 1) 0 false,
      .vred .add .f32 (.v 0) (.v 1) 0 false, .mdrain .a64 .none false (.x 1) (.x 2) (.x 0) false,
      .mdrain .a64 .none false (.x 1) (.x 0) (.x 2) false, .mstat 4 (.x 1) (.x 2) false, .cpy .none (.x 1) (.x 2) (.x 0) false,
      .cpyt .none (.x 1) (.x 0) (.x 2) false, .cpyd .none (.x 1) (.x 2) (.x 0) false, .cpys .none (.x 1) (.x 0) (.x 2) false] :
      List Instr).all (fun i => !i.wf) = true := by decide +kernel

/-- The neighbours of those terms within the bounds are well formed. -/
theorem test_wf_accepts :
    ([.qfence 1 false, .deq (.w 7) (.x 1) false, .vgath .i16 (.v 0) (.x 1) (.w 1) 0 false, .vcvt .bf16 .i8 .sr (.v 0) (.v 1) 0 false,
      .vqnt .f32 .mode (.v 14) (.v 1) 0 false, .vqnt .f32 .mode (.w 6) (.q 1) 0 false, .vdq .f32 .ps3 .mode (.v 0) (.v 15) 0 false,
      .vmaxx .i64 (.v 0) (.v 1) 4 0 false, .vmaxx .i8 (.v 0) (.v 1) 7 0 false, .vred .fadd .bf16 (.v 0) (.v 1) 0 false,
      .mdrain .a64 .pub false (.x 1) (.x 2) (.x 3) false, .mstat 3 (.x 1) (.x 2) false, .cpy .msg (.x 1) (.x 2) (.x 3) false] :
      List Instr).all (fun i => i.wf) = true := by decide +kernel

/-! ### Scalar arithmetic, branches and jumps -/

/-- The witnesses of the scalar statements: the most negative number, minus one and zero as operands. -/
def tA : Strand := strand [(1, 0x8000000000000000), (2, 0xFFFFFFFFFFFFFFFF), (3, 0), (4, 63), (5, 7)]

theorem witness_ScalarArithmeticResults :
    ok tA (base tA) 0 false [.s (.x 1), .s (.x 2)] [.s (.x 6)] = true ∧ ok tA (base tA) 0 true [.s (.x 1)] [.s (.x 0)] = true ∧
    ok tA (base tA) 0 false [.s (.x 1), .s (.x 2), .s (.x 5)] [] = true ∧ ok tA (base tA) 0 true [.s (.y 1)] [.s (.y 2)] = true ∧
    -- R110: the one overflow of DIV, and division by zero
    xval (after (.div (.x 6) (.x 1) (.x 2) false) (base tA)) 0 6 = some 0x8000000000000000 ∧
    xval (after (.rem (.x 6) (.x 1) (.x 2) false) (base tA)) 0 6 = some 0 ∧
    xval (after (.divu (.x 6) (.x 5) (.x 3) false) (base tA)) 0 6 = some 0xFFFFFFFFFFFFFFFF ∧
    xval (after (.remu (.x 6) (.x 5) (.x 3) false) (base tA)) 0 6 = some 7 ∧
    xval (after (.mulhu (.x 6) (.x 2) (.x 2) false) (base tA)) 0 6 = some 0xFFFFFFFFFFFFFFFE ∧
    xval (after (.sra (.x 6) (.x 1) (.x 4) false) (base tA)) 0 6 = some 0xFFFFFFFFFFFFFFFF ∧
    xval (after (.srl (.x 6) (.x 1) (.x 4) false) (base tA)) 0 6 = some 1 ∧
    xval (after (.srlW (.x 6) (.x 2) (.x 3) false) (base tA)) 0 6 = some 0xFFFFFFFFFFFFFFFF ∧
    xval (after (.clz (.x 6) (.x 3) false) (base tA)) 0 6 = some 64 ∧ xval (after (.ctz (.x 6) (.x 1) false) (base tA)) 0 6 = some 63 ∧
    xval (after (.sltiu (.x 6) (.x 5) (-1) false) (base tA)) 0 6 = some 1 ∧
    xval (after (.slti (.x 6) (.x 5) (-1) false) (base tA)) 0 6 = some 0 ∧
    xval (after (.sel (.x 5) (.x 4) (.x 3) false) (base tA)) 0 5 = some 63 ∧
    -- the destination is also a source, and x0 takes nothing
    xval (after (.add (.x 5) (.x 5) (.x 5) false) (base tA)) 0 5 = some 14 ∧
    xval (after (.add (.x 0) (.x 5) (.x 5) false) (base tA)) 0 0 = some 0 := by decide +kernel

theorem witness_UpperImmediates :
    ok tA (base tA) 0 true [] [.s (.x 6)] = true ∧
    -- R113's example, and the most negative field
    xval (after (.lui (.x 6) 31 false) (base tA)) 0 6 = some 0xF8000 ∧
    xval (after (.lui (.x 6) 0x80000 true) (base tA)) 0 6 = some 0xFFFFFFFC00000000 ∧
    xval (after (.auipc (.x 6) 2 false) (base tA)) 0 6 = some 0x20000 := by decide +kernel

/-- Branches of the largest backward offset (below the address 0), by none, and to the branch itself; a target that R118 refuses. -/
theorem witness_ConditionalBranches :
    ok tA (base tA) 0 false [.s (.x 1), .s (.x 2)] [] = true ∧ tA.rep = none ∧
    pcOf (after (.blt (.x 1) (.x 2) 0 false) (base tA)) 0 = some 0x10000 ∧
    pcOf (after (.bltu (.x 1) (.x 2) (-3) false) (base tA)) 0 = some 0xFFF4 ∧
    pcOf (after (.bge (.x 1) (.x 2) (-3) false) (base tA)) 0 = some 0x10004 ∧
    gvaOk (base tA).cfg (BitVec.ofInt 64 (0x10000 + 4 * (0x4000#15).toInt)) = true ∧
    gvaOk (base tA).cfg (BitVec.ofInt 64 (0 + 4 * (0x4000#15).toInt)) = false ∧
    gridSt (after (.beq (.x 0) (.x 0) 0x4000 false) (base { tA with pc := 0 })) = some (.ending, 0x082) := by decide +kernel

theorem witness_PredicateBranches :
    (base tA).curStrand = some tA ∧
    (decodeWord (wordB 0x18 8 0 0 false) = .error .badField) ∧ (decodeWord (wordB 0x18 31 31 (-1) true) = .error .badField) ∧
    (decodeWord (wordB 0x18 0 4 0 false) = .error .badField) ∧
    pcOf (after (.bpredAny 0 4 false) (base tA)) 0 = some 0x10010 ∧ pcOf (after (.bpredAny 1 4 false) (base tA)) 0 = some 0x10004 ∧
    pcOf (after (.bpredNall 1 4 true) (base tA)) 0 = some 0x10010 := by
  refine ⟨by decide +kernel, rfl, rfl, rfl, by decide +kernel, by decide +kernel, by decide +kernel⟩

theorem witness_JumpsAndLinks :
    ok tA (base tA) 0 false [] [.s (.x 15)] = true ∧ ok tA (base tA) 0 false [.s (.x 4)] [.s (.x 15)] = true ∧
    -- 63 + 1 is aligned and in range, 63 + 0 is misaligned, and the most negative number is no GVA
    pcOf (after (.jalr (.x 4) (.x 4) 1 false) (base tA)) 0 = some 64 ∧ xval (after (.jalr (.x 4) (.x 4) 1 false) (base tA)) 0 4 = some 0x10004 ∧
    gridSt (after (.jalr (.x 15) (.x 4) 0 false) (base tA)) = some (.ending, 0x081) ∧
    gridSt (after (.jalr (.x 15) (.x 1) 0 false) (base tA)) = some (.ending, 0x082) ∧
    pcOf (after (.jal (.x 15) (-2)) (base tA)) 0 = some 0xFFF8 ∧ xval (after (.jal (.x 15) (-2)) (base tA)) 0 15 = some 0x10004 ∧
    gridSt (after (.jal (.x 0) (-2)) (base { tA with pc := 4 })) = some (.ending, 0x082) := by decide +kernel

/-! ### Control registers -/

theorem witness_ControlRegisters :
    ok tA (base tA) 0 false [] [.s (.x 6)] = true ∧ ok tA (base tA) 0 false [.s (.x 5)] [.s (.x 6)] = true ∧
    (base tA).csrRead 0 tA 0x001 = some 0 ∧ csrRo 0x001 = false ∧ csrRo 0x011 = true ∧ (base tA).flagsDue tA = false ∧
    (base tA).csrRead 0 { tA with priv := true } 0x3FF = none ∧ tA.priv = false ∧ tA.loose = false ∧
    -- MODE has five bits; UTVEC drops bits 1:0 and 63:57
    xval (after (.csrw (.x 6) (.x 2) 0x001 false) (base tA)) 0 6 = some 0 ∧
    (after (.csrw (.x 6) (.x 2) 0x001 false) (base tA)).csrRead 0 ((after (.csrw (.x 6) (.x 2) 0x001 false) (base tA)).curStrand.getD tA) 0x001
      = some 31 ∧
    (after (.csrw (.x 6) (.x 2) 0x002 false) (base tA)).curStrand.map (·.utvec) = some 0x01FFFFFFFFFFFFFC ∧
    gridSt (after (.csrr (.x 6) 0x3FF false) (base tA)) = some (.ending, causeOf 1 0 5) ∧
    gridSt (after (.csrr (.x 6) 0x1FF false) (base tA)) = some (.ending, causeOf 1 0 6) ∧
    gridSt (after (.csrw (.x 6) (.x 5) 0x011 false) (base tA)) = some (.ending, causeOf 1 0 6) := by decide +kernel

/-! ### Scalar loads and stores -/

/-- The bytes that an access at 0x20000 finds clean in the station: F0 FF FF 80 and zeros. -/
def clean8 : List (Nat × CleanByte) :=
  [(0x20000, { val := 0xF0 }), (0x20001, { val := 0xFF }), (0x20002, { val := 0xFF }), (0x20003, { val := 0x80 }),
   (0x20004, { val := 0 }), (0x20005, { val := 0 }), (0x20006, { val := 0 }), (0x20007, { val := 0 })]

def tM : Strand := strand [(1, 0x20000), (2, 0x1122334455667788), (3, 0x20001), (4, 0x0200000000000000), (5, 0x100000), (6, 0xFFFF8)]
def sHit : State := base tM { chord := some chord1, clean := clean8 }
def sPlate : State := { base tM plateStation with mem := [(2 ^ 52 + 0xFFFF8, 0x80), (2 ^ 52 + 0xFFFF9, 0x81)] }

theorem witness_ScalarLoads :
    ok tM sHit 0 false [.s (.x 1)] [.s (.x 7)] = true ∧ ((sHit.sval tM (.x 1)) + (0#12).signExtend 64).toNat % 8 = 0 ∧
    gvaOk sHit.cfg ((sHit.sval tM (.x 1)) + (0#12).signExtend 64) = true ∧
    (∀ i, i < 8 → (sHit.station sHit.curStation).heldByte (0x20000 + i) = some { val := ((clean8.map (·.2.val))[i]?).getD 0 }) ∧
    xval (after (.ld .d (.x 7) (.x 1) 0 false) sHit) 0 7 = some 0x80FFFFF0 ∧
    xval (after (.ld .w (.x 7) (.x 1) 0 false) sHit) 0 7 = some 0xFFFFFFFF80FFFFF0 ∧
    xval (after (.ld .wu (.x 7) (.x 1) 0 false) sHit) 0 7 = some 0x80FFFFF0 ∧
    xval (after (.ld .h (.x 7) (.x 1) 0 false) sHit) 0 7 = some 0xFFFFFFFFFFFFFFF0 ∧
    xval (after (.ld .bu (.x 7) (.x 3) (-1) false) sHit) 0 7 = some 0xF0 ∧
    -- a miss, of one byte of the access
    ok tM (base tM) 0 true [.s (.x 1)] [.s (.x 7)] = true ∧ ((base tM).station 0).heldByte 0x20007 = none ∧
    (cellS (after (.ld .d (.x 7) (.x 1) 0 true) (base tM)) 0 (.x 7)).map (·.full) = some false ∧
    ((after (.ld .d (.x 7) (.x 1) 0 true) (base tM)).reqs.map fun e => (e.2.kind, e.2.gva)) = [(.fill false, 0x20000)] := by
  decide +kernel

theorem witness_ScalarStores :
    ok tM (base tM) 0 false [.s (.x 1), .s (.x 2)] [] = true ∧ gvaOk (base tM).cfg 0x20000 = true ∧
    gvaOk (base tM).cfg 0x0200000000000000 = false ∧
    (let u := after (.st .h (.x 2) (.x 1) 6 false) (base tM)
     ((u.station 0).dirtyByte 0x20006 = some 0x88 ∧ (u.station 0).dirtyByte 0x20007 = some 0x77 ∧
      (u.station 0).dirtyByte 0x20005 = none ∧ (u.station 0).dirtyByte 0x20008 = none)) ∧
    -- misaligned comes before out of range; the neighbours of the bound
    gridSt (after (.st .d (.x 2) (.x 1) 4 false) (base tM)) = some (.ending, 0x080) ∧
    gridSt (after (.ld .h (.x 7) (.x 4) 1 false) (base tM)) = some (.ending, 0x080) ∧
    gridSt (after (.ld .h (.x 7) (.x 4) 0 false) (base tM)) = some (.ending, 0x082) ∧
    gridSt (after (.st .b (.x 2) (.x 4) 0 false) (base tM)) = some (.ending, 0x082) := by decide +kernel

theorem witness_PlateLoadsAndStores :
    ok tM sPlate 0 false [.s (.x 6)] [.s (.x 7)] = true ∧ ok tM sPlate 0 false [.s (.x 6), .s (.x 2)] [] = true ∧
    Memory.wf sPlate.mem = true ∧ sPlate.plateSize 0 = 0x100000 ∧ (sPlate.station 0).protOk tM.protKind false 0xFFFF8 8 = true ∧
    (sPlate.station 0).protOk tM.protKind true 0xFFFF8 8 = true ∧ sPlate.readPoison (.plate 0 0xFFFF8) 8 = none ∧
    -- the last doubleword of the plate, and the first byte beyond it
    xval (after (.ldl .h (.x 7) (.x 6) 0 false) sPlate) 0 7 = some 0xFFFFFFFFFFFF8180 ∧
    xval (after (.ldl .d (.x 7) (.x 6) 0 false) sPlate) 0 7 = some 0x8180 ∧
    xval (after (.ldl .b (.x 7) (.x 5) 0 false) sPlate) 0 7 = some 0 ∧
    (after (.ldl .b (.x 7) (.x 5) 0 false) sPlate).ctxs.map (·.2.oor) = [some 0x100000] ∧
    (after (.stl .d (.x 2) (.x 5) 0 false) sPlate).mem = sPlate.mem ∧
    ((after (.stl .h (.x 2) (.x 6) 0 false) sPlate).mem.map fun c => (c.1, c.2.toNat)) =
      [(2 ^ 52 + 0xFFFF8, 0x88), (2 ^ 52 + 0xFFFF9, 0x77)] ∧
    gridSt (after (.ldl .h (.x 7) (.x 3) 0 false) sPlate) = some (.ending, 0x080) ∧
    gridSt (after (.stl .h (.x 2) (.x 3) 0 false) sPlate) = some (.ending, 0x080) := by decide +kernel

/-! ### The examination at issue, faults and traps -/

def tE : Strand := { strand [(1, 5), (2, 6)] with utvec := 0x30000, x := (regs [(1, 5), (2, 6)]).set 3 { val := 0, full := false } }
def poison1 : Poison := { pc := 0x10000, addr := 0x20000, code := 0x1C0, tag := 1 }
def tP : Strand := { strand [(1, 5), (2, 6)] with x := (regs [(2, 6)]).set 1 { val := 5, poison := some poison1 } }

def sEnding : State := { base tP with grids := [(1, { grid1 with st := .ending })] }

theorem witness_IssueExaminationAndFaults :
    -- usable operands: scalars and vectors of the strand and of the chord
    (base tE).curStrand = some tE ∧ tE.loose = false ∧ ok tE (base tE) 0 true [.s (.x 1), .s (.y 15), .v (.v 15), .v (.w 7)] [.s (.x 2)] = true ∧
    -- an empty source after a usable one: the trap names register 3 with KIND 1 and REG 3, or the strand waits
    ((base tE).scell 0 tE (.x 3)).full = false ∧
    (after (.add (.x 4) (.x 1) (.x 3) true) (base tE)).curStrand.map (fun t => (t.pc, t.uepc, t.ucause)) =
      some (0x30000, 0x10000, BitVec.ofNat 64 (2 ^ 21 + 3 * 2 ^ 16 + 0x280)) ∧
    holdOf (after (.add (.x 4) (.x 1) (.x 3) false) (base tE)) 0 = some (.source 1 3) ∧
    -- poison: the fault of the load
    (base tP).curStrand = some tP ∧ tP.loose = false ∧ (base tP).gridOf tP.grid = some grid1 ∧ grid1.st = .running ∧
    ((base tP).scell 0 tP (.x 1)).full = true ∧ ((base tP).scellNow 0 tP (.x 1)).poison = some poison1 ∧
    ((base tP).die (base tP).curDie).mgmt.length < 256 ∧
    gridSt (after (.add (.x 4) (.x 1) (.x 2) false) (base tP)) = some (.ending, 0x1C0) ∧
    (((after (.add (.x 4) (.x 1) (.x 2) false) (base tP)).die 0).mgmt.map fun r => (r.code, r.pc, r.addr)) = [(0x1C0, 0x10000, 0x20000)] ∧
    -- a later fault of an ended grid only counts
    (sEnding.gridOf 1).map (·.st) = some .ending ∧ ((sEnding.faultAt 0x080 1).die 0).lateflt = 1 ∧
    ((sEnding.faultAt 0x080 1).die 0).mgmt = [] := by
  decide +kernel

def tT : Strand := { strand [] with utvec := 0x30000, umask := 0x7, timer := { count := 3, arm := true, fired := true } }
def msg1 : Msg := { payload := 77, mtag := 9, ps := false, xr := false, src := 0, serial := 1, sender := 5 }

/-- At a boundary: with the message trap unmasked and a message there; with every mask clear. -/
def tT2 : Strand := { tT with umask := 0x5 }
def sMsg : State := base tT2 { chord := some chord1, mailbox := [msg1] }
def tT3 : Strand := { tT with umask := 0xE, timer := {} }

theorem witness_UserTraps :
    (base tT).curStrand = some tT ∧ tT.intrap = false ∧ tT.utvec ≠ 0 ∧ tT.frozen = none ∧ tT.hold = .none ∧
    -- TRAPU 63 with a handler, without one, and inside one; URET inside and outside
    (after (.trapu 63 false) (base tT)).curStrand.map (fun t => (t.pc, t.uepc, t.ucause, t.umask, t.intrap)) =
      some (0x30000, 0x10000, 63, 0xC, true) ∧
    gridSt (after (.trapu 5 false) (base (strand []))) = some (.ending, 5) ∧
    gridSt (after (.trapu 5 false) (base { tT with intrap := true })) = some (.ending, 0x283) ∧
    (after (.uret false) (base { tT with intrap := true, uepc := 0x40000, umask := 0x8 })).curStrand.map
      (fun t => (t.pc, t.umask, t.intrap)) = some (0x40000, 0xA, false) ∧
    gridSt (after (.uret false) (base tT)) = some (.ending, 0x047) ∧
    gridSt (after (.illegalInstruction 0x040) (base tT)) = some (.ending, 0x040) := by decide +kernel

/-- The order at a boundary: an event, then the timer, then a message, then nothing. -/
theorem witness_UserTraps_boundary :
    (after .userTrapEntry (base { tT with events := [⟨0x0C0⟩, ⟨0x0C1⟩] })).curStrand.map (fun t => (t.ucause, t.events.length)) = some (0x0C0, 1) ∧
    (after .userTrapEntry (base tT)).curStrand.map (fun t => (t.ucause, t.timer.fired)) = some (0x281, false) ∧
    tT2.intrap = false ∧ tT2.frozen = none ∧ tT2.hold = .none ∧ tT2.utvec ≠ 0 ∧ tT2.umask.getLsbD 1 = false ∧
    (sMsg.station sMsg.curStation).mailbox ≠ [] ∧ (sMsg.station sMsg.curStation).msgTrap = false ∧ sMsg.messageBelow sMsg.cur = false ∧
    (after .userTrapEntry sMsg).curStrand.map (·.ucause) = some 0x282 ∧
    tT3.timer.fired = false ∧ tT3.umask.getLsbD 0 = false ∧ (after .userTrapEntry (base tT3)).curStrand = some tT3 := by decide +kernel

def tF : Strand := { strand [(1, 5), (2, 6)] with priv := true }
/-- A caller in slot 1 whose x4 waits for the service with ticket 5. -/
def caller : Strand := { strand [] with tag := 2 }
def svcReq1 : SvcReq := { ticket := 5, ctx := 0, world := false, station := 0, n := 3, arg := 5, res := 7, tag := 2 }
def svcRes : PRes := { tag := 2, dst := .s (.x 4), pc := 0 }
def sSvc : State :=
  { base tF with strands := [(0, tF), (1, caller)], dies := State.reset.dies.set 0 { svcq := [svcReq1] }, results := [(7, svcRes)] }
def res7 : PRes := { tag := 1, dst := .s (.x 4), pc := 0, ready := true, value := 99 }
def res8 : PRes := { tag := 1, dst := .v (.v 4), pc := 0, ready := true, value := 98, xr := true }
def sRes : State := { base tF with results := [(7, res7), (8, res8)] }

theorem witness_ServiceAndArrival :
    ok tM (base tM) 0 false [.s (.x 2)] [.s (.x 7)] = true ∧ (base tM).svcWaiting (base tM).curDie < 64 ∧
    (base tM).fwPass tM.who 3 (base tM).curDie (fun _ => (base tM).svcHome (base tM).curDie) = true ∧
    (cellS (after (.svc (.x 7) (.x 2) 3 false) (base tM)) 0 (.x 7)).map (·.full) = some false ∧
    ((after (.svc (.x 7) (.x 2) 3 false) (base tM)).die 0).svcq.map (fun q => (q.n, q.arg, q.ctx)) = [(3, 0x1122334455667788, 0)] ∧
    -- SRET: no ticket; a ticket
    tF.priv = true ∧ ok tF (base tF) 0 false [.s (.x 1), .s (.x 2)] [] = true ∧ (∀ i : Fin 4, ((base tF).die i).svcq = []) ∧
    ok tF sSvc 0 false [.s (.x 1), .s (.x 2)] [] = true ∧ (sSvc.die 0).svcq = [svcReq1] ∧ svcReq1.ticket = sSvc.sval tF (.x 1) ∧
    tblGet sSvc.results 7 = some svcRes ∧ sSvc.slotOfTag 2 = some 1 ∧ sSvc.slot 1 = some caller ∧ caller.tag = 2 ∧
    xval (after (.sret (.x 2) (.x 1) false) sSvc) 1 4 = some 6 ∧
    -- the arrival of a scalar and of a vector result
    tblGet sRes.results 7 = some res7 ∧ sRes.svcOf 7 = none ∧ sRes.slotOfTag 1 = some 0 ∧ sRes.slot 0 = some tF ∧
    xval (after (.resultArrive 7) sRes) 0 4 = some 99 ∧ tblGet sRes.results 8 = some res8 ∧ sRes.svcOf 8 = none ∧
    vval (after (.resultArrive 8) sRes) 0 4 = some 98 := by decide +kernel

/-- JAL of a poisoned link register is the fault of its load; one of a full register jumps. -/
theorem witness_JumpsAndLinks_poison :
    (base tP).scell 0 tP (.x 1) = { val := 5, poison := some poison1 } ∧ ((base tP).scell 0 tP (.x 2)).poison = none ∧
    gridSt (after (.jal (.x 1) 2) (base tP)) = some (.ending, 0x1C0) ∧
    pcOf (after (.jal (.x 2) 2) (base tP)) 0 = some 0x10008 := by decide +kernel

/-! ### Vector instructions -/

/-- A read stream over the plate on q3 with one word there, and a write stream on q4. -/
def rdStream (w : VWord) : Stream :=
  { write := false, sla := true, desc := 0x2000000000000004, base := 0, buf := [(0, { val := w })] }
def wrStream : Stream := { write := true, sla := true, desc := 0x6000000000000004, base := 0 }

def tV : Strand :=
  { strand [(1, 3), (2, 0xFFFFFFFFFFFFFFFE), (3, 200)] with
    v := vregs [(1, vec 1 [100, 0x80, 0xFF, 7]), (2, vec 1 [100, 0xFF, 0x80, 7]), (3, vec 1 [9, 9, 9, 9, 9]),
                (4, vec 4 [0x3F800000, 0x7F800001, 0x80000000, 0xFF800000]), (5, vec 4 [0x40000000, 0x3F800000, 0, 0x7F800000]),
                (6, vec 2 [0x3F80, 0x7F81, 0x8000])]
    p := (Vector.replicate 8 0).set 1 0xD
    ports := ((Vector.replicate 8 .unbound).set 3 (.stream (rdStream (vec 1 [1, 2, 3])))).set 4 (.stream wrStream) }

/-- The bytes of a v register, from element 0 on. -/
def bytesOfV (s : State) (i : Fin 16) (n : Nat) : Option (List Nat) := (vval s 0 i).map fun v => (List.range n).map (elem 1 v)

theorem witness_VectorInteger :
    ok tV (base tV) 1 false [.v (.v 1), .v (.v 2)] [.v (.v 3)] = true ∧ ok tV (base tV) 1 true [.v (.v 1), .s (.x 1)] [.v (.v 3)] = true ∧
    ok tV (base tV) 1 false [.v (.v 1)] [.v (.v 3)] = true ∧ ok tV (base tV) 1 false [.v (.q 3), .v (.v 2)] [.v (.q 4)] = true ∧
    ok tV (base tV) 1 false [.v (.v 1), .v (.v 2), .v (.v 3)] [.v (.v 3)] = true ∧
    ok tV (base tV) 1 false [.v (.v 1), .s (.x 1), .v (.v 3)] [.v (.v 3)] = true ∧
    ok tV (base tV) 1 false [.v (.v 1), .v (.v 3)] [.v (.v 3)] = true ∧
    -- saturation to 127 and to −127, and the predicate 0b1101 that leaves element 1
    bytesOfV (after (.vadd .i8 (.v 3) (.v 1) (.v 2) 0 false) (base tV)) 3 5 = some [127, 0x81, 0x81, 14, 0] ∧
    bytesOfV (after (.vadd .i8 (.v 3) (.v 1) (.v 2) 1 false) (base tV)) 3 5 = some [127, 9, 0x81, 14, 9] ∧
    (after (.vadd .i8 (.v 3) (.v 1) (.v 2) 0 false) (base tV)).curStrand.map (·.msticky) = some 32 ∧
    bytesOfV (after (.vsrl .i8 (.v 3) (.v 1) (.v 2) 0 false) (base tV)) 3 4 = some [100 / 16, 1, 0xFF, 0] ∧
    bytesOfV (after (.vaddVi .i8 (.v 3) (.v 1) (-16) 0 false) (base tV)) 3 4 = some [84, 0x81, 0xEF, 0xF7] ∧
    bytesOfV (after (.vmulhVs .i8 (.v 3) (.v 1) (.x 2) 0 false) (base tV)) 3 3 = some [0xFF, 1, 0] ∧
    bytesOfV (after (.vmadVi .i8 (.v 3) (.v 1) 2 0 false) (base tV)) 3 4 = some [127, 0x81, 7, 23] ∧
    bytesOfV (after (.vabs .i8 (.v 3) (.v 1) 0 false) (base tV)) 3 4 = some [100, 127, 1, 7] ∧
    bytesOfV (after (.vneg .i8 (.v 3) (.v 1) 0 false) (base tV)) 3 4 = some [0x9C, 127, 1, 0xF9] := by decide +kernel

/-- The patterns of 4-byte elements of a v register. -/
def wordsOfV (s : State) (i : Fin 16) (n : Nat) : Option (List Nat) := (vval s 0 i).map fun v => (List.range n).map (elem 4 v)

theorem witness_VectorFloatResults :
    ok tV (base tV) 1 false [.v (.v 4), .v (.v 5)] [.v (.v 3)] = true ∧ ok tV (base tV) 1 false [.v (.v 4), .s (.x 1)] [.v (.v 3)] = true ∧
    ok tV (base tV) 1 false [.v (.v 4), .v (.v 5), .v (.v 4)] [.v (.v 4)] = true ∧ ok tV (base tV) 1 false [.v (.v 4)] [.v (.v 3)] = true ∧
    ok tV (base tV) 1 false [.v (.v 4), .s (.x 1), .v (.v 4)] [.v (.v 4)] = true ∧
    -- 1 + 2, a signalling NaN made quiet with NV, −0 + 0 = +0, and −∞ + ∞ the default NaN
    wordsOfV (after (.fadd .f32 (.v 3) (.v 4) (.v 5) 0 false) (base tV)) 3 4 = some [0x40400000, 0x7FC00001, 0, 0x7FC00000] ∧
    ((after (.fadd .f32 (.v 3) (.v 4) (.v 5) 0 false) (base tV)).curStrand.map fun t => t.msticky.getLsbD 0) = some true ∧
    wordsOfV (after (.fmin .f32 (.v 3) (.v 4) (.v 5) 0 false) (base tV)) 3 1 = some [0x3F800000] ∧
    wordsOfV (after (.fneg .f32 (.v 3) (.v 4) 0 false) (base tV)) 3 1 = some [0xBF800000] ∧
    -- stochastic rounding at BF16 under MODE.SR advances SEED, and not at FP32
    ((after (.fadd .bf16 (.v 3) (.v 6) (.v 6) 0 false) (base { tV with mode := 0x10 })).curStrand.map (·.seed)) = some 1 ∧
    ((after (.fadd .f32 (.v 3) (.v 6) (.v 6) 0 false) (base { tV with mode := 0x10 })).curStrand.map (·.seed)) = some 0 := by decide +kernel

theorem witness_VectorComparisons :
    ok tV (base tV) 1 false [.v (.v 1), .v (.v 2)] [] = true ∧
    -- 100, −128, −1, 7 against 100, −1, −128, 7
    ((after (.vcmpLt .i8 2 (.v 1) (.v 2) 1 false) (base tV)).curStrand.map fun t => t.p[(2 : Fin 8)].toNat % 16) = some 0 ∧
    ((after (.vcmpLt .i8 2 (.v 1) (.v 2) 0 false) (base tV)).curStrand.map fun t => t.p[(2 : Fin 8)].toNat % 16) = some 2 ∧
    ((after (.vcmpLtu .i8 2 (.v 2) (.v 1) 0 false) (base tV)).curStrand.map fun t => t.p[(2 : Fin 8)].toNat % 16) = some 4 ∧
    ((after (.fcmpUn .f32 2 (.v 4) (.v 5) 0 false) (base tV)).curStrand.map fun t => t.p[(2 : Fin 8)].toNat % 65536) = some 0xF0 ∧
    ((after (.fcmpEq .f32 2 (.v 4) (.v 5) 0 false) (base tV)).curStrand.map fun t => t.p[(2 : Fin 8)].toNat % 65536) = some 0xF00 ∧
    -- 2.5 and −2.5 by each mode
    (([RM.rne, .rtz, .rdn, .rup].map fun r => ((roundInt r false 5 (-1)).1, (roundInt r true 5 (-1)).1)) =
      [(2, -2), (2, -2), (2, -3), (3, -2)]) := by decide +kernel

theorem witness_VectorMovement :
    ok tV (base tV) 1 false [.v (.v 1), .v (.v 2)] [.v (.v 3)] = true ∧ ok tV (base tV) 1 false [.v (.v 1)] [.v (.v 3)] = true ∧
    ok tV (base tV) 1 false [.v (.v 1), .s (.x 1)] [.v (.v 3)] = true ∧ ok tV (base tV) 1 false [.s (.x 1)] [.v (.v 3)] = true ∧
    ok tV (base tV) 1 false [.v (.v 1), .s (.x 1)] [.s (.x 4)] = true ∧ ok tV (base tV) 1 false [] [.v (.v 3)] = true ∧
    ok tV (base tV) 1 false [.s (.x 2), .s (.x 1)] [] = true ∧ ok tV (base tV) 1 false [] [.s (.x 4)] = true ∧
    bytesOfV (after (.vsel .i8 (.v 3) (.v 1) (.v 2) 1 false) (base tV)) 3 4 = some [100, 0xFF, 0xFF, 7] ∧
    bytesOfV (after (.vzip .i8 (.v 3) (.v 1) (.v 2) 0 false) (base tV)) 3 4 = some [100, 100, 0x80, 0xFF] ∧
    bytesOfV (after (.vuzp .i8 (.v 3) (.v 1) (.v 2) 0 false) (base tV)) 3 2 = some [100, 0xFF] ∧
    bytesOfV (after (.vslideUp .i8 (.v 3) (.v 1) (.x 1) 0 false) (base tV)) 3 5 = some [0, 0, 0, 100, 0x80] ∧
    bytesOfV (after (.vslideDn .i8 (.v 3) (.v 1) (.x 3) 0 false) (base tV)) 3 2 = some [0, 0] ∧
    bytesOfV (after (.vperm .i8 (.v 3) (.v 1) (.v 3) 0 false) (base tV)) 3 1 = some [0] ∧
    xval (after (.vext .i8 (.x 4) (.v 1) (.x 1) false) (base tV)) 0 4 = some 7 ∧
    wordsOfV (after (.vbcasthF32 (.v 3) 0x7F81 false) (base tV)) 3 1 = some [0x7FC10000] ∧
    -- −2 + i < 3 for five elements
    ((after (.vwhile .i8 2 (.x 2) (.x 1) false) (base tV)).curStrand.map fun t => t.p[(2 : Fin 8)].toNat) = some 31 ∧
    ((after (.pfirst .i8 2 1 1 false) (base tV)).curStrand.map fun t => t.p[(2 : Fin 8)].toNat) = some 1 ∧
    xval (after (.pcnt .i8 (.x 4) 1 0 false) (base tV)) 0 4 = some 3 ∧ xval (after (.vwidth .i64 (.x 4) false) (base tV)) 0 4 = some 32 := by
  decide +kernel

/-- A line of the instruction cache with VREP's body: two vector words, then BADVREP words. -/
def bodyLine : BitVec 512 := BitVec.ofNat 512 (0x80221800 * 2 ^ 32 + 0x04221801 * 2 ^ 64)
def sRep : State := base tV { chord := some chord1, icache := [(0x400, bodyLine, false)] }
def bodyOf (l : Nat) : Option (List (BitVec 32)) :=
  match sRep.fetchBody tV 0x10004 l with
  | .words ws _ => some ws
  | _ => none

theorem witness_VectorMovement_vrep :
    ok tV sRep 1 false [.s (.x 1)] [] = true ∧ bodyOf 1 = some [0x80221800] ∧ bodyOf 2 = some [0x80221800, 0x04221801] ∧
    (after (.vrep (.x 1) 0 false) sRep).curStrand.map (fun t => (t.pc, t.rep.map (·.left))) = some (0x10004, some 3) ∧
    (after (.vrep (.x 0) 0 false) sRep).curStrand.map (fun t => (t.pc, t.rep.map (·.left))) = some (0x10008, none) ∧
    gridSt (after (.vrep (.x 1) 1 false) sRep) = some (.ending, 0x04F) := by decide +kernel

/-- Sixteen clean bytes 1, 2, … at 0x20000, and the addresses of two gathered elements. -/
def clean16 : List (Nat × CleanByte) := (List.range 16).map fun i => (0x20000 + i, { val := BitVec.ofNat 8 (i + 1) })
def tG : Strand :=
  { strand [(1, 0x20000), (2, 0), (3, 0x20002), (4, 0xFFFF8)] with
    v := vregs [(1, vec 4 [4, 0xFFFFFFFC]), (2, vec 4 [0x11223344, 0x55667788]), (3, vec 1 [9, 9, 9, 9, 9, 9, 9, 9])]
    p := (Vector.replicate 8 0).set 1 0xFF }
def sG : State := base tG { chord := some chord1, clean := clean16 }
def sGP : State := { base tG plateStation with mem := [(2 ^ 52 + 0xFFFF8, 0x80), (2 ^ 52 + 0xFFFFF, 0x81)] }

theorem witness_VectorMemory :
    ok tG sG 1 false [.s (.x 1), .s (.x 2)] [.v (.v 3)] = true ∧ ok tG sG 1 false [.s (.x 1), .v (.v 1)] [.v (.v 3)] = true ∧
    ok tG sG 1 false [.s (.x 1), .s (.x 2), .v (.v 2)] [] = true ∧ ok tG sG 1 false [.s (.x 1), .v (.v 1), .v (.v 2)] [] = true ∧
    -- the active elements are 0 and 1 of four bytes
    ((List.range 64).filter fun j => active 4 (tG.pred 1) j) = [0, 1] ∧ gvaOk sG.cfg 0x20004 = true ∧ gvaOk sG.cfg 0x1FFFC = true ∧
    ((List.range 8).all fun x => (sG.station 0).heldByte (0x20000 + x) == some { val := BitVec.ofNat 8 (x + 1) }) = true ∧
    bytesOfV (after (.vld .i32 (.v 3) (.x 1) (.x 2) 1 false) sG) 3 9 = some [1, 2, 3, 4, 5, 6, 7, 8, 0] ∧
    (let u := after (.vst .i32 (.v 2) (.x 1) (.x 2) 1 false) sG
     ((List.range 10).map fun x => ((u.station 0).dirtyByte (0x1FFFF + x)).map BitVec.toNat)) =
      [none, some 0x44, some 0x33, some 0x22, some 0x11, some 0x88, some 0x77, some 0x66, some 0x55, none] ∧
    -- element 1 of the offsets is −4
    (let u := after (.vscat .i32 (.v 2) (.x 1) (.v 1) 1 false) sG
     ((List.range 3).map fun x => ((u.station 0).dirtyByte (0x1FFFC + 4 * x)).map BitVec.toNat)) = [some 0x88, none, some 0x44] ∧
    gridSt (after (.vld .i32 (.v 3) (.x 3) (.x 2) 1 false) sG) = some (.ending, 0x088) := by decide +kernel

/-- A gather within the held bytes: offsets 4 and 8. -/
def tG2 : Strand := { tG with v := tG.v.set 1 { val := vec 4 [4, 8] } }
theorem witness_VectorMemory_gather :
    ok tG2 (base tG2 { chord := some chord1, clean := clean16 }) 1 false [.s (.x 1), .v (.v 1)] [.v (.v 3)] = true ∧
    ((after (.vgath .i32 (.v 3) (.x 1) (.v 1) 1 false) (base tG2 { chord := some chord1, clean := clean16 })).results.map
      fun e => (e.2.ready, elem 4 e.2.value 0, elem 4 e.2.value 1)) = [(true, 0x08070605, 0x0C0B0A09)] := by decide +kernel

/-- The station holds six of the eight bytes that the load reads: the whole line is fetched, and all eight bytes wait for it. -/
def sMiss : State := base tG { chord := some chord1, clean := clean16.take 6 }
theorem witness_VectorLoadsThatMiss :
    ok tG sMiss 1 false [.s (.x 1), .s (.x 2)] [.v (.v 3)] = true ∧ (sMiss.station 0).heldByte 0x20006 = none ∧
    active 4 (tG.pred 1) 1 = true ∧ active 4 (tG.pred 1) 2 = false ∧
    (let u := after (.vld .i32 (.v 3) (.x 1) (.x 2) 1 false) sMiss
     (u.slot 0).map (fun t => (t.v[(3 : Fin 16)]).full) = some false ∧
      u.results.map (fun e => (e.1, [(0, 0x20000), (6, 0x20006), (7, 0x20007)].all e.2.pend.contains, e.2.ready)) = [(100, true, false)] ∧
      u.reqs.map (fun e => (e.2.kind, e.2.gva, e.2.res)) = [(.fill false, 0x20000, some 100)] ∧ pcOf u 0 = some 0x10004) ∧
    ok tG2 (base tG2) 1 false [.s (.x 1), .v (.v 1)] [.v (.v 3)] = true ∧
    ((after (.vgath .i32 (.v 3) (.x 1) (.v 1) 1 false) (base tG2)).results.map fun e => (e.2.pend.map (·.2), e.2.ready)) =
      [([0x20004, 0x20005, 0x20006, 0x20007, 0x20008, 0x20009, 0x2000A, 0x2000B], false)] := by decide +kernel

theorem witness_PlateVectorAccess :
    ok tG sGP 1 false [.s (.x 4), .s (.x 2)] [.v (.v 3)] = true ∧ ok tG sGP 1 false [.s (.x 4), .s (.x 2), .v (.v 2)] [] = true ∧
    Memory.wf sGP.mem = true ∧ sGP.plateSize 0 = 0x100000 ∧ (sGP.station 0).protOk tG.protKind true 0xFFFF8 8 = true ∧
    (sGP.station 0).protOk tG.protKind false 0xFFFFC 4 = true ∧ sGP.readPoison (.plate 0 0xFFFFC) 4 = none ∧
    -- the last two words of the plate
    wordsOfV (after (.vlds .i32 (.v 3) (.x 4) (.x 2) 1 false) sGP) 3 2 = some [0x80, 0x81000000] ∧
    ((after (.vsts .i32 (.v 2) (.x 4) (.x 2) 1 false) sGP).mem.map fun c => (c.1 - 2 ^ 52, c.2.toNat)) =
      [(0xFFFF8, 0x44), (0xFFFF9, 0x33), (0xFFFFA, 0x22), (0xFFFFB, 0x11), (0xFFFFC, 0x88), (0xFFFFD, 0x77), (0xFFFFE, 0x66), (0xFFFFF, 0x55)] ∧
    gridSt (after (.vlds .i32 (.v 3) (.x 3) (.x 2) 1 false) sGP) = some (.ending, 0x088) ∧
    gridSt (after (.vsts .i32 (.v 3) (.x 3) (.x 2) 1 false) sGP) = some (.ending, 0x088) := by decide +kernel

/-! ### Conversion, quantisation and the special operations -/

/-- 1.5, −2.5, 300 and a NaN in FP32; a block of bytes. -/
def tC : Strand :=
  { strand [] with
    v := vregs [(1, vec 4 [0x3FC00000, 0xC0200000, 0x43960000, 0x7FC00000]), (2, vec 1 [1, 0xFE, 127, 0x80]), (3, vec 1 [9, 9, 9, 9, 9]),
                (4, vec 1 [64, 32]), (5, vec 1 [133, 255]), (6, vec 1 [0, 242, 81, 161, 80])]
    p := (Vector.replicate 8 0).set 1 0xFF }

theorem witness_ConversionResults :
    ok tC (base tC) 1 false [.v (.v 1)] [.v (.v 3)] = true ∧ tC.cvmTrap = false ∧
    -- RNE gives 2, −2, saturates 300 to 127, and gives 0 for the NaN; elements beyond are 0; flags SAT, NX, NV
    bytesOfV (after (.vcvt .i8 .f32 .mode (.v 3) (.v 1) 0 false) (base tC)) 3 5 = some [2, 0xFE, 127, 0, 0] ∧
    (after (.vcvt .i8 .f32 .mode (.v 3) (.v 1) 0 false) (base tC)).curStrand.map (·.msticky) = some 0x31 ∧
    bytesOfV (after (.vcvt .i8 .f32 (.explicit .rdn) (.v 3) (.v 1) 1 false) (base tC)) 3 5 = some [1, 0xFD, 9, 9, 9] ∧
    wordsOfV (after (.vcvt .f32 .i8 .mode (.v 3) (.v 2) 0 false) (base tC)) 3 4 = some [0x3F800000, 0xC0000000, 0x42FE0000, 0xC3000000] := by
  decide +kernel

theorem witness_Quantisation :
    tC.cvmTrap = false ∧ ok tC (base tC) 1 false [.v (.v 1)] [.v (.v 8), .v (nextReg (.v 8))] = true ∧
    ok tC (base tC) 1 false [.v (.v 1)] [.v (.v 8)] = true ∧ ok tC (base tC) 1 false [.v (.v 4), .v (nextReg (.v 4))] [.v (.v 8)] = true ∧
    DqFmt.psBits .ps3 = some 2 ∧ ({ val := 0, xr := true } : VCell).xr ≠ tC.xr ∧
    -- R87: 64 · 2^(133 − 133) and 32 · 2^(133 − 133)
    wordsOfV (after (.vdq .f32 .mx .mode (.v 8) (.v 4) 0 false) (base tC)) 8 2 = some [0x42800000, 0x42000000] ∧
    gridSt (after (.vdq .f32 .ps3 .mode (.v 8) (.v 4) 0 false) (base { tC with mode := 2 })) = some (.ending, 0x0CB) := by decide +kernel

theorem witness_SpecialVectorResults :
    ok tC (base tC) 1 false [.v (.v 2)] [.v (.v 3)] = true ∧ 2 ^ (7#5).toNat < 256 / ETy.size .i8 ∧ tC.cvmTrap = false ∧
    -- the maximum with the neighbour of index bit 0 of 1, −2, 127, −128
    bytesOfV (after (.vmaxx .i8 (.v 3) (.v 2) 0 0 false) (base tC)) 3 4 = some [1, 1, 127, 127] ∧
    -- trits: 0 is five times −1, 242 five times 1
    bytesOfV (after (.vunpk5 (.v 3) (.v 6) 0 0 false) (base tC)) 3 10 = some [0xFF, 0xFF, 0xFF, 0xFF, 0xFF, 1, 1, 1, 1, 1] ∧
    -- 1, −2 → −1, 127 → 1, −128 → −1, 0: 2 + 0·3 + 2·9 + 0·27 + 1·81
    bytesOfV (after (.vpack5 (.v 3) (.v 2) 0 0 false) (base tC)) 3 1 = some [101] := by decide +kernel

def sfuReq1 : SfuReq := { tag := 1, res := 7, fn := .rcp, f32 := true, rm := .rne, src := vec 4 [0x40000000, 0x7F800000], pred := 0xFF }
def sfuRes : PRes := { tag := 1, dst := .v (.v 4), pc := 0 }
def sSfu : State := { base tC { chord := some chord1, sfu := [sfuReq1] } with results := [(7, sfuRes)] }
def sSfuFull : State := base tC { chord := some chord1, sfu := List.replicate 16 sfuReq1 }

theorem witness_ReductionsAndSpecialFunctions :
    ok tC (base tC) 1 false [.v (.v 2)] [.v (.v 3)] = true ∧
    bytesOfV (after (.vred .add .i8 (.v 3) (.v 2) 0 false) (base tC)) 3 2 = some [0xFE, 0] ∧
    bytesOfV (after (.vred .min .i8 (.v 3) (.v 2) 1 false) (base tC)) 3 2 = some [0x80, 0] ∧
    bytesOfV (after (.vred .maxu .i8 (.v 3) (.v 2) 1 false) (base tC)) 3 2 = some [0xFE, 0] ∧
    bytesOfV (after (.vred .min .i8 (.v 3) (.v 2) 2 false) (base tC)) 3 2 = some [127, 0] ∧
    ((base tC).station 0).sfu.length < 16 ∧ 16 ≤ (sSfuFull.station 0).sfu.length ∧ ok tC sSfuFull 1 false [.v (.v 1)] [.v (.v 3)] = true ∧
    ((after (.vsfu .exp2 .f32 (.v 3) (.v 1) 0 false) (base tC)).station 0).sfu.length = 1 ∧
    pcOf (after (.vsfu .exp2 .f32 (.v 3) (.v 1) 0 false) sSfuFull) 0 = some 0x10000 ∧
    -- the reciprocals of 2 and ∞
    (sSfu.station 0).sfu = [sfuReq1] ∧ tblGet sSfu.results 7 = some sfuRes ∧
    ((after (.vsfuServe 0) sSfu).results.map fun e => (e.2.ready, elem 4 e.2.value 0, elem 4 e.2.value 1)) = [(true, 0x3F000000, 0)] := by
  decide +kernel

/-! ### The matrix engine -/

def tX : Strand := { strand [(1, 0x0BF), (2, 0x800), (3, 0x20000), (4, 0x20001), (5, 0x0200000000000000), (6, 64), (7, 1), (8, 0x40000000000)]
  with v := vregs [(1, vec 1 [3]), (2, vec 1 [9])] }
def mitem (e : MEntry) : MItem := { n := 3, tag := 1, grid := 1, slot := 0, pc := 0x10000, e := e }
def engine (l : List MEntry) : Engine := { queue := l.map mitem, entered := 5 }
def sEng (g : Engine) : State := base tX { plateStation with eng := g }
def sFull : State := sEng (engine (List.replicate 16 (.mzero false)))

theorem witness_MatrixIssue :
    (sEng {}).curStrand = some tX ∧ tX.loose = false ∧ tX.hold = .none ∧ ok tX (sEng {}) 2 false [.s (.x 2)] [] = true ∧
    ((sEng {}).station 0).eng.queue.length < 16 ∧ 16 ≤ (sFull.station 0).eng.queue.length ∧ tX.ahead 2 none = false ∧
    ok tX (sEng {}) 2 false [.v (.v 1)] [] = true ∧ ok tX (sEng { mxint := true }) 2 false [.v (.v 1), .v (.v 2)] [] = true ∧
    ok tX (sEng {}) 2 false [.s (.x 7)] [.s (.x 9)] = true ∧ ok tX (sEng {}) 2 false [.s (.x 6), .s (.x 7), .s (.x 8)] [] = true ∧
    (((after (.mcfg (.x 2) false) (sEng {})).station 0).eng.queue.map (·.e)) = [.mcfg 0x800] ∧
    gridSt (after (.mcfg (.x 1) false) (sEng {})) = some (.ending, 0x111) ∧
    (((after (.mstep (.v 1) (.v 2) 7 false) (sEng {})).station 0).eng.queue.map (·.e)) = [.mstep 7 (vec 1 [3]) 0] ∧
    (((after (.mstep (.v 1) (.v 2) 3 false) (sEng { mxint := true })).station 0).eng.queue.map (·.e)) = [.mstep 3 (vec 1 [3]) (vec 1 [9])] ∧
    gridSt (after (.mstep (.v 1) (.v 2) 4 false) (sEng { mg := 3 })) = some (.ending, 0x112) ∧
    holdOf (after (.mzero true false) sFull) 0 = some (.issue .engine) ∧
    (((after (.mdrain .f32 .none false (.x 6) (.x 0) (.x 0) false) (sEng {})).station 0).eng.queue.length) = 1 ∧
    gridSt (after (.mdrain .f32 .none false (.x 7) (.x 0) (.x 0) false) (sEng {})) = some (.ending, 0x090) ∧
    gridSt (after (.mdrain .f32 .none false (.x 5) (.x 0) (.x 0) false) (sEng {})) = some (.ending, 0x110) := by decide +kernel

set_option maxRecDepth 16384 in
/-- MWAIT and MLDW: base 128-aligned in the plate, a GVA, misaligned, no GVA; a latch that is loading. -/
theorem witness_MatrixIssue_wait :
    (sEng {}).engDone 0 tX 0 = true ∧ (sEng (engine [.mzero false])).engDone 0 tX 5 = false ∧
    holdOf (after (.mwait false) (sEng (engine [.mzero false]))) 0 = some (.mwait 5) ∧
    ok tX (sEng {}) 2 false [.s (.x 3)] [] = true ∧ (sEng {}).latchFree 0 (sEng {}).nextId = true ∧
    (sEng { loading := some 2 }).latchFree 0 (sEng {}).nextId = false ∧
    ((sEng {}).station 0).protOk tX.protKind false 0x20000 4160 = true ∧ 0x20000 + 4160 ≤ (sEng {}).plateSize 0 ∧
    ((after (.mldwC64 true false (.x 3) false) (sEng {})).station 0).eng.loading = some 1 ∧
    ((after (.mldwT64 false false (.x 3) false) (sEng {})).station 0).eng.loading = some 1 ∧
    ((after (.mldwT64 false false (.x 3) false) (sEng { loading := some 2 })).station 0).eng.loading = some 2 ∧
    gridSt (after (.mldwC64 true false (.x 4) false) (sEng {})) = some (.ending, 0x090) ∧
    gridSt (after (.mldwC64 false false (.x 5) false) (sEng {})) = some (.ending, 0x092) := by decide +kernel

/-- A C64 image whose weight (k 1, n 2) is −3 and whose scale 2 is 0x85; a T64 image whose first segment's first trits are 1, −1. -/
def imageC : Nat := 0xFD * 2 ^ (8 * 129) + 0x85 * 2 ^ (8 * 4098)
def imageT : Nat := (List.range 832).foldr (fun i a => a * 256 + (if i = 0 then 2 + 0 * 3 + 9 + 27 + 81 else 121)) 0
def loadC : LatchLoad := { order := 4, started := true, base := 0, sla := true, tr := false, c64 := true, image := imageC }
def tL : Strand := { tX with hold := .mldw loadC }
def sL : State := base tL { plateStation with eng := { loading := some 1 } }
def mstatRes : PRes := { tag := 1, dst := .s (.x 4), pc := 0 }
def sStat : State := { sEng { (engine [.mstat 3 1 7, .mzero false]) with steps := 42 } with results := [(7, mstatRes)] }

theorem witness_MatrixPerforms :
    sL.slot 0 = some tL ∧ tL.hold = .mldw loadC ∧ loadC.started = true ∧ sL.latchPending 1 = false ∧ tL.frozen = none ∧
    loadC.poison = none ∧ loadC.c64 = true ∧ firstBad 0 (digits 1 832 imageT) = none ∧
    (let g := ((after (.mldwLoadDone 0) sL).station 0).eng
     (signedElem 1 (g.latch[(1 : Fin 2)].w.toNat / 2 ^ (8 * 129) % 256), g.latch[(1 : Fin 2)].scale.toNat / 2 ^ 16 % 256, g.loading)) =
      (-3, 0x85, none) ∧
    (t64Weights (digits 1 832 imageT)).take 3 = [1, 0xFF, 0] ∧ (latchOf false true imageT).tr = true ∧
    -- the entries performed
    ((sEng (engine [.mcfg 0xB05])).engHead 0).map (·.e) = some (.mcfg 0xB05) ∧
    (let g := ((after (.mcfgPerform 0) (sEng (engine [.mcfg 0xB05]))).station 0).eng
     (g.mxint, g.mg.val, g.bp.toNat, g.queue.length)) = (true, 3, 5, 0) ∧
    (let g := ((after (.mswapPerform 0) (sEng (engine [.mswap true false]))).station 0).eng
     (g.frontL.val, g.frontA.val)) = (1, 0) ∧
    ((after (.mswapPerform 0) (sEng { (engine [.mswap true false]) with loading := some 2 })).station 0).eng.queue.length = 1 ∧
    (let u := after (.mstatPerform 0) sStat
     ((u.station 0).eng.steps, u.results.map fun e => (e.2.value.toNat, e.2.ready))) = (0, [(42, true)]) := by decide +kernel

/-- A front latch of CSD8 weights: weight (k 0, n 0) is 3 with scale byte 0x98 = 8 · 2^19 / 2^19; one step of an activation 5. -/
def latch1 : Latch := { w := 3, scale := 0x98, csd := true }
def gStep : Engine := ({ latch := (Vector.replicate 2 {}).set 0 latch1, bp := 0 } : Engine).step 0 (vec 1 [5]) 0

theorem witness_MatrixStepArithmetic : gStep.steps = 1 ∧ accRaw gStep.acc[(0 : Fin 2)] 0 1 = 0 ∧
    accRaw gStep.acc[(0 : Fin 2)] 0 0 = 5 * 3 * 8 := by decide +kernel

def acc1 : AccSet := { raw := 0xFFFFFFFFFFFFFFFD, nan := 2 }
def engDrain : Engine := { (engine [.mdrain .i32 false 64 .none .rne false]) with acc := (Vector.replicate 2 {}).set 0 acc1, mg := 0, bp := 1 }
def drain1 : Drain := { item := mitem (.mdrain .i32 false 64 .none .rne false), dest := 64, len := 3, bytes := 0x030201, act := .none }
def sDrain : State := sEng { drain := some drain1 }

theorem witness_MatrixDrain :
    ((sEng engDrain).engHead 0).map (·.e) = some (.mdrain .i32 false 64 .none .rne false) ∧ ((sEng engDrain).station 0).eng.drain = none ∧
    -- −3 / 2 by RNE is −2; the NaN flag of element 1 makes it 0
    ((((after (.mdrainCapture 0) (sEng engDrain)).station 0).eng.drain).map fun d =>
      (d.len, d.bytes % 2 ^ 32, d.bytes / 2 ^ 32 % 2 ^ 32)) = some (1024, 0xFFFFFFFE, 0) ∧
    (sDrain.station 0).eng.drain = some drain1 ∧ (sDrain.station 0).eng.frozen = none ∧ Memory.wf sDrain.mem = true ∧
    64 + 3 ≤ sDrain.plateSize 0 ∧ sDrain.readPoison (.plate 0 64) 3 = none ∧ (sDrain.station 0).protOk .engine true 64 3 = true ∧
    (after (.mdrainWriteDone 0) sDrain).mem = [(2 ^ 52 + 64, 1), (2 ^ 52 + 65, 2), (2 ^ 52 + 66, 3)] := by decide +kernel

/-! ### Ports -/

/-- The scalar registers hold descriptors: x1 a read stream of 2 words of the plate, x2 its base, x3 a write stream of global addresses,
x4 a GVA base, x5 a malformed stream, x6 a channel to the neighbour with X one higher, x7 a misaligned base, x8 a GVA base out of
range, x9 a channel from the neighbour with X one lower, x10 a malformed channel, x12 the number 3. -/
def tQ : Strand := { strand [(1, 0x2000000000100004), (2, 0x1000), (3, 0x4000000000100004), (4, 0x40000001000), (5, 0x3000000000100004),
  (6, 0xD030000000000000), (7, 0x1001), (8, 0x0200000000000000), (9, 0x9800000000000000), (10, 0xB000000000000000), (12, 3)] with
  nm1 := 1, chordCsr := 0x0100 }
def sQ : State := base tQ plateStation
def q3 (f : Strand) (p : Port) : State := base { f with ports := f.ports.set 3 p } plateStation
def chan (send : Bool) (n : Nat) : Channel := { sends := send, desc := if send then 0xD030000000000000 else 0x9030000000000000, edge := false, peer := some (2, 3), credit := 4 - n, buf := List.replicate n { val := 7 } }
def readStr (n : Nat) : Stream := { write := false, sla := true, desc := 0x2000000000100004, base := 0x1000, buf := (List.range n).map fun x => (x, { val := 7 }) }
def writeStr (n : Nat) : Stream := { write := true, sla := true, desc := 0x6000000000100004, base := 0x1000, pos := n, buf := (List.range n).map fun x => (x, { val := 7 }) }
def gvStream : Stream := { (writeStr 1) with sla := false, desc := 0x4000000000100004, base := 0x40000001000 }

set_option maxRecDepth 4096 in
theorem witness_PortOperations_bind :
    ok tQ sQ 3 true [.s (.x 1), .s (.x 2)] [] = true ∧
    ok { tQ with stageCsr := 8 } (base { tQ with stageCsr := 8 }) 3 true [.s (.x 1), .s (.x 2)] [] = true ∧
    gridSt (after (.pbind 7 (.x 1) (.x 2) true) (base { tQ with stageCsr := 8 })) = some (.ending, 0x258) ∧
    gridSt (after (.pbind 3 (.x 1) (.x 2) true) (q3 tQ (.stream (readStr 0)))) = some (.ending, 0x259) ∧
    gridSt (after (.pbind 3 (.x 5) (.x 2) true) sQ) = some (.ending, 0x258) ∧
    gridSt (after (.pbind 3 (.x 10) (.x 2) true) sQ) = some (.ending, 0x258) ∧
    gridSt (after (.pbind 3 (.x 1) (.x 7) true) sQ) = some (.ending, 0x098) ∧
    portAt (after (.pbind 3 (.x 1) (.x 2) true) sQ) 0 3 = some (.stream (readStr 0)) ∧
    (gvStream.corners.all fun x => gvaOk sQ.cfg x && gvaOk sQ.cfg (x + 255)) = true ∧
    portAt (after (.pbind 3 (.x 3) (.x 4) true) sQ) 0 3 = some (.stream { gvStream with pos := 0, buf := [] }) ∧
    (({ gvStream with base := 0x0200000000000000 } : Stream).corners.any fun x => !gvaOk sQ.cfg x) = true ∧
    gridSt (after (.pbind 3 (.x 3) (.x 8) true) sQ) = some (.ending, 0x09A) ∧
    ok { tQ with loose := true } (base { tQ with loose := true }) 3 true [.s (.x 6), .s (.x 2)] [] = true ∧
    gridSt (after (.pbind 3 (.x 6) (.x 2) true) (base { tQ with loose := true })) = some (.ending, 0x05F) ∧
    gridSt (after (.pbind 2 (.x 6) (.x 2) true) (q3 tQ (.channel (chan true 0)))) = some (.ending, 0x258) ∧
    portAt (after (.pbind 3 (.x 6) (.x 2) true) sQ) 0 3 =
      some (.channel { sends := true, desc := 0xD030000000000000, edge := false, allow := 4 }) ∧
    portAt (after (.pbind 3 (.x 9) (.x 2) true) sQ) 0 3 =
      some (.channel { sends := false, desc := 0x9800000000000000, edge := true, allow := 1 }) := by decide +kernel

theorem witness_PortOperations_others :
    ok tQ sQ 3 true [] [.s (.x 11)] = true ∧ ok tQ sQ 3 true [.s (.x 12)] [] = true ∧
    pcOf (after (.punbind 3 true) sQ) 0 = some 0x10004 ∧
    gridSt (after (.punbind 6 true) (base { tQ with stageCsr := 8 })) = some (.ending, 0x258) ∧
    holdOf (after (.punbind 3 true) (q3 tQ (.stream (writeStr 1)))) 0 = some (.punbind 3) ∧
    (q3 tQ (.stream (writeStr 0))).streamReqs 1 3 = [] ∧
    portAt (after (.punbind 3 true) (q3 tQ (.stream (writeStr 0)))) 0 3 = some .unbound ∧
    portAt (after (.punbind 3 true) (q3 tQ (.stream (readStr 1)))) 0 3 = some .unbound ∧
    holdOf (after (.punbind 3 true) (q3 tQ (.channel (chan true 1)))) 0 = some (.punbind 3) ∧
    portAt (after (.punbind 3 true) (q3 tQ (.channel (chan false 1)))) 0 3 = some .unbound ∧
    xval (after (.pstat (.x 11) 3 true) sQ) 0 11 = some 0 ∧
    -- a read stream with one word fetched ahead and 2 left
    xval (after (.pstat (.x 11) 3 true) (q3 tQ (.stream (readStr 1)))) 0 11 = some 0x2000000002000002 ∧
    -- a write stream with one word not sent: room for 3, 1 left to write
    xval (after (.pstat (.x 11) 3 true) (q3 tQ (.stream (writeStr 1)))) 0 11 = some 0x6000000006000001 ∧
    xval (after (.pstat (.x 11) 3 true) (q3 tQ (.channel (chan true 1)))) 0 11 = some 0xE000000006000000 ∧
    gridSt (after (.pskip 3 (.x 12) true) sQ) = some (.ending, 0x25A) ∧
    ((portAt (after (.pskip 3 (.x 12) true) (q3 tQ (.stream (readStr 1)))) 0 3).map fun p => match p with
      | .stream x => x.pos | _ => 9) = some 2 ∧
    gridSt (after (.pskip 3 (.x 12) true) (q3 tQ (.channel (chan true 1)))) = some (.ending, 0x25B) ∧
    pcOf (after (.pskip 3 (.x 12) true) (q3 tQ (.channel { (chan false 0) with edge := true }))) 0 = some 0x10004 ∧
    portAt (after (.pskip 3 (.x 12) true) (q3 tQ (.channel (chan false 4)))) 0 3 =
      some (.channel { (chan false 4) with buf := [{ val := 7 }], returns := 3 }) ∧
    holdOf (after (.pskip 3 (.x 12) true) (q3 tQ (.channel (chan false 1)))) 0 = some (.pskip 3 2) := by decide +kernel

def t2 (c : Channel) : Strand := { tQ with tag := 2, index := 1, ports := (Vector.replicate 8 Port.unbound).set 3 (.channel c) }
def sPair (c d : Channel) : State :=
  let t : Strand := { tQ with ports := (Vector.replicate 8 Port.unbound).set 2 (.channel c) }
  { base t plateStation with strands := [(0, t), (1, t2 d)] }
def ch2 (send : Bool) (p : Nat × Fin 8) (n : Nat) : Channel := { (chan send n) with peer := some p }

theorem witness_PortWordsMove :
    (q3 tQ (.stream (readStr 1))).streamReqs 1 3 = [] ∧ (readStr 1).total = 2 ∧
    ((readStr 1).addr 1).toNat + 256 ≤ sQ.plateSize 0 ∧ (sQ.station 0).protOk tQ.protKind false ((readStr 1).addr 1).toNat 256 = true ∧
    (let s := { q3 tQ (.stream (readStr 1)) with mem := [(2 ^ 52 + 0x1100, 0x5A)] }
     portAt (after (.readStreamFetch 0 3) s) 0 3 =
      some (.stream { (readStr 1) with buf := [(0, { val := 7 }), (1, { val := 0x5A })] })) ∧
    ((writeStr 1).addr 0).toNat = 0x1000 ∧ (sQ.station 0).protOk tQ.protKind true 0x1000 256 = true ∧ Memory.wf sQ.mem = true ∧
    sQ.readPoison (.plate 0 0x1000) 256 = none ∧ (after (.writeStreamSend 0 3) (q3 tQ (.stream (writeStr 1)))).mem = [(2 ^ 52 + 0x1000, 7)] ∧
    (let u := after (.writeStreamSend 0 3) (q3 tQ (.stream gvStream))
     (u.reqs.map fun e => (e.1, e.2.gva, e.2.data), portAt u 0 3)) =
      ([(100, 0x40000001000, 7), (101, 0x40000001040, 0), (102, 0x40000001080, 0), (103, 0x400000010C0, 0)],
        some (.stream { gvStream with buf := [] })) ∧
    -- a channel word and a credit
    (sPair (ch2 false (2, 3) 0) (ch2 true (1, 2) 1)).findTag 2 = some (t2 (ch2 true (1, 2) 1)) ∧
    (let u := after (.channelWordArrive 0 2) (sPair (ch2 false (2, 3) 0) (ch2 true (1, 2) 1))
     (portAt u 0 2, portAt u 1 3)) =
      (some (.channel { (ch2 false (2, 3) 0) with buf := [{ val := 7 }] }), some (.channel { (ch2 true (1, 2) 1) with buf := [] })) ∧
    (let u := after (.channelCreditReturn 0 2) (sPair (ch2 true (2, 3) 1) { (ch2 false (1, 2) 0) with returns := 1 })
     (portAt u 0 2, portAt u 1 3)) =
      (some (.channel { (ch2 true (2, 3) 1) with credit := 4 }), some (.channel (ch2 false (1, 2) 0))) := by decide +kernel

/-! ### Far atomics, reservations, queues, phases and fences -/

/-- Page 2 (GVA 0x20000) is page 2 of station 0's plate, with R, W and bank operations. -/
def die1 : Die := { ctxTab := [(0, { valid := true, sect := 0xF })],
                    tlb := [{ ctx := 0, page := 2, leaf := 0xBA00000000020000, big := false }],
                    region := (Vector.replicate 64 (0, 0)).set 0 (0xA600000000000000, 0x0000FFFFFFFF0000) }
def tH : Strand := { strand [(1, 0x20000), (2, 0xFFFFFFFF), (3, 0x20004), (4, 0x0200000000000004), (5, 0x0200000000000000), (6, 7)] with
  v := vregs [(1, vec 8 [0x11, 0x22])] }
def sH (l : List (Nat × Req)) (m : List Host.Cell) : State :=
  { base tH plateStation with dies := State.reset.dies.set 0 die1, reqs := l, mem := m }
def s0 : State := sH [] []

set_option maxRecDepth 16384 in
theorem witness_RequestsToHomes :
    ok tH s0 0 true [.s (.x 1), .s (.x 2)] [.s (.x 9)] = true ∧ ok tH s0 0 true [.s (.x 1), .s (.x 2), .s (.x 6)] [.s (.x 6)] = true ∧
    ok tH s0 0 true [.s (.x 1)] [.s (.x 0)] = true ∧ ok tH s0 0 true [.s (.x 1), .v (.v 1)] [.s (.x 9)] = true ∧
    ok tH s0 0 true [.s (.x 1)] [.v (.v 2)] = true ∧ gvaOk s0.cfg 0x20000 = true ∧
    ((after (.amocas true (.x 6) (.x 1) (.x 2) true) s0).reqs.map fun e => (e.1, e.2.kind, e.2.stage)) = [(101, .amo 9 true, .toDtu)] ∧
    ((after (.amocas true (.x 6) (.x 1) (.x 2) true) s0).reqs.map fun e => (e.2.gva, e.2.a, e.2.b)) = [(0x20000, 0xFFFFFFFF, 7)] ∧
    (cellS (after (.amocas true (.x 6) (.x 1) (.x 2) true) s0) 0 (.x 6)).map (·.full) = some false ∧
    gridSt (after (.amoadd true (.x 9) (.x 3) (.x 2) true) s0) = some (.ending, 0x080) ∧
    gridSt (after (.amoadd false (.x 9) (.x 4) (.x 2) true) s0) = some (.ending, 0x082) ∧
    ((after (.lrw (.x 0) (.x 1) true) s0).reqs.map fun e => (e.2.kind, e.2.res)) = [(.lrw, none)] ∧
    ((after (.enqNw (.x 9) (.x 1) (.v 1) true) s0).reqs.map fun e => (e.2.kind, e.2.data.toNat)) = [(.enq true, 0x220000000000000011)] ∧
    gridSt (after (.deq (.v 2) (.x 3) true) s0) = some (.ending, 0x080) ∧
    ((after (.deq (.v 2) (.x 1) true) s0).results.map fun e => e.2.dst) = [.v (.v 2)] := by decide +kernel

/-- A request for the word at plate byte 0x20000 of station 0, translated there. -/
def rq (k : ReqKind) (a b : Word) : Req :=
  { kind := k, stage := .translated (.plate 0 0x20000), tag := 1, grid := 1, gva := 0x20000, a := a, b := b, res := some 7, order := 5 }
def amoS (op : Fin 16) (dbl : Bool) (old : List Host.Cell) (a b : Word) : State :=
  { sH [(5, rq (.amo op dbl) a b)] old with results := [(7, { tag := 1, dst := .s (.x 9), pc := 0 })] }
noncomputable def amoRes (op : Fin 16) (dbl : Bool) (old : List Host.Cell) (a b : Word) : Nat × List (Bool × Nat) :=
  let u := after (.bankAmoPerform 5) (amoS op dbl old a b)
  (bytesNat 8 fun i => memGet u.mem (2 ^ 52 + 0x20000 + i), u.results.map fun e => (e.2.ready, e.2.value.toNat))

/-- The word holds FE FF FF FF (−2 as a word) and a byte beyond it. -/
def old1 : List Host.Cell :=
  [(2 ^ 52 + 0x20000, 0xFE), (2 ^ 52 + 0x20001, 0xFF), (2 ^ 52 + 0x20002, 0xFF), (2 ^ 52 + 0x20003, 0xFF), (2 ^ 52 + 0x20004, 0x55)]

theorem witness_FarAtomicsPerform :
    (amoS 0 false old1 3 0).req 5 = some (rq (.amo 0 false) 3 0) ∧ (Loc.plate 0 0x20000).key = some (2 ^ 52 + 0x20000) ∧
    (amoS 0 false old1 3 0).recall (.plate 0 0x20000) 8 = none ∧ (amoS 0 false old1 3 0).readPoison (.plate 0 0x20000) 8 = none ∧
    (amoS 0 false old1 3 0).poisonAt (2 ^ 52 + 0x20000) = none ∧ (amoS 0 false old1 3 0).mayServe (rq (.amo 0 false) 3 0) = true ∧
    Memory.wf old1 = true ∧ (∀ i, i < 8 → (amoS 0 false old1 3 0).inPlate ((Loc.plate 0 0x20000).plus i) = true) ∧
    amoRes 0 false old1 3 0 = (0x5500000001, [(true, 0xFFFFFFFFFFFFFFFE)]) ∧
    amoRes 1 false old1 0xF 0 = (0x550000000E, [(true, 0xFFFFFFFFFFFFFFFE)]) ∧
    amoRes 4 false old1 1 0 = (0x55FFFFFFFE, [(true, 0xFFFFFFFFFFFFFFFE)]) ∧
    amoRes 6 false old1 1 0 = (0x5500000001, [(true, 0xFFFFFFFFFFFFFFFE)]) ∧
    amoRes 8 true old1 9 0 = (9, [(true, 0x55FFFFFFFE)]) ∧
    amoRes 9 true old1 9 8 = (0x55FFFFFFFE, [(true, 0x55FFFFFFFE)]) ∧
    amoRes 9 true old1 9 0x55FFFFFFFE = (9, [(true, 0x55FFFFFFFE)]) ∧
    -- 1.0 + 0.5, and a saturated sum
    amoRes 10 false [(2 ^ 52 + 0x20002, 0x80), (2 ^ 52 + 0x20003, 0x3F)] 0x3F000000 0 = (0x3FC00000, [(true, 0x3F800000)]) ∧
    amoRes 11 true [(2 ^ 52 + 0x20007, 0x7F)] 0x7FFFFFFFFFFFFFFF 0 = (0x7FFFFFFFFFFFFFFF, [(true, 0x7F00000000000000)]) := by
  decide +kernel

def keyR : Nat := 2 ^ 52 + 0x20000
def rsv (k : ReqKind) (l : List (Nat × Resv)) : State :=
  { sH [(5, rq k 0x0102 0)] [] with resv := l, results := [(7, { tag := 1, dst := .s (.x 9), pc := 0 })] }

theorem witness_ReservationsAtBank :
    (rsv .lrw []).req 5 = some (rq .lrw 0x0102 0) ∧ (rsv .lrw []).resvCount (keyHome keyR) = 0 ∧ (rsv .lrw []).resvQueued (keyHome keyR) = false ∧
    (rsv .lrw []).recall (.plate 0 0x20000) 8 = none ∧ (rsv .lrw []).poisonAt keyR = none ∧
    (let u := after (.bankLrw 5) (rsv .lrw [])
     (u.resv, u.results.map fun e => e.2.ready)) = ([(keyR, { holder := 1, grid := 1 })], [true]) ∧
    (rsv .lrw []).mayServe (rq .lrw 0x0102 0) = true ∧ (rsv .sch []).mayServe (rq .sch 0x0102 0) = true ∧
    (after (.bankLrw 5) (rsv .lrw [(keyR, { holder := 2, grid := 1 })])).resv =
      [(keyR, { holder := 2, grid := 1, waiters := [{ tag := 1, grid := 1, res := some 7, addr := 0x20000 }] })] ∧
    gridSt (after (.bankLrw 5) (rsv .lrw [(keyR, { holder := 1, grid := 1 })])) = some (.ending, 0x262) ∧
    (let u := after (.bankSch 5) (rsv .sch [(keyR, { holder := 1, grid := 1 })])
     (u.resv, u.mem.map fun c => (c.1, c.2.toNat))) = ([], [(keyR, 2), (keyR + 1, 1)]) ∧
    (let u := after (.bankRrel 5) (rsv .rrel [(keyR, { holder := 1, grid := 1 })])
     (u.resv, u.mem, u.reqs)) = ([], [], []) ∧
    gridSt (after (.bankSch 5) (rsv .sch [(keyR, { holder := 2, grid := 1 })])) = some (.ending, 0x261) ∧
    gridSt (after (.bankRrel 5) (rsv .rrel [])) = some (.ending, 0x261) := by decide +kernel

/-- A descriptor of context 0 with slots from GVA 0x20040, of two slots, with TAIL and HEAD as given; the slots' bytes. -/
def qmem (tail head : Byte) : List Host.Cell :=
  [(keyR, 0x40), (keyR + 2, 0x02), (keyR + 8, 1), (keyR + 15, 0x80)] ++ (if tail = 0 then [] else [(keyR + 16, tail)]) ++
  (if head = 0 then [] else [(keyR + 24, head)]) ++ [(keyR + 0x40, 0x77)]
def sQD (k : ReqKind) (tail head : Byte) : State :=
  { sH [(5, { rq k 0 0 with data := 0x99 })] (qmem tail head) with results := [(7, { tag := 1, dst := .v (.v 2), pc := 0 })] }

/-- The location that an access in the context's name reaches at once. -/
def reaches (s : State) (r : Req) (g : Word) (a : Access) : Option Loc :=
  match s.translateBehind r.station r.who g a with
  | .ok l _ => some l
  | _ => none

theorem witness_GlobalQueuesAtBank :
    (let s := sQD (.enq false) 0 0
     let q := s.qdesc (.plate 0 0x20000)
     s.req 5 = some { rq (.enq false) 0 0 with data := 0x99 } ∧ s.recall (.plate 0 0x20000) 64 = none ∧ s.slotBusy keyR 5 = false ∧
     s.slotOwn 5 = false ∧ q.valid = true ∧ q.mine (rq (.enq false) 0 0).who = true ∧ q.guestq = false ∧ q.full = false ∧ q.empty = true ∧
     gvaPkg (q.slot q.tail) = s.cfg.pkg ∧ q.slot q.tail = 0x20040 ∧
     ((match s.translate (rq (.enq false) 0 0).who (q.slot q.tail) .write with
       | .ok l _ => l.key
       | _ => none) = some (keyR + 0x40)) ∧
     (match s.translate (rq (.enq false) 0 0).who (q.slot q.head) .read with
       | .ok l _ => l.key
       | _ => none) = some (keyR + 0x40)) ∧
    ((sQD (.enq true) 2 0).qdesc (.plate 0 0x20000)).full = true ∧
    (let u := after (.bankEnq 5) (sQD (.enq false) 0 0)
     (u.homeNat (.plate 0 0x20010) 8, u.homeNat (.plate 0 0x20040) 8, u.results.map fun e => (e.2.ready, e.2.value.toNat))) =
      (1, 0x99, [(true, 0)]) ∧
    ((after (.bankEnq 5) (sQD (.enq true) 2 0)).results.map fun e => (e.2.ready, e.2.value.toNat)) = [(true, 2 ^ 64 - 1)] ∧
    (after (.bankEnq 5) (sQD (.enq false) 2 0)).queueWaits = [(keyR, [5])] ∧
    (after (.bankDeq 5) (sQD (.deq false) 2 2)).queueWaits = [(keyR, [5])] ∧
    (let u := after (.bankDeq 5) (sQD (.deq true) 3 2)
     (u.homeNat (.plate 0 0x20018) 8, u.results.map fun e => (e.2.ready, e.2.value.toNat % 2 ^ 512, e.2.value.toNat / 2 ^ 512))) =
      (3, [(true, 0x77, 2)]) := by decide +kernel

/-- An ENQ with room, and a DEQ of a queue that holds a packet: the premises, and the descriptor after each. -/
theorem witness_QueuePacketsMove :
    (let s := sQD (.enq false) 0 0
     let r := rq (.enq false) 0 0
     s.mayServe { r with data := 0x99 } = true ∧ tblGet s.queueWaits keyR = none ∧ s.readPoison (.plate 0 0x20000) 64 = none ∧
     s.poisonAt keyR = none ∧ reaches s r 0x20040 .write = some (.plate 0 0x20040) ∧ s.recall (.plate 0 0x20040) 64 = none ∧
     Memory.wf s.mem = true ∧ (∀ o ∈ [(0 : Nat), 64], ∀ i, i < 64 → s.inPlate ((Loc.plate 0 (0x20000 + o)).plus i) = true ∧
       ((Loc.plate 0 (0x20000 + o)).plus i).key = some (keyR + o + i)) ∧ keyR % 64 = 0 ∧
     (let q := (after (.bankEnq 5) s).qdesc (.plate 0 0x20000)
      (q.base, q.ctl, q.tail, q.head)) = (0x20040, 0x8000000000000001, 1, 0)) ∧
    (let s := sQD (.deq true) 3 2
     (s.qdesc (.plate 0 0x20000)).empty = false ∧ reaches s (rq (.deq true) 0 0) 0x20040 .read = some (.plate 0 0x20040) ∧
     s.cfg.deviceQueue 0x20000 = false ∧ (∀ d : Nat, d < 4 → (s.die d).droppedNote = none) ∧
     s.recall (.plate 0 0x20040) 64 false = none ∧ s.readPoison (.plate 0 0x20040) 64 = none ∧
     (let q := (after (.bankDeq 5) s).qdesc (.plate 0 0x20000)
      (q.base, q.ctl, q.tail, q.head)) = (0x20040, 0x8000000000000001, 3, 3)) := by decide +kernel

def store1 : Store := { age := 3, line := 0x800, mask := 1, data := 5, slot := 0, grid := 1, ctx := 0, world := false, kind := some 1 }
def sPh (l : List Store) : State :=
  { s0 with stations := [(0, { plateStation with stores := l, clean := [(0x20040, { val := 1 }), (0x2000000000040, { val := 2 })],
                                                  icache := [(0x10000, 0, false)] })] }
def tRel (acq : Bool) : Strand := { tH with hold := .release .die 9 0 acq }
def sRel (acq : Bool) (l : List Store) : State := { sPh l with strands := [(0, tRel acq)] }

theorem witness_PhasesAndFences :
    (sPh []).curStrand = some tH ∧ tH.hold = .none ∧ ok tH (sPh []) 0 true [.s (.x 1)] [] = true ∧
    (let u := after (.phaseR .die true) (sPh [store1])
     (holdOf u 0, u.reqs.map fun e => e.2.kind)) = (some (.release .die 0 10 false), []) ∧
    ((after (.phaseRa .die true) { (sPh [store1]) with stations := (sPh [store1]).stations.map fun e => (e.1, { e.2 with cycAge := 9 }) }).reqs.map
      fun e => e.2.kind) = [.merge] ∧
    -- the acquire of die scope discards the copy of die 0's line and keeps the other
    (((after (.phaseA .die true) (sPh [])).station 0).clean.map (·.1)) = [0x2000000000040] ∧
    (sPh []).qfenceDone tH 0 15 0 0 100 = true ∧ pcOf (after (.qfence 15 true) (sPh [])) 0 = some 0x10004 ∧
    (let s := { (sPh []) with stations := [(0, { plateStation with eng := engine [.mzero false] })] }
     s.qfenceDone tH 0 2 0 5 100 = false ∧ holdOf (after (.qfence 2 true) s) 0 = some (.qfence 2 0 5 100)) ∧
    ((after (.fencei true) (sPh [])).station 0).icache = [] ∧
    pcOf (after (.prefHome (.x 1) true) (sPh [])) 0 = some 0x10004 ∧
    (after (.prefL1 (.x 4) true) (sPh [])).reqs = [] ∧
    ((after (.prefL1 (.x 3) true) (sPh [])).reqs.map fun e => (e.2.kind, e.2.gva, e.2.res)) = [(.fill true, 0x20000, none)] ∧
    (sRel false [store1]).slot 0 = some (tRel false) ∧ (sRel false [store1]).releaseDone (tRel false) 0 .die 9 0 = false ∧
    ((after (.phaseReleaseComplete 0) (sRel false [store1])).reqs.map fun e => e.2.kind) = [.merge] ∧
    (sRel true []).releaseDone (tRel true) 0 .die 9 0 = true ∧
    (let u := after (.phaseReleaseComplete 0) (sRel true [])
     (pcOf u 0, holdOf u 0, (u.station 0).clean.map (·.1))) = (some 0x10004, some .none, [0x2000000000040]) := by decide +kernel

/-- A die-scope release with mark 9 waits for a store of age 3 and not for one of age 9; a merge carries the store. -/
theorem witness_PhaseConditions :
    tH.ahead 2 none = false ∧ store1.mergeable = true ∧
    (sPh [store1]).releaseDone tH 0 .die 9 0 = false ∧ (sPh [{ store1 with age := 9 }]).releaseDone tH 0 .die 9 0 = true ∧
    (sPh [{ store1 with kind := some 3 }]).releaseDone tH 0 .die 9 9 = true ∧
    (sPh [{ store1 with kind := some 3 }]).releaseDone tH 0 .system 9 9 = false ∧
    (let u := (sPh [store1, { store1 with age := 9, line := 0x801 }]).mergeCovered 0 9
     ((u.station 0).stores.map (·.line), u.reqs.map fun e => (e.2.kind, e.2.station, e.2.gva, e.2.mask))) =
      ([0x801], [(.merge, 0, 0x20000, 1)]) ∧
    (let s := { (sPh []) with reqs := [(5, { rq .proofPub 0 0 with stage := .toDtu, src := 3, age := 4 })] }
     (s.qfenceDone tH 0 1 4 0 0, s.qfenceDone tH 0 1 5 0 0)) = (true, false) := by decide +kernel

/-- A read stream of the words from GVA 0x20000, and one of a word in package 1. -/
def gvRead : Stream := { (readStr 0) with sla := false, base := 0x20000 }
def awayRead : Stream := { gvRead with base := 0x0008000000020000 }
def sGv (p : Stream) : State :=
  { q3 tQ (.stream p) with dies := State.reset.dies.set 0 die1, mem := [(keyR, 0x5A), (keyR + 0xC1, 0x5B)],
                           cfg := { State.reset.cfg with ringN := 4 } }
theorem witness_PortWordsMove_global :
    gvRead.total = 2 ∧ gvRead.addr 0 = 0x20000 ∧ (gvRead.pos, gvRead.buf, gvRead.got) = (0, [], []) ∧ gvaPkg 0x20000 = (sGv gvRead).cfg.pkg ∧
    ((List.range 4).all fun j => (match (sGv gvRead).translateBehind 0 tQ.who (0x20000 + BitVec.ofNat 64 (64 * j)) .read with
      | .ok l _ => decide (l = .plate 0 (0x20000 + 64 * j)) && ((sGv gvRead).recall l 64 false).isNone
      | _ => false)) = true ∧
    portAt (after (.readStreamFetch 0 3) (sGv gvRead)) 0 3 =
      some (.stream { gvRead with buf := [(0, { val := BitVec.ofNat 2048 (0x5A + 0x5B * 2 ^ (8 * 0xC1)) })] }) ∧
    gvaPkg (awayRead.addr 0) = 1 := by decide +kernel
theorem witness_PortWordsMove_away : (sGv awayRead).broken 1 = false := by
  unfold State.broken
  split <;> rfl

/-! ### The copy engine, messages, the ready queue and the timer -/

/-- x1 a descriptor of 8 bytes from 0x2000 to 0x3001, all in the plate; x2 misaligned; x3 beyond the plate; x4 one with a reserved
bit; x5 to x8 message words; x9 a count. -/
def tY : Strand := strand [(1, 0x1000), (2, 0x1001), (3, 0x100000), (4, 0x1040), (5, 0x0000000000000500), (6, 1), (7, 0x0000002000000000), (8, 2), (9, 4)]
def memY : List Host.Cell :=
  [(2 ^ 52 + 0x1001, 0x20), (2 ^ 52 + 0x1008, 0x01), (2 ^ 52 + 0x1009, 0x30), (2 ^ 52 + 0x1018, 3), (2 ^ 52 + 0x101C, 3),
   (2 ^ 52 + 0x105F, 0x80), (2 ^ 52 + 0x2000, 0x61), (2 ^ 52 + 0x2001, 0x62), (2 ^ 52 + 0x2002, 0x63)]
def citem (op : CopyOp) (len : Nat) : CItem :=
  { n := 0, op := op, tag := 1, grid := 1, ctx := 0, slot := 0, pc := 0x10000, desc := 0x1000, src := 0x2000, dst := 0x3001,
    dig := 0, len := len, ssla := true, dsla := true, gsla := false, trap := false, act := .none }
def sY (c : CopyEngine) : State := { base tY { plateStation with cpy := c } with mem := memY }
def cq (l : List CItem) : CopyEngine := { queue := l, entered := l.length }

theorem witness_CopyInstructionsEnterQueue :
    ok tY (sY {}) 3 true [.s (.x 1)] [] = true ∧ tY.loose = false ∧ (sY {}).gate 3 true [.s (.x 5), .s (.x 6)] [] = none ∧
    gridSt (after (.cpy .none (.x 2) (.x 0) (.x 0) true) (sY {})) = some (.ending, 0x098) ∧
    gridSt (after (.cpy .none (.x 3) (.x 0) (.x 0) true) (sY {})) = some (.ending, 0x25D) ∧
    ((sY {}).station 0).protOk tY.protKind false 0x1000 64 = true ∧ (sY {}).readPoison (.plate 0 0x1000) 64 = none ∧
    ((sY {}).copyDesc 0 0x1040).check (sY {}).cfg .cpy 0x1040 = some (0x25D, 0x1040) ∧
    gridSt (after (.cpyt .none (.x 4) (.x 0) (.x 0) true) (sY {})) = some (.ending, 0x25D) ∧
    ((sY {}).copyDesc 0 0x1000).check (sY {}).cfg .cpy 0x1000 = none ∧
    -- CPYT's source is 64-aligned, its destination 128-aligned; CPYD's destination 8-aligned
    gridSt (after (.cpyt .none (.x 1) (.x 0) (.x 0) true) (sY {})) = some (.ending, 0x098) ∧
    gridSt (after (.cpyd .none (.x 1) (.x 0) (.x 0) true) (sY {})) = some (.ending, 0x098) ∧
    holdOf (after (.cpy .none (.x 1) (.x 0) (.x 0) true) (sY (cq (List.replicate 16 (citem .cpy 3))))) 0 = some (.issue .copy) ∧
    ((after (.cpy .none (.x 1) (.x 0) (.x 0) true) (sY {})).station 0).cpy = cq [citem .cpy 3] ∧
    (((after (.cpys .msg (.x 1) (.x 5) (.x 6) true) (sY {})).station 0).cpy.queue.map (·.act)) = [.msg 0x500 1 false] := by decide +kernel

def doneItem (bad : Bool) : CItem := { citem .cpys 3 with done := some bad, bst := true }
theorem witness_CopyEngine :
    (sY (cq [citem .cpy 3])).cpyHead 0 = some (citem .cpy 3) ∧ (sY (cq [citem .cpy 3])).cpyWaits 0 = false ∧
    (sY (cq [citem .cpy 3])).cpyProt 0 (citem .cpy 3) = none ∧ Memory.wf memY = true ∧ (sY {}).plateSize 0 = 0x100000 ∧
    (sY {}).readPoison (.plate 0 0x2000) 3 = none ∧ (sY {}).readPoison (.plate 0 0x3001) 3 = none ∧
    -- the bytes 61 62 63 at 0x3001, nothing else
    (let u := after (.cpyPerform 0) (sY (cq [citem .cpy 3]))
     (u.mem.drop 9, (u.cpyHead 0).map (·.done))) =
      ([(2 ^ 52 + 0x3001, 0x61), (2 ^ 52 + 0x3002, 0x62), (2 ^ 52 + 0x3003, 0x63)], some (some false)) ∧
    ((after (.cpytPerform 0) (sY (cq [{ citem .cpyt 0 with dst := 0x3000 }]))).cpyHead 0).map (·.done) = some (some false) ∧
    -- the digest of the text abc begins cb 00 75 3f 45 a3 5e 8b (FIPS 180-4's example)
    (let u := after (.cpydPerform 0) (sY (cq [{ citem .cpyd 3 with dst := 0x3000 }]))
     (u.mem.filter fun c => 2 ^ 52 + 0x3000 ≤ c.1 ∧ c.1 < 2 ^ 52 + 0x3008)) =
      [(2 ^ 52 + 0x3000, 0xCB), (2 ^ 52 + 0x3002, 0x75), (2 ^ 52 + 0x3003, 0x3F), (2 ^ 52 + 0x3004, 0x45), (2 ^ 52 + 0x3005, 0xA3),
       (2 ^ 52 + 0x3006, 0x5E), (2 ^ 52 + 0x3007, 0x8B)] ∧
    ((after (.cpysPerform 0) (sY (cq [{ citem .cpys 3 with gsla := true, dig := 0x4000 }]))).cpyHead 0).map (·.done) = some (some true) ∧
    -- STATUS: DONE, BSTICKY and MISMATCH
    (sY (cq [doneItem true])).cpyHead 0 = some (doneItem true) ∧ ((sY {}).station 0).protOk .engine true 0x1020 8 = true ∧
    ((after (.copyCompletion 0) (sY (cq [doneItem true]))).homeNat (.plate 0 0x1020) 8) = 2 ^ 63 + 256 + 1 ∧
    ((after (.copyCompletion 0) (sY (cq [doneItem true]))).station 0).cpy.queue = [] := by decide +kernel

/-- A copy from the plate to GVA 0x20041, which page 2 of the plate backs. -/
def toGva : CItem := { citem .cpy 3 with dsla := false, dst := 0x20041 }
def sYg (i : CItem) : State := { sY (cq [i]) with dies := State.reset.dies.set 0 die1 }
theorem witness_CopyByEitherAddress :
    (sYg toGva).cpyHead 0 = some toGva ∧ (sYg toGva).cpyWaits 0 = false ∧ (sYg toGva).cpyProt 0 toGva = none ∧
    toGva.done = none ∧ toGva.host = none ∧ toGva.failed = none ∧ toGva.got = [] ∧ toGva.dgot = [] ∧ toGva.put = 0 ∧
    (sYg toGva).guest.owned = [] ∧ (sYg toGva).guest.shared = [] ∧ Memory.wf (sYg toGva).mem = true ∧
    gvaPkg toGva.dst = (sYg toGva).cfg.pkg ∧
    (match (sYg toGva).translateBehind 0 ((sYg toGva).ctxWho 0) 0x20041 .write with
      | .ok l _ => decide (l = .plate 0 0x20041)
      | _ => false) = true ∧
    (List.range 3).all (fun x => decide (((Loc.plate 0 0x20041).plus x).key = some (2 ^ 52 + 0x20041 + x)) &&
      (sYg toGva).inPlate ((Loc.plate 0 0x20041).plus x)) = true ∧
    (let u := after (.cpyPerform 0) (sYg toGva)
     (u.mem.drop 9, (u.cpyHead 0).map (·.done))) =
      ([(2 ^ 52 + 0x20041, 0x61), (2 ^ 52 + 0x20042, 0x62), (2 ^ 52 + 0x20043, 0x63)], some (some false)) := by decide +kernel

/-- An entry of one tile, and a copy of 130 bytes, which goes over three lines. -/
def tile1 : CItem := { citem .cpyt 1 with src := 0x8000, dst := 0x10000 }
theorem witness_CopyMovesTheBytes :
    (sY (cq [tile1])).cpyHead 0 = some tile1 ∧ (sY (cq [tile1])).cpyWaits 0 = false ∧ (sY (cq [tile1])).cpyProt 0 tile1 = none ∧
    (tile1.op.srcLen tile1.len, tile1.op.dstLen tile1.len) = (8192, 896) ∧ (sY (cq [tile1])).poison = [] ∧
    (let u := after (.cpyPerform 0) (sY (cq [citem .cpy 130]))
     (u.mem.drop 9, (u.cpyHead 0).map (·.done))) =
      ([(2 ^ 52 + 0x3001, 0x61), (2 ^ 52 + 0x3002, 0x62), (2 ^ 52 + 0x3003, 0x63)], some (some false)) := by decide +kernel

def mail1 : Msg := { payload := 0x77, mtag := 5, ps := false, xr := false, src := 0x010023, serial := 9, sender := 1 }
def sMail (S : Station) : State := base { tY with hold := .msend } S

theorem witness_MessagesAreSentAndReceived :
    ok tY (base tY) 0 true [.s (.x 5), .s (.x 6)] [] = true ∧ (base tY).msgReach 0 0x500 = true ∧
    gridSt (after (.msend (.x 6) (.x 6) true) (base tY)) = some (.ending, 0x286) ∧
    (base tY).msgReach 0 0x2000000000 = false ∧ gridSt (after (.msend (.x 7) (.x 6) true) (base tY)) = some (.ending, 0x285) ∧
    (let u := after (.msend (.x 5) (.x 6) true) (base tY)
     (holdOf u 0, (u.station 0).mheld.map fun e => (e.1, e.2.payload, e.2.mtag))) = (some .msend, [(1, 1, 5)]) ∧
    (let u := after (.mailboxAccept 0) (sMail { mheld := [(1, mail1)] })
     (pcOf u 0, holdOf u 0, (u.station 0).mailbox)) = (some 0x10004, some .none, [mail1]) ∧
    ((after (.mailboxAccept 0) (sMail { mheld := [(1, mail1)], mailbox := List.replicate 16 mail1 })).station 0).mheld = [(1, mail1)] ∧
    gridSt (after (.mrecv (.x 10) (.x 8) true) (base tY)) = some (.ending, 0x286) ∧
    xval (after (.mrecv (.x 10) (.x 6) true) (base tY)) 0 10 = some 0 ∧
    xval (after (.mrecv (.x 10) (.x 6) true) (base tY { mailbox := [mail1, mail1] })) 0 10 = some 0x8201002300090500 ∧
    (let u := after (.mrecv (.x 10) (.x 0) true) (base tY)
     ((u.station 0).mrecv.map (·.res), u.results.map fun e => e.2.ready)) = ([100], [false]) ∧
    (let u := after (.mrecv (.x 10) (.x 0) true) (base tY { mailbox := [mail1] })
     ((u.station 0).mailbox, u.results.map fun e => (e.2.ready, e.2.value))) = ([], [(true, 0x77)]) := by decide +kernel

def rqs (l : List Word) : Station := { rq := (Vector.replicate 4 []).set 1 l }
theorem witness_ReadyQueueAndTimer :
    ok tY (base tY) 0 true [.s (.x 6), .s (.x 8)] [.s (.x 10)] = true ∧
    gridSt (after (.rqpush (.x 10) (.x 9) (.x 8) true) (base tY)) = some (.ending, 0x286) ∧
    xval (after (.rqpush (.x 10) (.x 6) (.x 11) true) (base { tY with x := tY.x.set 11 { val := BitVec.allOnes 64 } })) 0 10 = some 2 ∧
    xval (after (.rqpush (.x 10) (.x 6) (.x 8) true) (base tY (rqs (List.replicate 16 7)))) 0 10 = some 0 ∧
    (let u := after (.rqpush (.x 10) (.x 6) (.x 8) true) (base tY (rqs [7]))
     (xval u 0 10, ((u.station 0).rq[(1 : Fin 4)]))) = (some 1, [7, 2]) ∧
    gridSt (after (.rqpop (.x 10) (.x 1) true) (base tY)) = some (.ending, 0x286) ∧
    xval (after (.rqpop (.x 10) (.x 0) true) (base tY)) 0 10 = some (BitVec.allOnes 64) ∧
    -- mask 2 selects level 1; mask 1 only level 0
    (let u := after (.rqpop (.x 10) (.x 8) true) (base tY (rqs [7, 8]))
     (xval u 0 10, ((u.station 0).rq[(1 : Fin 4)]))) = (some 7, [8]) ∧
    xval (after (.rqpop (.x 10) (.x 6) true) (base tY (rqs [7, 8]))) 0 10 = some (BitVec.allOnes 64) ∧
    gridSt (after (.tmrset (.x 10) (.x 7) true) (base tY)) = some (.ending, 0x286) ∧
    ((after (.tmrset (.x 10) (.x 9) true) (base tY)).slot 0).map (·.timer) = some { count := 4, arm := true } ∧
    (base { tY with timer := { count := 1, arm := true } }).slot 0 = some { tY with timer := { count := 1, arm := true } } ∧
    ((after (.timerFire 0) (base { tY with timer := { count := 1, arm := true } })).slot 0).map (·.timer) = some { fired := true } := by
  decide +kernel

/-! ### Proofs -/

/-- Handle of ID 0x12 of die 0, generation g. -/
def H (g : Word) : Word := 0x4000000000120000 + g
/-- Handle of the same ID in package 1. -/
def HA (g : Word) : Word := 0x4004000000120000 + g
def rec5 : Proof := { pub := false, world := false, res := true, ctx := 0, gen := 5 }
/-- x1 a list handle, x2 the explicit handle, x3 a list handle past the list, x4 a bad count word, x5 one of 3, x6 1, x7 2, x8 0, x9 3, x10 element
0 declared out, x11 an older handle. -/
def tPr : Strand := strand [(1, 0), (2, H 5), (3, 5), (4, 0x80000), (5, 3), (6, 1), (7, 2), (8, 0), (9, 3), (10, 0x100), (11, H 4), (12, 0x4000000000130000),
  (13, 0x4001000000130000), (14, 0x5000000000130000), (15, HA 5)]
def elem1 : PElem := { handle := H 6, isIn := true, take := false, first := false }
def sPr (p : Proof) : State := { base tPr with proofs := [(0x12, p)], grids := [(1, { grid1 with proofs := [elem1] })] }

set_option maxRecDepth 16384 in
theorem witness_ProofInstructions :
    ok tPr (sPr rec5) 0 true [.s (.x 2), .s (.x 5)] [.s (.x 15)] = true ∧ (sPr rec5).resolve 1 0 = some (H 6) ∧
    (sPr rec5).resolve 1 (H 5) = some (H 5) ∧ (sPr rec5).resolve 1 5 = none ∧ hPkg (H 5) = 0 ∧
    (sPr rec5).fwPass tPr.who 2 0 (fun _ => hHome (H 5)) = true ∧
    gridSt (after (.prwait (.x 3) true) (sPr rec5)) = some (.ending, 0x202) ∧
    (let u := after (.prwait (.x 1) true) (sPr rec5)
     (holdOf u 0, u.reqs.map fun e => (e.1, e.2.kind, e.2.gva))) = (some (.proof 101), [(101, .proofWait, H 6)]) ∧
    gridSt (after (.prtake (.x 15) (.x 3) true) (sPr rec5)) = some (.ending, 0x202) ∧
    ((after (.prtest (.x 15) (.x 2) true) (sPr rec5)).reqs.map fun e => (e.2.kind, e.2.gva)) = [(.proofTest, H 5)] ∧
    gridSt (after (.prpub (.x 2) (.x 4) true) (sPr rec5)) = some (.ending, 0x204) ∧
    ((sPr rec5).station 0).stores = [] ∧ (sPr rec5).reqs = [] ∧
    ((after (.prpub (.x 2) (.x 5) true) (sPr rec5)).reqs.map fun e => (e.2.kind, e.2.gva, e.2.b)) = [(.proofPub, H 5, 3)] := by decide +kernel

set_option maxRecDepth 16384 in
def sRg : State := { sPr rec5 with cfg := { (sPr rec5).cfg with ringN := 4 } }
/-- A ring with no lost port is not broken, whichever way it goes. -/
theorem witness_ProofInstructions_ring : sRg.broken 1 = false := by
  unfold State.broken
  split <;> rfl
/-- x11 a handle of a record of a Bridge slice, which admits no operation of proofs. -/
def tFwP : Strand := { tPr with x := tPr.x.set 11 { val := 0x40000000001F0000 } }
def sFwP : State := { sPr rec5 with strands := [(0, tFwP)],
                                    dies := (sPr rec5).dies.set 0 { (sPr rec5).die 0 with fwallow := Vector.replicate 16 0 } }

set_option maxRecDepth 16384 in
theorem witness_ProofInstructions_records :
    ok tPr (sPr rec5) 0 true [.s (.x 2), .s (.x 9)] [.s (.x 15)] = true ∧
    gridSt (after (.prgen (.x 15) (.x 2) (.x 9) true) (sPr rec5)) = some (.ending, 0x204) ∧
    xval (after (.prgen (.x 15) (.x 1) (.x 6) true) (sPr rec5)) 0 15 = some (H 6) ∧
    ((after (.prgen (.x 15) (.x 2) (.x 8) true) (sPr rec5)).reqs.map fun e => (e.2.kind, e.2.stage, e.2.gva)) = [(.proofRead, .toDtu, H 5)] ∧
    ((after (.prgen (.x 15) (.x 2) (.x 7) true) (sPr rec5)).reqs.map fun e => (e.2.kind, e.2.stage, e.2.gva)) = [(.proofAdvance, .toDtu, H 5)] ∧
    handleOk (sPr rec5).cfg (H 5) = true ∧ handleOk (sPr rec5).cfg 0x5000000000130000 = false ∧
    gridSt (after (.prarm (.x 15) (.x 14) (.x 10) true) (sPr rec5)) = some (.ending, 0x202) ∧
    ((after (.prarm (.x 15) (.x 2) (.x 10) true) (sPr rec5)).reqs.map fun e => (e.2.kind, e.2.gva, e.2.b)) = [(.prarm, H 5, 0x100)] ∧
    -- a record of another package, and one of a closed Bridge slice
    sRg.resolve 1 (HA 5) = some (HA 5) ∧ hPkg (HA 5) = 1 ∧ sRg.cfg.pkg = 0 ∧
    isBridge sFwP.cfg (hHome 0x40000000001F0000) = true ∧ sFwP.fwPass tPr.who 2 0 (fun _ => hHome 0x40000000001F0000) = false ∧
    ((after (.prwait (.x 11) true) sFwP).slot 0).map (fun t => (t.frozen.isSome, t.pc)) = some (true, 0x10004) := by
  decide +kernel

/-- A count word 3 that names the copy engine's queue, and a store that the release waits for. -/
def tPub : Strand := { tPr with x := tPr.x.set 5 { val := 0x10003 } }
def sPub (l : List Store) (h : Hold) : State :=
  let t : Strand := { tPub with hold := h }
  { sPr rec5 with strands := [(0, t)], stations := [(0, { chord := some chord1, stores := l })] }
def holdPub : Hold := .prpub 1 0 0 100 (H 5) 0x10003 10
theorem witness_ProofInstructions_scope :
    ok tPub (sPub [] .none) 0 true [.s (.x 2), .s (.x 5)] [] = true ∧
    (let u := after (.prpub (.x 2) (.x 5) true) (sPub [store1] .none)
     (holdOf u 0, u.reqs.map fun e => e.2.kind)) = (some (.prpub 1 0 0 100 (H 5) 0x10003 10), [.merge]) ∧
    (sPub [] holdPub).qfenceDone { tPub with hold := holdPub } 0 1 0 0 100 = true ∧
    (sPub [] holdPub).writesHeld 0 ((sPub [] holdPub).pubScope (H 5)) 10 0 = true ∧
    ((after (.prpub (.x 2) (.x 5) true) (sPub [] holdPub)).reqs.map fun e => (e.2.kind, e.2.gva, e.2.b)) = [(.proofPub, H 5, 0x10003)] := by
  decide +kernel

def pq (k : ReqKind) (g : Word) : Req := { kind := k, tag := 1, grid := 1, gva := H g, b := 3, res := some 7, order := 5 }
def sPH (k : ReqKind) (g : Word) (p : Proof) : State := { sPr p with reqs := [(5, pq k g)] }
def pubd (c k : BitVec 16) : Proof := { rec5 with pub := true, count := c, takes := k }
/-- Whether an event at the home leaves the request at this stage with this value, and this record. -/
noncomputable def homeIs (i : Instr) (s : State) (x : Stage × Word) (p : Proof) : Bool :=
  decide (((after i s).req 5).map (fun r => (r.stage, r.a)) = some x) && decide ((after i s).proofs = [(0x12, p)])

theorem witness_ProofsAtHome :
    (sPH .proofPub 5 rec5).req 5 = some (pq .proofPub 5) ∧ (sPH .proofPub 5 rec5).proofRefuse (pq .proofPub 5).who (hKey (H 5)) = none ∧
    (sPH .proofPub 5 rec5).stringBehind (pq .proofPub 5) = false ∧
    (sPH .proofPub 5 rec5).writesHeld 0 ((sPH .proofPub 5 rec5).pubScope (H 5)) 0 0 = true ∧
    (sPH .proofWait 6 rec5).waiterFree (hHome (H 6)) = true ∧ (sPH .proofWait 6 rec5).inboundProofs (hHome (H 6)) = [] ∧
    homeIs (.proofPublishAtHome 5) (sPH .proofPub 5 rec5) (.replied true 0x200, 0) ({ rec5 with pub := true, count := 3, takes := 3, pubs := 1 }) = true ∧
    homeIs (.proofPublishAtHome 5) (sPH .proofPub 4 rec5) (.replied false 0x201, 0) (rec5) = true ∧
    homeIs (.proofPublishAtHome 5) (sPH .proofPub 5 (pubd 3 3)) (.replied false 0x201, 0) (pubd 3 3) = true ∧
    homeIs (.proofPublishAtHome 5) (sPH .proofPub 6 rec5) (.waiting, 0) ({ rec5 with waiters := [{ req := 5, kind := .proofPub, gen := 6 }] }) = true ∧
    homeIs (.proofWaitAtHome 5) (sPH .proofWait 5 (pubd 3 3)) (.replied true 0x200, 0) (pubd 3 3) = true ∧
    homeIs (.proofWaitAtHome 5) (sPH .proofWait 4 rec5) (.replied false 0x200, 0) (rec5) = true ∧
    homeIs (.proofWaitAtHome 5) (sPH .proofWait 5 rec5) (.waiting, 0) ({ rec5 with waiters := [{ req := 5, kind := .proofWait, gen := 5 }] }) = true := by decide +kernel

theorem witness_ProofsAtHome_takes :
    homeIs (.proofTakeAtHome 5) (sPH .proofTake 5 (pubd 0 0)) (.replied true 0x200, BitVec.allOnes 64) (pubd 0 0) = true ∧
    homeIs (.proofTakeAtHome 5) (sPH .proofTake 5 (pubd 3 2)) (.replied true 0x200, 1) (pubd 3 1) = true ∧
    homeIs (.proofTakeAtHome 5) (sPH .proofTake 5 (pubd 3 1)) (.replied true 0x200, 0) ({ rec5 with gen := 6 }) = true ∧
    homeIs (.proofTakeAtHome 5) (sPH .proofTake 4 rec5) (.replied false 0x200, 0) (rec5) = true ∧
    homeIs (.proofTestAtHome 5) (sPH .proofTest 5 (pubd 3 1)) (.replied true 0x200, 1) (pubd 3 1) = true ∧
    homeIs (.proofTestAtHome 5) (sPH .proofTest 6 (pubd 3 1)) (.replied true 0x200, 0) (pubd 3 1) = true ∧
    homeIs (.proofTestAtHome 5) (sPH .proofTest 4 (pubd 3 1)) (.replied false 0x200, 0) (pubd 3 1) = true ∧
    homeIs (.proofTestAtHome 5) (sPH .proofRead 5 rec5) (.replied true 0x200, 0x9000000000000005) rec5 = true ∧
    homeIs (.proofTestAtHome 5) (sPH .proofAdvance 5 (pubd 3 1)) (.replied true 0x200, 0xD000000100030005) ({ rec5 with gen := 6 }) = true ∧
    homeIs (.proofTestAtHome 5) (sPH .prarm 5 rec5) (.replied true 0x200, 0) rec5 = true ∧
    homeIs (.proofTestAtHome 5) (sPH .prarm 4 rec5) (.replied false 0x200, 0) rec5 = true := by decide +kernel

def tWt : Strand := { tPr with hold := .proof 5 }
def sAnswer (k : ReqKind) (good : Bool) (code : Cause) (d : Dst) : State :=
  { base tWt with proofs := [(0x12, rec5)], reqs := [(5, { pq k 5 with stage := .replied good code, a := 9 })],
                  results := [(7, { tag := 1, dst := d, pc := 0x10000 })] }
def sInb : State := { sPr (pubd 3 1) with reqs := [(5, { pq .proofTest 5 with stage := .waiting })] }

theorem witness_ProofReplies :
    (sAnswer .proofTake true 0x200 (.s (.x 15))).slotOfTag 1 = some 0 ∧ (sAnswer .proofTake true 0x200 (.s (.x 15))).slot 0 = some tWt ∧
    (let u := after (.proofReply 5) (sAnswer .proofTake true 0x200 (.s (.x 15)))
     (pcOf u 0, holdOf u 0, cellS u 0 (.x 15))) = (some 0x10004, some .none, some { val := 9 }) ∧
    pcOf (after (.proofReply 5) (sAnswer .proofPub true 0x200 .none)) 0 = some 0x10004 ∧
    (let u := after (.proofReply 5) { sAnswer .prarm true 0x200 (.s (.x 15)) with grids := [(1, { grid1 with proofs := [elem1] })], reqs := [(5, { pq .prarm 5 with b := 0x100, stage := .replied true 0x200 })] }
     (pcOf u 0, cellS u 0 (.x 15), (u.gridOf 1).map fun g => g.proofs.map fun x => (x.handle, x.take))) =
      (some 0x10004, some { val := H 6 }, some [(H 5, true)]) ∧
    gridSt (after (.proofReply 5) (sAnswer .proofWait false 0x203 .none)) = some (.ending, 0x203) ∧
    oldest (sInb.inboundProofs (hHome (H 5))) = some (5, 5) ∧ sInb.waiterFree (hHome (H 5)) = true ∧
    ((after (.waiterRecordFree (hHome (H 5))) sInb).req 5).map (fun r => (r.stage, r.a)) = some (.replied true 0x200, 1) := by decide +kernel

/-! ### Strands that start, move, sleep, meet and end; the privileged instructions -/

def tS : Strand := strand [(1, 0x20000), (2, 0x20001), (3, 0x0200000000000000), (4, 7)]
def tSv : Strand := { tS with priv := true }
def other (n : Nat) : Strand := { tS with tag := n }

theorem witness_SpawnInstructions :
    ok tS (base tS) 0 true [.s (.x 1)] [.s (.x 9)] = true ∧
    gridSt (after (.spawn (.x 9) (.x 2) true) (base tS)) = some (.ending, 0x080) ∧
    gridSt (after (.spawnl (.x 9) (.x 3) true) (base tS)) = some (.ending, 0x082) ∧
    (let u := after (.spawn (.x 9) (.x 1) true) (base tS)
     (pcOf u 0, u.reqs.map fun e => (e.2.kind, e.2.gva), (cellS u 0 (.x 9)).map (·.full))) =
      (some 0x10004, [(.spawn, 0x20000)], some false) ∧
    ((after (.spawnl (.x 9) (.x 1) true) (base tS)).reqs.map fun e => (e.2.kind, e.2.gva)) = [(.spawnl, 0x20000)] := by decide +kernel

def tLs : Strand := { tS with loose := true }
def sLs (S : Station) : State := base tLs S
def chordAt (n : Nat) : Chord := { chord1 with cbarCount := n }
def sTwo (c : Chord) (h : Hold) : State :=
  { base tS { plateStation with chord := some c } with strands := [(0, tS), (1, { other 2 with hold := h })] }
def oldPoison : Strand := { tS with v := (vregs []).set 3 { poison := some poison2 } }
where poison2 : Poison := { pc := 0x10000, addr := 0x20000, code := 0x1C0, tag := 1 }

theorem witness_YieldSleepBarrierExit :
    (∀ q : Fin 8, tS.ports[q] = .unbound) ∧ (base tS).timeSliced 0 = false ∧ pcOf (after (.yield true) (base tS)) 0 = some 0x10004 ∧
    pcOf (after (.yield true) (sLs {})) 0 = some 0x10004 ∧
    (let u := after (.yield true) (sLs { runq := [other 2, other 3] })
     ((u.slot 0).map (·.tag), (u.station 0).runq.map fun v => (v.tag, v.pc))) = (some 2, [(3, 0x10000), (1, 0x10004)]) ∧
    ((base tS { rq := (Vector.replicate 4 []).set 2 [5] }).station 0).wakes tS = true ∧ ((base tS).station 0).wakes tS = false ∧
    pcOf (after (.sleep true) (base tS { rq := (Vector.replicate 4 []).set 2 [5] })) 0 = some 0x10004 ∧
    holdOf (after (.sleep true) (base tS)) 0 = some .sleep ∧
    gridSt (after (.cbar true) (sLs {})) = some (.ending, 0x047) ∧
    (let u := after (.cbar true) (sTwo chord1 .none)
     ((u.station 0).chord.map (·.cbarCount), holdOf u 0)) = (some 1, some (.cbar 0)) ∧
    (let u := after (.cbar true) (sTwo (chordAt 1) (.cbar 0))
     ((u.station 0).chord.map fun c => (c.cbarCount, c.cbarGen), pcOf u 0, pcOf u 1, holdOf u 1)) =
      (some (0, 1), some 0x10004, some 0x10004, some .none) ∧
    holdOf (after (.exit true) { base tS with results := [(7, { tag := 1, dst := .v (.v 3), pc := 0 })] }) 0 = some (.issue .results) ∧
    (base oldPoison).exitPoison 0 oldPoison = some oldPoison.poison2 ∧ gridSt (after (.exit true) (base oldPoison)) = some (.ending, 0x1C0) ∧
    (base tS).resultsDue 1 = false ∧ (base tS).exitPoison 0 tS = none ∧
    (let u := after (.exit true) { sLs {} with grids := [(1, { grid1 with loose := 3 })] }
     (u.slot 0, (u.gridOf 1).map (·.loose))) = (none, some 2) ∧
    (let u := after (.exit true) (base tS)
     (u.slot 0, (u.station 0).chord.map fun c => (c.live, c.st))) = (none, some ([2], .resident)) := by decide +kernel

/-- A sleeper that takes a slot of a station with an entry in its ready queue goes on; without one it stays asleep. -/
def rqFull : Station := { rq := (Vector.replicate 4 []).set 2 [5] }
def sleeper : Strand := { other 5 with hold := .sleep, loose := true }
theorem witness_YieldSleepBarrierExit_seated :
    (seated rqFull sleeper).hold = .none ∧ (seated rqFull sleeper).pc = 0x10004 ∧ (seated {} sleeper).hold = .sleep ∧
    (let u := after (.yield true) (sLs { rqFull with runq := [sleeper] })
     ((u.slot 0).map fun t => (t.tag, t.pc, t.hold))) = some (5, 0x10004, .none) := by decide +kernel

/-- MSTICKY and SEED go with the strand; its MODE and UTVEC do not. -/
theorem witness_MigrationAndArrival_travels :
    (after (.migrate (.x 1) true) (base { tLs with msticky := 3, seed := 9, mode := 5, utvec := 0x40, uepc := 8 })).transit.map (fun x =>
      (x.strand.msticky, x.strand.seed, x.strand.mode, x.strand.utvec, x.strand.uepc)) = [(3, 9, 0, 0, 0)] := by decide +kernel

def packet (mig : Bool) : Transit := { strand := other 5, dest := 1, migrate := mig, gva := 0x20000, req := 5, src := 0, mark := 0 }
def sTr (mig : Bool) (S : Station) : State :=
  { sLs S with transit := [packet mig], strands := [], stations := [(1, S)],
               reqs := [(5, { kind := .migrate, stage := .translated (.plate 1 0), gva := 0x20000 })] }
def fullSt : List (Nat × Strand) := (List.range 8).map fun i => (8 + i, other (20 + i))

theorem witness_MigrationAndArrival :
    ok tLs (sLs {}) 0 true (migrateSrcs (.x 1)) [] = true ∧ gridSt (after (.migrate (.x 1) true) (base tS)) = some (.ending, 0x047) ∧
    gridSt (after (.migrate (.x 3) true) (sLs {})) = some (.ending, 0x082) ∧
    (sLs {}).sectionOn 0 0 = [0, 1, 2, 3] ∧ (sLs {}).sectionOn 0 1 = [] ∧ (sLs {}).resultsDue 1 = false ∧
    gridSt (after (.migrate (.x 2) true) (base { tLs with x := tLs.x.set 2 { val := 0x0002000000000000 } })) = some (.ending, 0x284) ∧
    (let u := after (.migrate (.x 1) true) (sLs {})
     (u.slot 0, u.reqs.map fun e => (e.1, e.2.kind, e.2.gva), u.transit.map fun x => (x.req, x.strand.pc, (x.strand.x[(4 : Fin 16)]).val))) =
      (none, [(100, .migrate, 0x20000)], [(100, 0x10004, 7)]) := by decide +kernel

theorem witness_MigrationAndArrival_arrival :
    (sTr true {}).writesHeld 0 .ring 0 0 = true ∧ (sTr true {}).inSection 0 ((Loc.plate 1 0).home 0) = true ∧ (sTr true {}).freeSlotOf 1 = some 8 ∧
    (let u := after (.migrateArrive 5) (sTr true {})
     (u.transit, u.slot 8)) = ([], some (other 5)) ∧
    ({ sTr true {} with strands := fullSt } : State).freeSlotOf 1 = none ∧
    ((after (.migrateArrive 5) { sTr true {} with strands := fullSt }).station 1).runq = [other 5] ∧
    (after (.thermalTransferArrive 5) (sTr false {})).slot 8 = some (other 5) ∧
    (let u := after (.runQueueDispatch 1) (sTr true { runq := [other 2, other 3] })
     ((u.station 1).runq, u.slot 8)) = ([other 3], some (other 2)) := by decide +kernel

theorem witness_PrivilegeIsChecked :
    (base tS).curStrand = some tS ∧ tS.priv = false ∧ gridSt (after (.commit (.x 9) (.x 1) true) (base tS)) = some (.ending, 0x045) ∧
    gridSt (after (.dtrep (.x 9) true) (base tS)) = some (.ending, 0x045) := by decide +kernel

def fb1 : FbEntry := { acc := 1, page := 4, ctx := 0, reqs := [5], first := 3, order := 0 }
def tl (c p : Nat) : TlbEntry := { ctx := c, page := p, leaf := 0xBA00000000020000, big := false }
def tD : Strand := { tSv with x := regs [(1, 0x20000), (2, 0x0200000000020000), (3, 1), (4, 2)] }
def sD (d : Die) (r : List (Nat × Req)) : State := { base tD with dies := State.reset.dies.set 0 d, reqs := r }
def dieT : Die := { tlb := [tl 0 2, tl 0 3, tl 1 2] }
/-- Entry 0 holds the request for page 4, whose leaf is there by now. -/
def dieF : Die := { dieT with tlb := dieT.tlb ++ [tl 0 4], ctxTab := [(0, { valid := true, sect := 0xF })], region := die1.region, fbuf := (Vector.replicate 8 none).set 0 (some fb1), faultsCnt := 3 }
def missReq : Req := { kind := .fill false, stage := .buffered 0, grid := 1, gva := 0x40000 }

/-- x1 a page of package 1. -/
def sDr : State := { base { tD with x := regs [(1, 0x0008000000020000)] } with cfg := { State.reset.cfg with ringN := 2 } }
theorem witness_TranslationControl_ring :
    sDr.broken 1 = false ∧ gvaPkg 0x0008000000020000 = 1 ∧ sDr.cfg.pkg = 0 := by
  refine ⟨?_, by decide, by decide⟩
  unfold State.broken
  split <;> rfl

theorem witness_TranslationControl :
    ok tD (sD dieT []) 0 true [.s (.x 1)] [.s (.x 9)] = true ∧
    ((after (.dtinvPage (.x 1) true) (sD dieT [])).die 0).tlb = [tl 0 3, tl 1 2] ∧
    ((after (.dtinvCtx (.x 1) true) (sD dieT [])).die 0).tlb = [tl 1 2] ∧
    ((after (.dtinvAll (.x 1) true) (sD dieT [])).die 0).tlb = [] ∧
    -- bits 62:57 name the context
    ((after (.dtinvPage (.x 2) true) (sD dieT [])).die 0).tlb = [tl 0 2, tl 0 3] ∧
    pcOf (after (.dtinvAll (.x 1) true) (sD dieT [])) 0 = some 0x10004 ∧
    xval (after (.dtrep (.x 9) true) (sD { dieT with dropped := true } [])) 0 9 = some 0 ∧
    xval (after (.dtrep (.x 9) true) (sD dieF [(5, missReq)])) 0 9 = some 1 ∧
    xval (after (.dtrepFail (.x 9) (.x 3) true) (sD dieT [])) 0 9 = some 0 ∧
    (sD dieF [(5, missReq)]).req 5 = some missReq ∧
    (let u := after (.dtrepFail (.x 9) (.x 3) true) (sD dieF [(5, missReq)])
     (gridSt u, u.reqs)) = (some (.ending, 0x180), []) ∧
    ((after (.dtqry 3 (.x 9) (.x 1) true) (sD dieF [])).results.map fun e => (e.2.ready, e.2.value)) = [(true, 0x0001000000030000)] ∧
    (sD dieF []).leafOf 0x20000 = some 0xBA00000000020000 ∧
    ((after (.dtqry 0 (.x 9) (.x 1) true) (sD dieF [])).results.map fun e => e.2.value) = [0xBA00000000020000] ∧
    ((after (.dtqry 1 (.x 9) (.x 3) true) (sD dieF [])).results.map fun e => e.2.value) = [0] ∧
    ((after (.dtqry 1 (.x 9) (.x 0) true) (sD dieF [])).results.map fun e => e.2.value) = [0x8400000000040001] ∧
    (after (.dtqry 2 (.x 9) (.x 0) true) (sD dieF [])).results.map (·.2.ready) = [true] := by decide +kernel

/-- Entry 3, taken first, holds a merge of page 2, entry 0 one of page 4. -/
def die2F : Die := { dieF with
  fbuf := ((Vector.replicate 8 none).set 0 (some { fb1 with acc := 2, reqs := [6], order := 1 })).set 3 (some { fb1 with acc := 2, page := 2 }) }
def heldMerge (g : Word) (k : Fin 8) : Req := { kind := .merge, stage := .buffered k, grid := 1, gva := g }
def s2F : State := sD die2F [(5, heldMerge 0x20040 3), (6, heldMerge 0x40000 0)]
theorem witness_TranslationControl_replay :
    (die2F.entries.map fun e => (e.1, e.2.order)) = [(3, 0), (0, 1)] ∧ (die2F.entries.flatMap (·.2.reqs)) = [5, 6] ∧
    (s2F.reqs.all fun e => e.2.stage != .toDtu) = true ∧ (s2F.reqs.all fun e => s2F.reqs.all fun f => !Req.before e.2 f.2) = true ∧
    (((s2F.die 0).tlbHit 0 0x20040).isSome && ((s2F.die 0).tlbHit 0 0x40000).isSome) = true ∧
    (match s2F.translate (heldMerge 0x40000 0).authority 0x40000 .write with
      | .ok l _ => l == .plate 0 0x20000
      | _ => false) = true ∧
    (s2F.dtrep 0).2 = 2 ∧ (s2F.dtrep 0).1.reqs.map (fun e => (e.1, e.2.stage, e.2.sent)) =
      [(5, .translated (.plate 0 0x20040), 100), (6, .translated (.plate 0 0x20000), 101)] ∧
    (sD dieF []).queryLines 0x20000 = [] := by decide +kernel

/-- x1 slot 1 of station 0; x2 a slot that is empty, spill tag 9; x3 an engine; x4 the copy engine; x5 the guest; x6 an undefined master; x7 firmware
slot 1; x8, x10 the words of a region entry and a descriptor. -/
def tPriv : Strand := { strand [(1, 1), (2, 0x90005), (3, 0x1000000000000000), (4, 0x2000000000000000), (5, 0x4000000000000000), (6, 0x5000000000000000),
  (7, 1), (8, 0xFFFFFFFFFFFFFFFF), (10, 0xFFFFFFFFFFFFFFFF), (11, 0xFF00000000)] with priv := true }
def sPriv : State := { base tPriv with strands := [(0, tPriv), (1, other 2)] }
def fwTrial : Firmware := { slot := #v[.active, .trial], run := 1, svns := #v[1, 4], minSvn := 2 }

theorem witness_PrivilegedControl :
    ok tPriv sPriv 0 true [.s (.x 1), .s (.x 8)] [.s (.x 9)] = true ∧
    ((after (.spls (.x 9) (.x 1) true) sPriv).reqs.map fun e => (e.2.kind, e.2.a)) = [(.spls, 1)] ∧
    ((after (.spls (.x 9) (.x 2) true) sPriv).results.map fun e => (e.2.ready, e.2.value.toNat)) = [(true, 2 ^ 64 - 1)] ∧
    sPriv.spilledAs 9 = false ∧ ((after (.splr (.x 9) (.x 2) true) sPriv).results.map fun e => (e.2.ready, e.2.value)) = [(true, 0)] ∧
    (let s : State := { sPriv with saved := [.slot 9 0 (other 7) true] }
     (s.spilledAs 9, (after (.splr (.x 9) (.x 2) true) s).reqs.map fun e => (e.2.a, e.2.b))) = (true, [(5, 9)]) ∧
    (let u := after (.commit (.x 9) (.x 7) true) { sPriv with fw := fwTrial }
     (xval u 0 9, (u.fw.slot[(1 : Fin 2)]), (u.fw.slot[(0 : Fin 2)]), u.fw.minSvn)) = (some 1, .active, .standby, 4) ∧
    xval (after (.commit (.x 9) (.x 7) true) sPriv) 0 9 = some 0 ∧
    ((after (.freeze (.x 1) true) sPriv).slot 1).map (·.frozen) = some (some 0x2F1) ∧
    ((after (.freeze (.x 3) true) sPriv).station 0).eng.frozen = some 0x2F1 ∧
    ((after (.freeze (.x 4) true) sPriv).station 0).cpy.frozen = some 0x2F1 ∧
    pcOf (after (.freeze (.x 6) true) sPriv) 0 = some 0x10004 ∧
    ((after (.thaw (.x 1) true) { sPriv with strands := [(0, tPriv), (1, { other 2 with frozen := some 0x2F1 })] }).slot 1).map (·.frozen) = some none ∧
    ((after (.thaw (.x 3) true) (base tPriv { eng := { frozen := some 0x2F1 } })).station 0).eng.frozen = none ∧
    ((after (.thaw (.x 4) true) (base tPriv { cpy := { frozen := some 0x2F1 } })).station 0).cpy.frozen = none ∧
    (after (.thaw (.x 5) true) { sPriv with guest := { st := .frozen } }).guest.st = .online ∧
    ((after (.rgnw (.x 8) (.x 10) 63 true) sPriv).die 0).region[(63 : Fin 64)] = (0xFF80FFFFFFFF0000, 0x0000FFFFFFFF0000) ∧
    isBridge sPriv.cfg 0 = false ∧ isBridge sPriv.cfg (stationOfWord 0xFF00000000) = true ∧
    pcOf (after (.puw (.x 8) (.x 11) 5 true) sPriv) 0 = some 0x10004 ∧
    (((after (.puw (.x 8) (.x 0) 15 true) sPriv).station 0).prot[(15 : Fin 16)]) = 0xFC003FFF00003FFF := by decide +kernel

/-! ### The memory system's events -/

def stA (n line slot : Nat) (m : BitVec 64) (v : BitVec 512) (k : Option (Fin 4)) : Store :=
  { age := n, line := line, mask := m, data := v, slot := slot, grid := 1, ctx := 0, world := false, kind := k }
def sSt (S : Station) : State := { s0 with stations := [(0, S)] }
def mreq : Req := { rq .merge 0 0 with mask := 5, data := 0x332211, res := none, station := 0 }
def keyM : Nat := 2 ^ 52 + 0x20000

noncomputable def sMg : State :=
  after (.storeMerge 0 0x800) (sSt { stores := [stA 3 0x800 0 1 5 (some 1), stA 4 0x800 1 2 0x600 (some 2), stA 5 7 0 1 5 none] })

theorem witness_StoresMergeAtHome :
    (∀ x ∈ ((sSt { stores := [stA 3 0x800 0 1 5 (some 1), stA 4 0x800 1 2 0x600 (some 2)] }).station 0).stores,
      x.line = 0x800 → x.mergeable = true ∧ x.who = (stA 3 0x800 0 1 5 none).who) ∧
    (sMg.reqs.map fun e => (e.2.kind, e.2.gva)) = [(.merge, 0x20000)] ∧ (sMg.reqs.map fun e => (e.2.mask, e.2.data)) = [(3, 0x605)] ∧
    (sMg.station 0).stores.map (·.age) = [5] ∧ ((sMg.station 0).clean.map fun c => (c.1, c.2.val)) = [(0x20000, 5), (0x20001, 6)] ∧
    (let u := after (.storeMerge 0 0x800) (sSt { stores := [stA 5 7 0 1 5 none], clean := [(0x1FFFF, { val := 1 }), (0x20000, { val := 2 })] })
     ((u.station 0).stores.map (·.age), (u.station 0).clean.map (·.1))) = ([5], [0x1FFFF]) ∧
    (sH [(5, mreq)] []).req 5 = some mreq ∧ (sH [(5, mreq)] []).recall (.plate 0 0x20000) 64 = none ∧
    (sH [(5, mreq)] []).readPoison (.plate 0 0x20000) 64 = none ∧ (sH [(5, mreq)] []).mayServe mreq = true ∧
    -- bytes 0 and 2 are written
    (after (.mergeAtHome 5) (sH [(5, mreq)] [(keyM + 1, 0x99)])).mem = [(keyM, 0x11), (keyM + 1, 0x99), (keyM + 2, 0x33)] ∧
    { sH [(5, mreq)] [] with atomics := [(keyM + 2, 6)] }.amoConflict mreq 0x800 keyM = true ∧
    (let u := after (.mergeAtHome 5) { sH [(5, mreq)] [] with atomics := [(keyM + 2, 6)] }
     ((u.ctx 0).amoconf, u.marked)) = (true, [keyM / 64]) ∧
    ((after (.mergeAtHome 5) { sH [(5, mreq)] [] with atomics := [(keyM + 1, 6)] }).ctx 0).amoconf = false := by decide +kernel

def res2 : PRes := { tag := 1, dst := .s (.x 9), pc := 0, value := 7, pend := [(1, 0x20003), (2, 0x20004), (3, 0x20040)] }
def sFl (k : PRes) : State := { sH [(5, rq (.fill false) 0 0)] [(keyM + 3, 0x44), (keyM + 4, 0x55)] with results := [(7, k)] }

theorem witness_FillsSupplyLines :
    (sFl res2).req 5 = some (rq (.fill false) 0 0) ∧ (sFl res2).recall (.plate 0 0x20000) 64 = none ∧ (sFl res2).mayServe (rq (.fill false) 0 0) = true ∧
    (rq (.fill false) 0 0).install = true ∧ (Loc.plate 0 0x20000).key = some keyM ∧
    ((after (.fillAtHome 5) (sFl res2)).station 0).clean.length = 64 ∧
    tblGet ((after (.fillAtHome 5) (sFl res2)).station 0).clean 0x20003 = some { val := 0x44 } ∧
    ((after (.fillAtHome 5) (sFl res2)).results.map fun e => (e.2.pend, e.2.ready, e.2.value)) = [([(3, 0x20040)], false, 0x554407)] ∧
    ((after (.fillAtHome 5) (sFl { res2 with pend := [(1, 0x20003)] })).results.map fun e => (e.2.ready, e.2.value)) = [(true, 0x4407)] := by
  decide +kernel

/-- Page 9 is a host-window page. -/
def dieHW : Die := { die1 with tlb := [{ ctx := 0, page := 9, leaf := 0xF800000000050000, big := false }],
                               region := (Vector.replicate 64 (0, 0)).set 0 (0xE600000000000000, 0x0000FFFFFFFF0000) }
def sHW (l : List Store) : State := { sSt { stores := l } with dies := State.reset.dies.set 0 dieHW }

theorem witness_PageKindsAndHostWrites :
    (let u := after (.kindQueryReply 5) { sSt { stores := [stA 3 0x800 0 1 5 none, stA 4 0x900 0 1 5 none, stA 5 0xC00 0 1 5 none] } with
       reqs := [(5, rq .kindQuery 0 0)] }
     ((u.station 0).kinds, (u.station 0).stores.map (·.kind))) = ([(2, 1)], [some 1, some 1, none]) ∧
    ((sHW [stA 3 0x2401 0 0xFF 5 (some 3)]).station 0).stores.find? (fun x => x.kind == some 3 || x.kind == none) =
      some (stA 3 0x2401 0 0xFF 5 (some 3)) ∧
    (sHW [stA 3 0x2401 0 0xFF 5 (some 3)]).releaseAhead 0 3 = false ∧
    (let u := after (.hostWindowWriteSend 0) (sHW [stA 3 0x2401 0 0xFF 5 (some 3)])
     ((u.station 0).stores, u.pcie)) = ([], [.write 0 0x50040 8 5 false]) := by decide +kernel

/-- The store's page is package 1's; with one such on its way, the next stays. -/
theorem witness_PageKindsAndHostWrites_away :
    (let u := after (.hostWindowWriteSend 0) (sHW [stA 3 (0x0008000000020000 / 64) 0 0xFF 5 (some 3)])
     (u.station 0).stores = [] ∧ u.pcie = [] ∧ u.reqs.map (fun e => (e.2.kind, e.2.hostw, e.2.gva, e.2.mask)) =
      [(.merge, true, 0x0008000000020000, 0xFF)]) ∧
    (sHW []).hostAway 0 = false ∧ ({ sHW [] with reqs := [(5, { mreq with hostw := true })] } : State).hostAway 0 = true := by decide +kernel

def dieW (w : List Walk) : Die :=
  { ctxTab := [(0, { valid := true, root := 0x4000, sect := 0xF })], region := die1.region, walks := w, tlb := [{ ctx := 0, page := 3, leaf := 0xBA00000000030000, big := false }] }
/-- The tables: level 0 at 0x4000, level 1 at 0x8000, level 2 at 0xC000, where page 2 is a leaf and page 4 is absent. -/
def tables : List Host.Cell := [(0x4001, 0x80), (0x4007, 0x80), (0x8001, 0xC0), (0x8007, 0x80), (0xC012, 0x02), (0xC017, 0xBA)]
def wreq (g : Word) : Req := { kind := .merge, tag := 1, grid := 1, gva := g }
def sWk (w : List Walk) (g : Word) (st : Stage) : State :=
  { base tH plateStation with dies := State.reset.dies.set 0 (dieW w), mem := tables, reqs := [(5, { wreq g with stage := st })] }
def entW : CtxEntry := { valid := true, root := 0x4000, sect := 0xF }
def walk1 (p : Nat) : List Walk := [{ ctx := 0, page := p, entry := entW, reqs := [5] }]

/-- A ring with every port, and one without. -/
theorem witness_TranslationEvents_ring :
    (sWk [] 0x0008000000020000 .toDtu).broken 1 = false ∧
    ({ sWk [] 0x0008000000020000 .toDtu with eastDown := true, westDown := true } : State).broken 1 = true := by
  constructor <;> unfold State.broken <;> split <;> rfl

theorem witness_TranslationEvents_order :
    (sWk [] 0x0008000000020000 .toDtu).leavesLater (wreq 0x0008000000020000) = false ∧
    (let s : State := { sWk [] 0x0008000000020000 .toDtu with
       reqs := [(4, { wreq 0x0008000000020000 with order := 4 }), (5, { wreq 0x0008000000020000 with order := 5 })] }
     s.leavesLater { wreq 0x0008000000020000 with order := 5 } = true ∧ ((after (.dtuTranslate 5) s).req 5).map (·.stage) = some .toDtu) ∧
    (sWk [] 0x20000 .toDtu).sentLater (wreq 0x20000) = false ∧ (sWk [] 0x20000 .toDtu).pageHeld 5 (wreq 0x20000) = false ∧
    (let s : State := { sWk [] 0x30004 .toDtu with reqs := [(4, { wreq 0x30004 with order := 4 }), (5, { wreq 0x30004 with order := 5 })] }
     s.sentLater { wreq 0x30004 with order := 5 } = true ∧ ((after (.dtuTranslate 5) s).req 5).map (·.stage) = some .toDtu) := by decide +kernel

/-- The pager's queue: its descriptor at plate byte 0 of station 0 (GVA 0 for the firmware), 16 slots from byte 0x1000, TAIL 0, and
HEAD 0 or, when it is full, −16. -/
def dieP : Die := { dieW (walk1 4) with tlb := [{ ctx := 64, page := 0, leaf := 0xBA00000000000000, big := false }] }
def sPg (full : Bool) (d : Die) : State :=
  { sWk (walk1 4) 0x40008 .walking with
    dies := State.reset.dies.set 0 d
    mem := tables ++ [(2 ^ 52 + 1, 0x10), (2 ^ 52 + 8, 4), (2 ^ 52 + 15, 0x80)] ++ if full then [(2 ^ 52 + 0x10, 0x10)] else [] }
theorem witness_TranslationEvents_pager :
    (match (sPg false dieP).translate fwWho (sPg false dieP).cfg.pagerGva[(0 : Fin 4)] .queueOp with
      | .ok l _ => l == .plate 0 0
      | _ => false) = true ∧
    (let q := (sPg false dieP).qdesc (.plate 0 0)
     q.valid = true ∧ q.guestq = false ∧ q.full = false ∧ q.slot q.tail = 0x1000) ∧
    ((sPg true dieP).qdesc (.plate 0 0)).full = true ∧ (sPg false dieP).readPoison (.plate 0 0) 64 = none ∧
    Memory.wf (sPg false dieP).mem = true ∧
    (sPg false dieP).walkLines 0 entW { ctx := 0, world := false } 0x40000 = [] ∧
    (sPg false dieP).gridStopped 1 = false := by decide +kernel

theorem witness_TranslationEvents_enters :
    (let u := after (.walkComplete 0 0 4) (sPg false dieP)
     ((u.req 5).map (·.stage), (u.die 0).walks, (u.die 0).faultsCnt, (u.qdesc (.plate 0 0)).tail, bytesNat 16 fun x => u.homeByte ((Loc.plate 0 0x1000).plus x))) =
      (some (.buffered 0), [], 1, 1, 1 + 8 * 2 ^ 24 + 0x40000 * 2 ^ 64) ∧
    ((after (.walkComplete 0 0 4) (sPg false dieP)).die 0).fbuf[(0 : Fin 8)].map (fun f => (f.acc, f.page, f.reqs)) = some (8, 4, [5]) ∧
    (let u := after (.walkComplete 0 0 4) (sPg true dieP)
     ((u.req 5).map (·.stage), (u.die 0).dropped, (u.station 0).refused)) = (some .refused, true, [5]) ∧
    (let d : Die := { dieP with fbuf := Vector.replicate 8 (some { acc := 2, page := 77, ctx := 9, reqs := [], first := 0, order := 0 }) }
     d.fbFree = none ∧ ((after (.walkComplete 0 0 4) (sPg false d)).req 5).map (·.stage) = some .refused) := by decide +kernel

theorem witness_TranslationEvents :
    (sWk [] 0x20000 .toDtu).req 5 = some (wreq 0x20000) ∧
    gvaPkg 0x0008000000020000 = 1 ∧ (sWk [] 0x20000 .toDtu).reissuedBefore (wreq 0x20000) = false ∧
    (let s : State := { sWk [] 0x20000 .toDtu with reqs := [(4, { wreq 0x20040 with turn := 1 }), (5, { wreq 0x20000 with turn := 2 })] }
     (s.reissuedBefore { wreq 0x20000 with turn := 2 }, ((after (.dtuTranslate 5) s).req 5).map (·.stage))) = (true, some .toDtu) ∧
    ((sWk [] 0x20000 .toDtu).die 0).fbFind 0 2 = none ∧
    ((after (.dtuTranslate 5) (sWk [] 0x30004 .toDtu)).req 5).map (·.stage) = some (.translated (.plate 0 0x30004)) ∧
    (let u := after (.dtuTranslate 5) (sWk [] 0x20000 .toDtu)
     ((u.req 5).map (·.stage), (u.die 0).walks)) = (some .walking, walk1 2) ∧
    (match (sWk (walk1 2) 0x20040 .walking).walkBy 0 entW { ctx := 0, world := false } 0x20000 with
      | .leaf p _ => p == 0xBA00000000020000
      | _ => false) = true ∧
    (let u := after (.walkComplete 0 0 2) (sWk (walk1 2) 0x20040 .walking)
     ((u.die 0).walks, (u.req 5).map (·.stage), (u.die 0).tlb.map (·.page))) = ([], some (.translated (.plate 0 0x20040)), [3, 2]) ∧
    (match (sWk (walk1 4) 0x40000 .walking).walkBy 0 entW { ctx := 0, world := false } 0x40000 with
      | .notPresent => true
      | _ => false) = true ∧
    ((sWk (walk1 4) 0x40000 .walking).die 0).fbCount = 0 ∧ ((sWk (walk1 4) 0x40000 .walking).die 0).fbFree = some 0 ∧
    ((after (.walkComplete 0 0 4) (sWk (walk1 4) 0x40000 .walking)).req 5).map (·.stage) = some .refused ∧
    (let u := after (.stationReissue 0) { sWk [] 0x20000 .refused with stations := [(0, { refused := [5], reissue := true })] }
     ((u.req 5).map (·.stage), (u.station 0).refused, (u.station 0).reissue)) = (some .toDtu, [], false) := by decide +kernel

/-! ### Launches, courses, chords, grids and host queues -/

/-- Cells of page 2 (GVA 0x20000), by offset. -/
def page (l : List (Nat × Byte)) : List Host.Cell := l.map fun e => (keyM + e.1, e.2)
/-- The launch block at 0x20000: entry 0x10000, two strands. -/
def blk : List (Nat × Byte) := [(2, 1), (9, 1)]
/-- The record of a SPAWN at 0x20080, with DONEC and DONEH 0. -/
def sLn (k : ReqKind) (r : List (Nat × Byte)) : State :=
  { sH [(5, { rq k 0 0 with stage := .toDtu, gva := 0x20080 })] (page (blk ++ r)) with
    strands := [], grids := [], results := [(7, { tag := 1, dst := .s (.x 9), pc := 0 })] }
/-- What a launch unit reads without waiting. -/
def readsAt (s : State) (u : UWho) (g : Word) (n : Nat) : Option (List Byte) :=
  match s.unitRead u g n with
  | .ok (bs, none) _ => some bs
  | _ => none

theorem witness_LaunchAndEnd_accept :
    (readsAt (sLn .spawn [(0x82, 2)]) ((rq .spawn 0 0).unit 5) 0x20080 64).map (fun bs => wordOf bs 0) = some 0x20000 ∧
    (let u := after (.launchUnitAccept 5) (sLn .spawn [(0x82, 2)])
     (u.grids.map fun e => (e.1, e.2.st, e.2.entry, e.2.strands), u.results.map fun e => (e.2.ready, e.2.value.toNat))) =
      ([(1, .placing, 0x10000, 2)], [(true, 1)]) ∧
    -- DONEC with a bit above 15
    ((after (.launchUnitAccept 5) (sLn .spawn [(0x82, 2), (0xBA, 1)])).results.map fun e => e.2.value.toNat) = [2 ^ 63 + 0x275 * 65536] ∧
    -- a launch block that is not 128-aligned
    ((after (.launchUnitAccept 5) (sLn .spawn [(0x80, 1), (0x82, 2)])).results.map fun e => e.2.value.toNat) = [2 ^ 63 + 0x275 * 65536] ∧
    -- SPAWNL: entry 0x10000 on station 1, SEED 7, x1 = 9
    (sLn .spawnl [(0x82, 1), (0x8C, 1), (0x90, 7), (0x98, 9)]).inSection 0 1 = true ∧
    (sLn .spawnl []).looseOn 0 0 = 0 ∧ (sLn .spawnl []).freeSlotOf 1 = some 8 ∧ ((sLn .spawnl []).station 1).runq = [] := by decide +kernel

noncomputable def sNew : State := after (.launchUnitAccept 5) (sLn .spawnl [(0x82, 1), (0x8C, 1), (0x90, 7), (0x98, 9)])
def gridP : Grid := { grid1 with st := .placing, placed := 0, strands := 2, arg0 := 4, arg1 := 5, mode := 3, seed := 9 }
def sPl : State := { s0 with strands := [], stations := [(0, { chord := some chord1 })], grids := [(1, { grid1 with st := .done }), (2, gridP)] }
def chordP (st : ChordState) : Chord := { grid := 2, course := 0, x := 0, y := 0, n := 2, st := st }
def sArm (st : ChordState) : State := { sPl with stations := [(1, { chord := some (chordP st) })] }

theorem witness_LaunchAndEnd_courses :
    sNew.reqs = [] ∧ (sNew.results.map fun e => (e.2.ready, e.2.value)) = [(true, 0)] ∧
    (sNew.slot 8).map (fun t => (t.pc, t.seed, t.loose, (t.x[(1 : Fin 16)]).val)) = some (0x10000, 7, true, 9) ∧
    -- a course on the lowest free station, which is station 1
    sPl.restoreDue 0 = false ∧ (sPl.nextPlace 0).map (fun e => (e.1, e.2.2)) = some (2, [[1]]) ∧ sPl.nextPlace 1 = none ∧
    ((after (.coursePlace 0) sPl).station 1).chord.map (fun c => (c.grid, c.n, c.st)) = some (2, 2, .armed 0) ∧
    ((after (.coursePlace 0) sPl).gridOf 2).map (fun g => (g.placed, g.st)) = some (1, .running) := by decide +kernel

theorem witness_LaunchAndEnd_dispatch :
    (sArm .pending).chordAt 2 0 = some (1, chordP .pending) ∧
    ((after (.chordArmed 2 0) (sArm .pending)).station 1).chord.map (·.st) = some (.armed 0) ∧
    firstArmed ((sArm (.armed 0)).armedOn 0) = some (0, 0, 0, 1) ∧ ((sArm (.armed 0)).station 1).disabled = 0 ∧
    (sArm (.armed 0)).roomOf 1 = [8, 9, 10, 11, 12, 13, 14, 15] ∧
    ((after (.chordDispatch 0) (sArm (.armed 0))).slot 9).map (fun t => (t.pc, t.index, t.mode, t.seed)) = some (0x10000, 1, 3, 9) ∧
    ((after (.chordDispatch 0) (sArm (.armed 0))).slot 9).map (fun t => ((t.x[(1 : Fin 16)]).val, (t.x[(2 : Fin 16)]).val)) = some (4, 5) ∧
    (after (.chordDispatch 0) (sArm (.armed 0))).slot 10 = none := by decide +kernel

def sEnd (g : Grid) : State := { s0 with strands := [], stations := [(0, { chord := some { chord1 with st := .ending, live := [] } })], grids := [(1, g)] }

theorem witness_LaunchAndEnd_ends :
    (sEnd grid1).reqs = [] ∧ ((sEnd grid1).station 0).eng = {} ∧ ((sEnd grid1).station 0).stores = [] ∧
    ((after (.chordEnd 0) (sEnd grid1)).station 0).chord = none ∧ ((after (.chordEnd 0) (sEnd grid1)).gridOf 1).map (·.ended) = some 1 ∧
    ((after (.gridComplete 1) (sEnd { grid1 with ended := 1 })).gridOf 1).map (·.st) = some .completing ∧
    ((after (.gridComplete 1) (sEnd grid1)).gridOf 1).map (·.st) = some .running ∧
    (sEnd { grid1 with st := .completing }).gridBusy 1 = false ∧
    ((after (.gridComplete 1) (sEnd { grid1 with st := .completing })).gridOf 1).map (·.st) = some .done ∧
    ((after (.gridFaulted 1) (sEnd { grid1 with st := .ending })).gridOf 1).map (·.st) = some .faulted ∧
    ((after (.gridFaulted 1) (sEnd { grid1 with st := .ending })).station 0).chord = none ∧
    ((after (.gridFaulted 1) (sEnd { grid1 with st := .ending, hold := true })).gridOf 1).map (·.st) = some .ending := by decide +kernel

/-- A ring of two packages is told of the grid's end first; an ENQ that waits at another package keeps the grid. -/
def sRing (told : Bool) : State := { sEnd { grid1 with st := .completing, told := told } with cfg := { State.reset.cfg with ringN := 2 } }
set_option synthInstance.maxSize 4096 in
theorem witness_LaunchAndEnd_ring :
    1 < (sRing false).cfg.ringN ∧ (sRing false).gridBusy 1 = false ∧
    (let u := after (.gridComplete 1) (sRing false)
     ((u.gridOf 1).map fun g => (g.st, g.told), u.string.map fun f => match f with
       | .request p q => (p, q.op == .gridEnd false, q.grid)
       | _ => (0, false, 0))) = (some (.completing, true), [(1, true, 1)]) ∧
    ((after (.gridComplete 1) (sRing true)).gridOf 1).map (·.st) = some .done ∧
    ({ kind := .enq false, stage := .remote } : Req).waitsAway = true := by decide +kernel

/-- What must have happened before a placement and a dispatch. -/
theorem witness_LaunchAndEnd_before :
    sPl.restoreFirst [[1]] = false ∧ (sArm (.armed 0)).writesHeld 1 .ring (sArm (.armed 0)).nextAge 0 = true ∧
    (let s : State := { sPl with saved := [.chord 0 { chord1 with grid := 2, st := .spilled } [] { eng := {}, cpy := {} } 4 plateStation.prot], stations := [] }
     s.restoreDue 0 = true ∧ (after (.coursePlace 0) s).stations = []) ∧
    (let s : State := { sArm (.armed 0) with stations := [(1, { chord := some (chordP (.armed 0)), stores := [stA 3 0x800 0 1 5 (some 1)] })] }
     s.writesHeld 1 .ring s.nextAge 0 = false ∧ (let u := after (.chordDispatch 0) s
       ((u.station 1).chord.map (·.st), (u.station 1).stores, u.reqs.map (·.2.kind))) = (some (.armed 0), [], [.merge])) := by decide +kernel

/-- Host queue 0 of 64 slots at GVA 0x21000, with its next command's bytes. -/
def hq : HQueue := { base := 0x21000, log2 := 6, tail := 1, st := .active }
def sHq (Q : HQueue) (l : List (Nat × Byte)) : State :=
  { s0 with strands := [], grids := [], mem := page (blk ++ l.map fun e => (0x1000 + e.1, e.2)), queues := [(0, Q)] }
/-- Whether the front end reads a command of an operation as `ReadsCmd` asks. -/
def readsCmd (s : State) (op : Nat) : Bool :=
  match s.readCmd 0 with
  | some (_, .ok (bs, none) _) =>
    let c := cmdOf bs (s.queue 0)
    (c.op == op) && !s.cmdBad 0 c && (!c.fence || (s.queue 0).fenceOpen)
  | _ => false
noncomputable def hqAfter (i : Instr) (s : State) : HQueue := (after i s).queue 0
def deep : List IBuf := (List.range 4).map fun i => { addr := 0x21000, count := 2, next := 0, cmd := i }

theorem witness_HostQueues_registers :
    (sHq hq []).boot.up = true ∧ (hqAfter (.queueTailWrite 0 64) (sHq hq [])).tail = 64 ∧
    (hqAfter (.queueTailWrite 0 1) (sHq { hq with st := .idle } [])).st = .idle ∧
    (hqAfter (.queueTailWrite 0 2) (sHq { hq with st := .idle } [])).st = .active ∧
    (let Q := hqAfter (.queueTailWrite 0 65) (sHq hq [])
     (Q.st, Q.cause, Q.tail, Q.faultidx)) = (.faulted, 0x270, 1, 65) ∧
    (hqAfter (.queueDisable 0) (sHq hq [])).st = .disabled ∧
    (let Q := hqAfter (.queueReset 0) (sHq { hq with st := .faulted } [])
     (Q.st, Q.head)) = (.disabled, 1) ∧
    (hqAfter (.queueEnable 0) (sHq { hq with st := .disabled } [])).st = .active ∧
    (hqAfter (.queueEnable 0) (sHq { hq with st := .disabled, head := 1 } [])).st = .idle ∧
    (hqAfter (.queueEnable 0) (sHq { hq with st := .disabled, log2 := 5 } [])).cause = 0x272 ∧
    (hqAfter (.queueEnable 0) (sHq { hq with st := .disabled, base := 0x20800 } [])).cause = 0x272 := by decide +kernel

theorem witness_HostQueues_commands :
    readsCmd (sHq hq [(0, 1), (10, 2)]) 1 = true ∧
    ((after (.launch 0 []) (sHq hq [(0, 1), (10, 2)])).grids.map fun e => (e.1, e.2.st, e.2.arg0)) = [(1, .placing, 0)] ∧
    (hqAfter (.launch 0 []) (sHq hq [(0, 1), (10, 2)])).cmds.map (fun e => (e.1, e.2.grid, e.2.ready)) = [(0, 1, false)] ∧
    -- LAUNCHP of a block of one stage is refused
    readsCmd (sHq hq [(0, 2), (10, 2)]) 2 = true ∧
    (hqAfter (.launchp 0 []) (sHq hq [(0, 2), (10, 2)])).cmds.map (fun e => (e.2.refused, e.2.cause)) = [(true, 0x275)] ∧
    readsCmd (sHq hq [(0, 3), (10, 2), (16, 2)]) 3 = true ∧
    (hqAfter (.callib 0) (sHq hq [(0, 3), (10, 2), (16, 2)])).bufs = [{ addr := 0x20000, count := 2, next := 0, cmd := 0 }] ∧
    readsCmd (sHq { hq with bufs := deep } [(0, 3), (10, 2), (16, 2)]) 3 = true ∧
    (hqAfter (.callib 0) (sHq { hq with bufs := deep } [(0, 3), (10, 2), (16, 2)])).cause = 0x271 ∧
    readsCmd (sHq hq [(0, 4)]) 4 = true ∧
    (let Q := hqAfter (.signal 0) (sHq hq [(0, 4)])
     (Q.head, Q.st, Q.cmds.map fun e => e.2.ready)) = (1, .idle, [true]) ∧
    readsCmd (sHq hq [(0, 6), (10, 2), (18, 3), (24, 8)]) 6 = true ∧
    (((after (.copy 0) (sHq hq [(0, 6), (10, 2), (18, 3), (24, 8)])).station 31).cpy.queue.map fun i => (i.src, i.dst, i.len)) =
      [(0x20000, 0x30000, 8)] := by decide +kernel

theorem witness_HostQueues_waits :
    readsCmd (sHq { hq with timeline := 5 } [(0, 5), (24, 5)]) 5 = true ∧
    (hqAfter (.wait 0) (sHq { hq with timeline := 5 } [(0, 5), (24, 5)])).st = .idle ∧
    (let Q := hqAfter (.wait 0) (sHq { hq with timeline := 5 } [(0, 5), (24, 6)])
     (Q.st, Q.wait)) = (.waiting, some 0) ∧
    (hqAfter (.badcmd 0) (sHq hq [(0, 8)])).cause = 0x272 ∧ (hqAfter (.badcmd 0) (sHq hq [])).cause = 0x272 ∧
    (hqAfter (.badcmd 0) { sHq hq [(0, 4)] with poison := [((keyM + 0x1000) / 64, 0)] }).cause = 0x1F0 := by decide +kernel

/-- A WAIT on the signal word at 0x20100, operand 3. -/
def waitCmd (k a : Word) : Cmd := { op := 5, header := 5, body := [k, a, 3, 0, 0], sig := 0, tlv := 0, level := 0, ring := 0 }
def hqW (c : Cmd) : HQueue := { hq with wait := some 0, st := .waiting, head := 1, cmds := [(0, c)], timeline := 3 }
def sigCmd : Cmd := { op := 4, header := 0x0005_0204, body := [0, 0, 0, 0, 0], sig := 0, tlv := 0, level := 0, ring := 0, ready := true }

theorem witness_HostQueues_completion :
    (hqW (waitCmd 1 0x20100)).waiting = some (0, waitCmd 1 0x20100) ∧
    readsAt (sHq (hqW (waitCmd 1 0x20100)) []) { (sHq hq []).queueWho 0 with own := cmdOwn 0 0 } 0x20100 8 = some (List.replicate 8 0) ∧
    (hqAfter (.waitSignalPoll 0) (sHq (hqW (waitCmd 1 0x20100)) [])).polled = true ∧
    (hqAfter (.waitSignalPoll 0) { sHq (hqW (waitCmd 1 0x20100)) [] with mem := page [(0x100, 4)] }).polled = false ∧
    (sHq (hqW (waitCmd 0 0)) []).timelineMet (waitCmd 0 0) = true ∧
    (let Q := hqAfter (.waitConditionMet 0) (sHq (hqW (waitCmd 0 0)) [])
     (Q.wait, Q.st, Q.cmds.map fun e => e.2.ready)) = (none, .idle, [true]) ∧
    (hqAfter (.waitConditionMet 0) (sHq { hqW (waitCmd 1 0x20100) with polled := true } [])).wait = none ∧
    (hqAfter (.commandComplete 0 0) (sHq { hq with head := 1, cmds := [(0, sigCmd)] } [])).cmds = [] ∧
    (after (.commandComplete 0 0) (sHq { hq with head := 1, cmds := [(0, sigCmd)] } [])).pcie = [.msix 0 5] ∧
    (hqAfter (.commandComplete 0 0) (sHq { hq with cmds := [(0, { sigCmd with ready := false })] } [])).cmds =
      [(0, { sigCmd with ready := false })] := by decide +kernel

/-! ### Contexts, spills, heat, waits -/

def sC (x : Context) : State := { base tS with strands := [], stations := [], grids := [], ctxs := [(0, x)], queues := [(0, { st := .idle }), (1, { st := .suspended 3 })] }
/-- Context 0 is suspended, with two bytes in station 1's plate and a message in its mailbox. -/
def sMv : State := { sC { suspended := true, status := 2 } with
  mem := [(2 ^ 52 + 2 ^ 23 + 7, 9), (2 ^ 52 + 4 * 2 ^ 23 + 1, 5)], stations := [(1, { mailbox := [mail1] }), (5, {})] }

theorem witness_Contexts_commands :
    (sC { parked := true }).managed 0 = true ∧
    (let u := after (.suspend 0) (sC { parked := true })
     ((u.ctx 0).suspended, (u.ctx 0).busy, (u.ctx 0).op, (u.queue 0).st)) = (true, true, .suspend, .suspended 1) ∧
    (sC { suspended := true, busy := true, op := .suspend, parked := true }).suspendedWhole 0 = true ∧
    (let u := after (.suspend 0) (sC { suspended := true, busy := true, op := .suspend, parked := true })
     ((u.ctx 0).status, (u.ctx 0).busy)) = (2, false) ∧
    (sC { suspended := true, busy := true, op := .resume }).invDone [] [] = true ∧
    (let u := after (.ctxResume 0) (sC { suspended := true, busy := true, op := .resume })
     ((u.ctx 0).status, (u.ctx 0).suspended, (u.queue 1).st)) = (1, false, .waiting) ∧
    (sC {}).mayMove 0 0x400 ((sC {}).sectionOf 0) = false ∧ ((after (.ctxMigrate 0 0x400) (sC {})).ctx 0).error = 2 := by decide +kernel

/-- The section 0 to 3 moves by four columns. -/
noncomputable def sMoved : State := after (.ctxMigrate 0 0x400) sMv
theorem witness_Contexts_migrate :
    sMv.mayMove 0 0x400 (sMv.sectionOf 0) = true ∧ Memory.wf sMv.mem = true ∧
    (sMoved.ctx 0).status = 3 ∧ ((sMoved.die 0).ctxEntry 0).sect = 0xF0 ∧ (sMoved.station 5).mailbox = [mail1] ∧
    (sMoved.station 1).mailbox = [] ∧ sMoved.mem = [(2 ^ 52 + 5 * 2 ^ 23 + 7, 9)] ∧
    (after (.release 0) { sC {} with grids := [(1, { grid1 with hold := true })] }).grids.map (fun e => e.2.hold) = [false] := by decide +kernel

def gq2 : GuestQueue := { gqn := 2, pa := 0x1000, base := 0x20000, log2cap := 4 }
theorem witness_Contexts_creation :
    -- stations 4 and 5 of die 0 are free and in nobody's section; station 0 is context 0's
    ((sC {}).taken 4 = false ∧ (sC {}).inSection 0 4 = false ∧ isBridge (sC {}).cfg 4 = false ∧ (sC {}).inSection 0 0 = true) ∧
    (List.range 4).all (fun d => decide ((sC {}).quotasOn d + 100 ≤ 16384)) = true ∧
    (let u := after (.contextCreation 3 100 [4, 5] [gq2]) (sC {})
     ((tblGet u.ctxs 3).map fun x => (x.quota, x.guestQueues, x.status), ((u.die 0).ctxEntry 3).sect, ((u.die 3).ctxEntry 3).quota)) = (some (100, [(2, 0x1000)], 1), 0x30, 100) := by decide +kernel

theorem witness_Contexts_ends :
    ([0x1000, 0x1008, 0x1010].map fun a => (after (.contextCreation 3 100 [4, 5] [gq2]) (sC {})).homeNat (.lp6 0 a) 8) =
      [0x20000, 0xC180000200000004, 0] ∧
    (tblGet (after (.contextCreation 3 16384 [4, 5] []) (sC {})).ctxs 3).map (·.quota) = some 16384 ∧
    16384 < (sC {}).quotasOn 0 + 16385 ∧ tblGet (after (.contextCreation 3 16385 [4, 5] []) (sC {})).ctxs 3 = none ∧
    (sMv.sectionOf 0).all (fun st => sMv.writesHeld st .ring sMv.nextAge 0) = true ∧
    (let u := after (.contextDestruction 0) { sMv with proofs := [(3, rec5), (4, { rec5 with ctx := 1 })] }
     (u.ctxs, u.proofs.map (·.1), u.mem, u.sectionOf 0)) = ([], [4], [(2 ^ 52 + 4 * 2 ^ 23 + 1, 5)], []) := by decide +kernel

def spq (k : ReqKind) (tag : Word) : Req := { kind := k, a := 9, b := tag, res := some 7 }
def resX : PRes := { tag := 3, dst := .s (.x 9), pc := 0 }
def sSp (k : ReqKind) (tag : Word) (l : List (Nat × Strand)) (v : List Saved) : State :=
  { base tS with strands := l, reqs := [(5, spq k tag)], results := [(7, resX)], saved := v }

theorem witness_Spills_slots :
    (sSp .spls 0 [] []).spillReq 9 = some (5, spq .spls 0) ∧
    (let u := after (.slotSpill 9) (sSp .spls 0 [] [])
     (u.reqs, u.results.map fun e => (e.2.ready, e.2.value.toNat))) = ([], [(true, 2 ^ 64 - 1)]) ∧
    tLs.spillable = true ∧ (sSp .spls 0 [(9, tLs)] []).slot 9 = some tLs ∧
    (let u := after (.slotSpill 9) (sSp .spls 0 [(9, tLs)] [])
     (u.strands, u.reqs, u.saved.length)) = ([], [], 1) ∧
    (let u := after (.slotSpill 9) (sSp .splr 77 [] [.slot 77 1 tLs true])
     (u.slot 9, u.saved, u.results.map fun e => (e.2.ready, e.2.value))) = (some tLs, [], [(true, 1)]) ∧
    ((after (.slotSpill 9) (sSp .splr 77 [] [])).results.map fun e => (e.2.ready, e.2.value)) = [(true, 0)] := by decide +kernel

def sCh (S : Station) (v : List Saved) : State := { base tS S with strands := [], saved := v }
def savedCh : Saved := .chord 0 { chord1 with st := .spilled } [] { eng := { steps := 5 }, cpy := {} } 4 plateStation.prot

theorem witness_Spills_chords :
    (sCh { plateStation with chord := some { chord1 with evict := true }, eng := { steps := 5 } } []).writesHeld 0 .ring 10 0 = true ∧
    (sCh plateStation []).chordSlots 0 = [] ∧
    (let u := after (.chordSpill 0) (sCh { plateStation with chord := some { chord1 with evict := true }, eng := { steps := 5 } } [])
     ((u.station 0).chord, (u.station 0).eng.steps, (u.station 0).ways, u.saved.length)) = (none, 0, 4, 1) ∧
    (let u := after (.chordRestore 0) (sCh {} [savedCh])
     ((u.station 0).chord, (u.station 0).eng.steps, (u.station 0).ways, u.saved)) = (some chord1, 5, 4, []) := by decide +kernel

/-- The chord with 5 bytes of plate saved beside it, and a store of another grid still in the station's buffer. -/
def savedPl : Saved := .chord 0 { chord1 with st := .spilled } [] { eng := {}, cpy := {}, plate := some ([(7, 9)], []) } 4 plateStation.prot
def stored : Station := { stores := [{ age := 2, line := 0x20000 / 64, mask := 1, data := 5, slot := 0, grid := 1, ctx := 0, world := false, kind := some 1 }] }
def evicted1 : Chord := { chord1 with evict := true }
theorem witness_Spills_whole :
    -- with a store not yet at its home the chord stays, and is restored only when the station's writes are at theirs
    (sCh { stored with chord := some evicted1 } []).writesHeld 0 .ring 10 0 = false ∧
    (let u := after (.chordSpill 0) (sCh { stored with chord := some evicted1 } [])
     ((u.station 0).chord, (u.station 0).stores.length, u.saved, u.reqs.map (·.2.kind))) = (some evicted1, 0, [], [.merge]) ∧
    ((after (.chordRestore 0) (sCh stored [savedPl])).saved = [savedPl] ∧ (sCh stored []).writesHeld 0 .ring 10 0 = false) ∧
    -- a publication of the drain's still on its way, or a copy's block, keeps the chord
    (let s : State := { sCh { chord := some evicted1 } [] with reqs := [(5, { spq .proofPub 0 with src := 2 })] }
     s.drainAction 0 = true ∧ ((after (.chordSpill 0) s).station 0).chord = some evicted1) ∧
    (let s : State := { sCh { chord := some evicted1, cpy := cq [citem .cpys 3] } [] with reqs := [(5, { spq (.copyRead 0) 0 with src := 3, age := 0, stage := .remote })] }
     s.copyAway 0 = true ∧ ((after (.chordSpill 0) s).station 0).chord = some evicted1) ∧
    -- the plate comes back
    ((after (.chordRestore 0) { sCh {} [savedPl] with mem := [(2 ^ 52 + 3, 8)] }).mem = [(2 ^ 52 + 7, 9)]) ∧
    Memory.wf [((2 ^ 52 + 3 : Nat), (8 : Byte))] = true := by decide +kernel

def hotS (d : BitVec 8) (hot : Bool) : Station := { chord := some chord1, disabled := d, hot := hot }
def sHot (S : Station) (l : List (Nat × Strand)) (v : List Saved) : State := { base tS S with strands := l, saved := v }
def fullChord (ran : Nat) : List (Nat × Strand) := (0, { other 2 with ran := ran }) :: (List.range 7).map fun i => (i + 1, { other (20 + i) with loose := true })

theorem witness_Spills_heat :
    ((after (.thermalThreshold 0 (.celsius 100)) (sHot {} [] [])).station 0).hot = true ∧
    ((after (.thermalThreshold 0 (.celsius 95)) (sHot (hotS 0 true) [] [])).station 0).hot = true ∧
    ((after (.thermalThreshold 0 (.celsius 94)) (sHot (hotS 0 true) [] [])).station 0).hot = false ∧
    (after (.thermalThreshold 0 (.watts 951)) (sHot {} [] [])).powerOver = true ∧
    (after (.thermalThreshold 0 (.watts 950)) { sHot {} [] [] with powerOver := true }).powerOver = false ∧
    (let s : State := { sHot (hotS 0 true) [] [] with fw := { swap := some 1 } }
     s.fw.swap ≠ none ∧ ((after (.thermalSlotChange 3 true 1) s).station 0).disabled = 0) ∧
    (let s : State := { sHot (hotS 1 false) [] [] with powerOver := true }
     s.slot 3 = none ∧ ((after (.thermalSlotChange 3 true 1) s).station 0).disabled = 9) ∧
    (hotS 1 true).enabled = 7 ∧ ((after (.thermalSlotChange 3 true 1) (sHot (hotS 1 true) [] [])).station 0).disabled = 9 ∧
    (hotS 0x7F true).enabled = 1 ∧ ((after (.thermalSlotChange 7 true 1) (sHot (hotS 0x7F true) [] [])).station 0).disabled = 0x7F ∧
    ((after (.thermalSlotChange 3 false 1) (sHot (hotS 9 false) [] [])).station 0).disabled = 1 ∧
    (sHot (hotS 1 true) [] []).freeSlotOf 0 = some 1 ∧
    (let u := after (.timesliceRotate 0) (sHot (hotS 1 true) [] [.slot 0 0 (other 1) false])
     ((u.slot 1).map (·.tag), u.saved)) = (some 1, []) ∧
    (sHot (hotS 0 true) (fullChord 4096) []).freeSlotOf 0 = none ∧
    ((after (.timesliceRotate 0) (sHot (hotS 0 true) (fullChord 4096) [.slot 0 0 (other 1) false])).slot 0).map (·.tag) = some 1 ∧
    ((after (.timesliceRotate 0) (sHot (hotS 0 true) (fullChord 4095) [.slot 0 0 (other 1) false])).slot 0).map (·.tag) = some 2 := by
  decide +kernel

/-- A strand that waits for room at a channel of its own (no program can bind one: it stands for a party that waits on itself). -/
def tStuck : Strand := { tS with hold := .issue (.port 3), ports := (Vector.replicate 8 Port.unbound).set 3 (.channel (ch2 true (1, 3) 1)) }
def stuck8 : WaitEntry := { who := 8, grid := 1, conds := [[8]] }
def sStuck (l : List WaitEntry) : State := { base tStuck with walkers := (Vector.replicate 4 {}).set 0 { last := l } }

theorem witness_Spills_waits :
    stuckSet 9 (sStuck []).waitTable = [stuck8] ∧
    (let u := after (.waitforWalk 0) (sStuck [])
     ((u.walkers[(0 : Fin 4)]).last, gridSt u)) = ([stuck8], some (.running, 0)) ∧
    gridSt (after (.waitforWalk 0) (sStuck [stuck8])) = some (.ending, 0x2B0) := by decide +kernel

/-- Two strands that wait on each other's channels (no program can: they stand for parties that wait on each other). -/
def tPair (tag : Nat) : Strand :=
  { tS with tag := tag, hold := .issue (.port 3), ports := (Vector.replicate 8 Port.unbound).set 3 (.channel (ch2 true (3 - tag, 3) 1)) }
def pair : List WaitEntry := [{ who := 8, grid := 1, conds := [[16]] }, { who := 16, grid := 1, conds := [[8]] }]
def sMutual (l : List WaitEntry) : State :=
  { base tS with strands := [(0, tPair 1), (1, tPair 2)], walkers := (Vector.replicate 4 {}).set 0 { last := l } }

theorem witness_Spills_pair :
    (sMutual []).waitTable = pair ∧ stuckSet 3 pair = pair ∧ (pair.map (·.who) = [8, 16]) ∧
    (∀ e ∈ pair, e.stuck [8, 16] = true ∧ e.stuck [8] = decide (e.who = 16)) ∧
    gridSt (after (.waitforWalk 0) (sMutual [])) = some (.running, 0) ∧
    gridSt (after (.waitforWalk 0) (sMutual pair)) = some (.ending, 0x2B0) ∧
    gridSt (after (.waitforWalk 0) { sMutual pair with fw := { swap := some 1 } }) = some (.running, 0) := by decide +kernel

/-- The one station of context 0's section holds the chord of a strand that waits for proof 5, which grid 2, without a place, is to
publish. -/
def sWant (seen : Nat) (g : Grid) (c : Chord) : State :=
  { base tS { chord := some { c with live := [1] } } with
    strands := [(0, { tS with hold := .proof 5 })], grids := [(1, grid1), (2, g)],
    reqs := [(5, { rq .proofWait 0 0 with gva := H 5, stage := .waiting })],
    dies := State.reset.dies.set 0 { ctxTab := [(0, { valid := true, sect := 1 })] },
    rescue := (Vector.replicate 4 {}).set 0 { seen := seen } }
def gridOut : Grid := { grid1 with st := .placing, placed := 0, proofs := [⟨H 5, false, false, false⟩] }

theorem witness_Spills_want :
    (sWant 0 gridOut chord1).wanted 0 0 = some (2, gridOut) ∧
    (let u := after (.rescueCheck 0) (sWant 2 gridOut chord1)
     (u.rescue[(0 : Fin 4)], u.stations)) = ({ seen := 1, target := none }, (sWant 2 gridOut chord1).stations) ∧
    (sWant 1 gridOut chord1).victims 0 0 = [⟨1, 0, [0], 0⟩] ∧
    (sWant 1 gridOut chord1).rescueSet 0 gridOut ((sWant 1 gridOut chord1).victims 0 0) [] = some [0] := by decide +kernel

theorem witness_Spills_rescue :
    (let u := after (.rescueCheck 0) (sWant 1 gridOut chord1)
     ((u.rescue[(0 : Fin 4)]).target, (u.station 0).chord.map (·.evict))) = (some 2, some true) := by decide +kernel

/-- While the chord is on its way out the rescue waits; when it is out, the course takes its station. -/
def sResc (l : List (Nat × Station)) (v : List Saved) : State :=
  { sWant 1 gridP chord1 with stations := l, strands := [], reqs := [], saved := v
                              rescue := (Vector.replicate 4 {}).set 0 { seen := 1, target := some 2 } }
def savedEv : Saved := .chord 0 { chord1 with st := .spilled, evict := true } [] { eng := {}, cpy := {} } 4 plateStation.prot

theorem witness_Spills_rescued :
    ((after (.rescueCheck 0) (sResc [(0, { chord := some evicted1 })] [])).rescue[(0 : Fin 4)]).target = some 2 ∧
    (sResc [(0, {})] [savedEv]).wantsPlace gridP = true ∧
    (sResc [(0, {})] [savedEv]).placesOn 0 gridP ((sResc [(0, {})] [savedEv]).takenFor [0]) = some [[0]] ∧
    (sResc [(0, {})] [savedEv]).restoreFirst [[0]] = false ∧
    (let u := after (.rescueCheck 0) (sResc [(0, {})] [savedEv])
     ((u.rescue[(0 : Fin 4)]).target, (u.gridOf 2).map (·.placed), (u.station 0).chord.map fun c => (c.grid, c.course, c.n))) =
      (none, some 1, some (2, 0, 2)) := by decide +kernel

/-! ### The package's edge and the guest -/

def win : Window := { valid := true, ctx := 0, base := 0x20000 }
def sW (w : Window) : State := { s0 with windows := [(0, w)] }
def hostReq (k : ReqKind) : Req := { kind := k, stage := .hostOut (.pcie 0x100), tag := 1, age := 3, gva := 0x20000 }
def sHost : State := { s0 with reqs := [(5, hostReq .unitRead)] }

theorem witness_PackageEdge_link :
    s0.boot.up = true ∧ (sW win).windowOk 0 = true ∧ gvaOk s0.cfg 0x20004 = true ∧ (sW {}).windowOk 0 = false ∧
    ((after (.inboundWrite 0 4 [7, 8] {}) (sW win)).reqs.map fun e => (e.2.kind, e.2.gva, e.2.mask, e.2.data)) =
      [(.inWrite 0, 0x20000, 0x30, 0x080700000000)] ∧
    (after (.inboundWrite 0 4 [7, 8] {}) (sW { win with frozen := some 0x2F1 })).reqs = [] ∧
    ((after (.inboundWrite 0 4 [7, 8] {}) (sW {})).window 0).frozen.isSome = true ∧
    ((after (.inboundRead 0 4 ⟨2, false⟩) (sW win)).reqs.map fun e => (e.2.kind, e.2.gva)) = [(.inRead 0 2, 0x20004)] ∧
    (after (.inboundRead 0 4 ⟨2, false⟩) (sW { win with frozen := some 0x2F1 })).pcie = [.completion 0 2 0 .unsupported] ∧
    sHost.req 5 = some (hostReq .unitRead) ∧ (hostReq .unitRead).atHost = true ∧
    ((after (.hostReadCompletion 5 .success 9) sHost).req 5).map (fun r => (r.stage, r.data)) = some (.replied true 0, 9) ∧
    ((after (.completionTimeout 5) sHost).req 5).map (fun r => (r.stage, r.data)) = some (.replied true 0x1F0, 0) ∧
    (after (.hostReadCompletion 6 .success 9) sHost).reqs = sHost.reqs ∧ (hostReq .unitRead).from_ = none ∧
    sHost.waitsForever (hostReq .unitRead) = false := by decide +kernel

/-- A poisoned write; requests that need ATS, PRI, PASID or MSI; bytes 2^30 − 1 and 2^30 of a BAR2 of 1 GiB. -/
theorem witness_PackageEdge_turned :
    ((after (.inboundWrite 0 4 [7, 8] { poisoned := true }) (sW win)).reqs.map fun e => e.2.bad) = [true] ∧
    (after (.inboundWrite 0 4 [7, 8] { unsupported := true }) (sW win)).reqs = [] ∧
    (after (.inboundWrite 0 0x3FFFFFFF [7, 8] {}) (sW win)).reqs = [] ∧
    (after (.inboundRead 0 4 ⟨2, true⟩) (sW win)).pcie = [.completion 0 2 0 .unsupported] ∧
    2 ^ (sW win).cfg.barLog2 < 0x3FFFFFFF + 2 ∧
    (after (.inboundRead 0 0x3FFFFFFF ⟨2, false⟩) (sW win)).pcie = [.completion 0 2 0 .unsupported] ∧
    (let u := after (.inboundRead 0 4 ⟨2, false⟩) (sW {})
     ((u.window 0).frozen.isSome, u.pcie)) = (true, [.completion 0 2 0 .unsupported]) ∧
    ((after (.inboundWrite 0 4 [7, 8] {}) { sW win with boot := { step := 3 } }).reqs = [] ∧ (sW win).reqs = []) := by decide +kernel

/-- The function of context 0 has set Completion Timeout Disable. -/
def sPatient : State := { sHost with cfgSpace := [(0 * 4096 + Config.devControl2 0, 0x10)] }
theorem witness_PackageEdge_patient : sPatient.waitsForever (hostReq .unitRead) = true := by
  have h : ((sPatient.die (gvaDie (hostReq .unitRead).gva)).ctxEntry (hostReq .unitRead).ctx).func.toNat = 0 := by decide +kernel
  unfold State.waitsForever
  rw [h]
  simp [sPatient, tblGet]

/-- An atomic of a word of another package, whose strand clamps. -/
def sRa : State := { s0 with reqs := [(5, { rq (.amo 10 false) 0 0 with stage := .remote })],
                             results := [(7, { tag := 1, dst := .s (.x 9), pc := 0 })] }
def sRm : State := { s0 with reqs := [(5, { rq .lrw 0 0 with stage := .remote })], results := [(7, { tag := 1, dst := .s (.x 9), pc := 0 })] }
def awayReq : Req := { kind := .merge, tag := 1, grid := 1, gva := 0x0008000000020000, stage := .remote, writers := [(0, 1)] }
def sLk : State := { s0 with reqs := [(5, awayReq)], cfg := { s0.cfg with ringN := 4 } }
set_option synthInstance.maxSize 4096 in
/-- What an operation of station 3 of package 1 becomes here. -/
noncomputable def fromAway (op : FlitOp) (k : ReqKind) : Bool :=
  decide ((after (.stringFlitArrive (.request {
    pkg := 1, station := 3, id := 8, ctx := 3, world := false, op := op, gva := 0x20000, b := 2, mask := 5, data := 6 })) s0).reqs.map (fun e =>
    (e.2.kind, e.2.ctx, e.2.gva, e.2.b, e.2.from_)) = [(k, 3, 0x20000, 2, some (1027, 8))])

set_option synthInstance.maxSize 4096 in
theorem witness_PackageEdge_flits :
    fromAway (.write true) .merge = true ∧ fromAway (.write false) .copyWrite = true ∧ fromAway (.fill true) (.fill true) = true ∧
    fromAway (.atomic 3 true) (.amo 3 true) = true ∧ fromAway .publish .proofPub = true ∧ fromAway .check .prarm = true ∧
    (let u := after (.stringFlitArrive (.reply 5 9 0 0)) sRm
     (u.reqs, u.results.map fun e => (e.2.ready, e.2.value))) = ([], [(true, 9)]) ∧
    (let u := after (.stringFlitArrive (.reply 5 9 0 1)) sRa
     (u.reqs, u.results.map fun e => (e.2.ready, e.2.value, e.2.setSat))) = ([], [(true, 9, true)]) ∧
    ((after (.stringFlitArrive (.reply 5 9 0 0)) sRa).results.map fun e => e.2.setSat) = [false] ∧
    (after (.stringFlitArrive (.reply 5 9 0 0)) { sRm with eastDown := true, westDown := true }).reqs = sRm.reqs ∧
    (flitGrid { pkg := 1, station := 3, id := 8, ctx := 3, world := false, op := .publish, gva := 0, grid := 7 } = 2 ^ 33 + 7) ∧
    (let u := after (.meshFlitRetry (.mesh 2 7) 16) s0
     ((u.die 2).linkrty, (u.die 2).lanespare)) = (16, 1) ∧
    ((after (.meshFlitRetry (.mesh 2 7) 15) s0).die 2).lanespare = 0 ∧
    (s0.die 1).mgmt.length < 256 ∧ ((after (.linkFail (.mesh 1 3) []) s0).die 1).mgmt.map (fun r => (r.kind, r.link)) = [(4, some (.mesh 1 3))] ∧
    (let u := after (.linkFail (.string true) []) s0
     (u.eastDown, u.westDown)) = (true, false) ∧
    sLk.req 5 = some awayReq ∧ sLk.gridOf 1 = some grid1 := by decide +kernel

/-- The request in the air is lost with the port that it goes by. -/
theorem witness_PackageEdge_ring :
    Config.routeEast sLk.cfg.ringN sLk.cfg.pkg awayReq.ringDest = true ∨ Config.routeEast sLk.cfg.ringN sLk.cfg.pkg awayReq.ringDest = false := by
  cases Config.routeEast sLk.cfg.ringN sLk.cfg.pkg awayReq.ringDest <;> simp

def dark (b : Boot) : State := { s0 with boot := b, cfg := { s0.cfg with guestPresent := true, ringN := 2, pkg := 1 } }
def perst : Boot := { step := 0, perst := true }
/-- The image of the slot that boots is below the minimum; the other slot's is or is not. -/
def older (good : Bool) : State :=
  { dark perst with fw := { slot := #v[.active, .standby], svns := #v[1, if good then 4 else 1], minSvn := 2 } }

noncomputable def boots (im : Vector Bool 2) : Instr := .perstDeassertion ⟨true, true, [], [], []⟩ true im

set_option synthInstance.maxSize 4096 in
theorem witness_PackageEdge_boot :
    s0.boot.trip = false ∧ s0.boot.off = false ∧
    (let u := after .packageReset s0
     (u.boot, u.mem, u.strands, u.grids)) = (perst, [], [], []) ∧
    (after .packageReset (dark { step := 0, trip := true })).boot = { step := 0, trip := true } ∧
    (after .thermtrip s0).boot = { step := 0, trip := true } ∧ (after .powerRemoval (dark { step := 0, trip := true })).boot = { step := 0, off := true } ∧
    (let u := after .ringTokenTimeout (dark perst)
     (u.cfg.ringN, u.cfg.pkg)) = (1, 0) ∧
    (dark perst).fw.bootOrder = [0] ∧ (older true).fw.bootOrder = [0, 1] ∧
    (let u := after (boots #v[true, true]) (dark perst)
     (u.boot.up, u.fw.run, u.guest.st)) = (true, 0, .resetting) ∧
    (let u := after (boots #v[true, true]) (older true)
     (u.boot.up, u.fw.run, u.fw.cause)) = (true, 1, 0x373) ∧
    (let u := after (boots #v[false, true]) (older true)
     (u.boot.up, u.fw.run, u.fw.cause)) = (true, 1, 0x370) ∧
    (after (boots #v[true, true]) (older false)).boot.halted = some 0x373 ∧
    (after (.perstDeassertion ⟨false, true, [], [], []⟩ true #v[true, true]) (dark perst)).boot = { step := 1, halted := some 0 } ∧
    (after (.perstDeassertion ⟨true, false, [], [], []⟩ true #v[true, true]) (dark perst)).boot =
      { step := 2, perst := false, halted := some 0x371, recovery := true } ∧
    (after (.perstDeassertion ⟨true, true, [], [], []⟩ false #v[true, true]) (dark perst)).boot.halted = some 0x374 ∧
    (let u := after (.perstDeassertion ⟨true, true, [21], [], []⟩ true #v[true, true]) (dark perst)
     (u.boot.up, (u.die 0).repair, u.cfg.shift[1]?)) = (true, 0x200000000, some 5) ∧
    (let u := after (boots #v[false, false]) (dark perst)
     (u.boot.halted, (u.fw.slot[(0 : Fin 2)]), (u.fw.slot[(1 : Fin 2)]))) = (some 0x370, .invalid, .empty) ∧
    (after (.inboundRead 0 8 ⟨4, false⟩) (dark { step := 5, halted := some 0x370, recovery := true })).pcie = [.completion 0 4 0 .success] ∧
    (after (.configurationRequest (.read 0 4)) (dark perst)).pcie = [.config 0 true] ∧
    (after (.configurationRequest (.write 0 4 7)) s0).cfgSpace = [(4, 7)] := by decide +kernel

/-- Die 1 has two pagers; the LP6 share of die 2 is no multiple of 8 GiB; BAR2 has 2^39 bytes. -/
def badMap : State := { dark perst with cfg := { (dark perst).cfg with roles := (287, .pager) :: defaultRoles } }
def badShare : State := { dark perst with cfg := { (dark perst).cfg with lp6Gib := #v[96, 96, 20, 96] } }
def badBar : State := { dark perst with cfg := { (dark perst).cfg with barLog2 := 39 } }
set_option synthInstance.maxSize 4096 in
theorem witness_PackageEdge_table :
    (dark perst).cfg.rolesOk = true ∧ (dark perst).cfg.limitsOk = true ∧ (dark perst).cfg.sharesOk = true ∧
    badMap.cfg.rolesOk = false ∧ badMap.cfg.sharesOk = true ∧ badShare.cfg.sharesOk = false ∧ badBar.cfg.limitsOk = false ∧
    (after (boots #v[true, true]) badMap).boot = { step := 6, halted := some 0x374, recovery := true } ∧
    (after (boots #v[true, true]) badBar).boot = { step := 6, halted := some 0x374, recovery := true } ∧
    (after (boots #v[true, true]) badShare).boot = { step := 4, halted := some 0x374, recovery := true } ∧
    (let u := after .ringTokenTimeout (dark perst)
     (u.eastDown, u.westDown)) = (true, true) := by decide +kernel

/-! The guest: queue 2 has one packet of context 0 with sequence number 3. -/
def pktB : BitVec 512 := BitVec.ofNat 512 (0x01010000 + (H 5).toNat * 2 ^ 64 + 7 * 2 ^ 128)
def sent1 : GSent := { gqn := 2, seq := 3, grid := 1, ctx := 0, world := false, station := 0, id := 4, desc := .lp6 0 0x1000 }
def pkt1 (st : PktState) : Pkt := { gqn := 2, seq := 3, bytes := pktB, st := st, req := 9 }
def sGu (g : Guest) (r : List (Nat × Req)) : State := { s0 with guest := g, reqs := r }
def online : Guest := { st := .online }
/-- Queue 2's descriptor at 0x1000 of die 0: 16 slots, HEAD 3, TAIL 4. -/
def sGq (g : Guest) (r : List (Nat × Req)) : State := { s0 with
  guest := g, reqs := r, ctxs := [(0, { guestQueues := [(2, 0x1000)] })],
  mem := [(0x1002, 2), (0x1008, 4), (0x100C, 2), (0x100F, 0xC0), (0x1010, 4), (0x1018, 3)] ++
    [(keyR + 0xC2, 1), (keyR + 0xC3, 1), (keyR + 0xC8, 5), (keyR + 0xCA, 0x12), (keyR + 0xCF, 0x40), (keyR + 0xD0, 7)] }
def waitReq (st : Stage) : Req := { kind := .proofWait, stage := st, gva := H 5 }

set_option synthInstance.maxSize 4096 in
theorem witness_Guest_packets :
    (sGu online []).nextPacket 2 = none ∧ (sGu online []).queueOwner 2 = none ∧
    (after (.guestTake 2) (sGu online [])).guest.takes = [2] ∧
    (sGu online []).gridGone 1 = false ∧ ((sGu online []).ctx 0).suspended = false ∧
    (after (.guestWaithSatisfied 2) (sGq { online with sent := [sent1], pkts := [pkt1 .waiting], takes := [2] } [(9, waitReq .waiting)])).guest.takes = [2] ∧
    (sGq { online with sent := [sent1], pkts := [pkt1 .waiting], takes := [2] } [(9, waitReq .waiting)]).nextPacket 2 = some sent1 ∧
    sent1.world = (sGq online []).cfg.guestWorld ∧
    ((sGq { online with sent := [sent1], pkts := [pkt1 .waiting], takes := [2] } []).deliverPacket sent1 pktB).nextPacket 2 = none ∧
    (let u := after (.guestWaithSatisfied 2) (sGq { online with sent := [sent1], pkts := [pkt1 .waiting], takes := [2] } [(9, waitReq (.replied true 0))])
     (u.guest.takes, u.guest.pkts, u.guest.out, u.reqs)) =
      ([], [{ gqn := 2, seq := 3, bytes := pktB, st := .delivered }], [.packet 2 3 pktB], []) ∧
    pktPub pktB = true ∧ hPkg (pktWord pktB 8) = 0 ∧
    (let u := after (.guestDone 2 3) (sGu { online with sent := [sent1], pkts := [pkt1 .delivered] } [])
     (u.guest.sent, u.guest.pkts, u.reqs.map fun e => (e.2.kind, e.2.gva, e.2.b))) = ([], [], [(.proofPub, H 5, 7)]) ∧
    (let u := after (.guestFault 2 3 0x0C5) (sGu { online with sent := [sent1], pkts := [pkt1 .delivered] } [])
     (u.guest.sent, gridSt u)) = ([], some (.ending, 0x0FD)) ∧
    (let u := after (.guestReturn 2 3) (sGu { online with sent := [sent1], pkts := [pkt1 .delivered], preempting := [0] } [])
     (u.guest.pkts, u.guest.returned, u.guest.sent)) = ([], [pkt1 .delivered], [sent1]) ∧
    (let u := after (.guestDone 2 3) (sGu online [])
     (u.guest.st, u.guest.lastCause)) = (.frozen, 0x339) := by decide +kernel

/-- What the slot reads as, and that nothing else is at the slot or in the guest's cache. -/
def packetIs (s : State) (b : BitVec 512) : Bool :=
  match s.packetBytes sent1 with
  | .ok x _ => decide (x = (b, false))
  | _ => false
theorem witness_Guest_slot :
    let s := sGq { online with sent := [sent1], pkts := [pkt1 .waiting], takes := [2] } [(9, waitReq (.replied true 0))]
    packetIs s pktB = true ∧ packetBad s.cfg pktB = none ∧ (s.recallDescs [sent1]).isNone = true ∧
    s.slotBusy (sent1.desc.key.getD 0) s.nextId = false ∧ sent1.from_ = none ∧ (s.die 0).mgmt.length < 256 ∧
    s.boot.up = true := by decide +kernel

def dirE : DirEntry := { ctx := 0, page := 0, frame := 0x0002000000000000, r := true, w := true }
def sDir : State := { sGu { online with dir := [dirE] } [] with
  mem := [(0x5041, 6)], dies := State.reset.dies.set 0 { die1 with region := (Vector.replicate 64 (0, 0)).set 0 (0xC680000000000000, 0x0000FFFFFFFF0000) } }

theorem witness_Guest_memory :
    (after (.parked 0) (sGu { online with preempting := [0] } [])).ctxs.map (fun e => e.2.parked) = [true] ∧
    (after (.parklate 0) (sGu { online with preempting := [0] } [])).guest.lastCause = 0x338 ∧
    (sGu online []).guestMay 0 = false ∧ (after (.trq 0 0x20000 true) (sGu online [])).guest.out = [.trsStatus 2 true] ∧
    (sGu { online with sent := [sent1], pkts := [pkt1 .delivered] } []).guestMay 0 = true ∧
    ((after (.trq 0 0x20000 true) (sGu { online with sent := [sent1], pkts := [pkt1 .delivered] } [])).reqs.map fun e => (e.2.kind, e.2.gva)) =
      [(.trq, 0x20000)] ∧
    (after (.invack 1) (sGu { online with invs := [{ id := 1, ctx := 0, page := none, old := [] }] } [])).guest.invs = [] ∧
    (let u := after (.invlate 1) (sGu { online with invs := [{ id := 1, ctx := 0, page := none, old := [] }] } [])
     (u.guest.invs, u.guest.lastCause)) = ([], 0x33A) ∧
    dirE.frame = 0x0002000000005040 &&& 0xFFFFFFFFFFFF0000#64 ∧ guestLoc 0x0002000000005040 = some (0, 2, .lp6 0 0x5040) ∧
    (sDir.die 0).regionOk { ctx := 0, world := sDir.cfg.guestWorld, guest := true } .write 2 0 = true ∧ Memory.wf sDir.mem = true ∧
    (after (.guestCoherentRequest .rdCurr 0x0002000000005040 0) sDir).guest.out = [.data 0x600 false] ∧
    (after (.guestCoherentRequest .wrCur 0x0002000000005040 0x09000008) sDir).mem = [(0x5040, 8), (0x5043, 9)] ∧
    (after (.guestCoherentRequest .rdCurr 0x0002000000005040 0) (sGu online [])).guest.lastCause = 0x33B ∧
    (let u := after (.guestSnoopResponse 1 .noData) (sGu { online with snoops := [(1, 77, .inv)], owned := [77, 78] } [])
     (u.guest.snoops, u.guest.owned)) = ([], [78]) ∧
    (let u := after (.guestSnoopResponse 1 .noData) (sGu { online with snoops := [(1, 77, .data)], owned := [77, 78] } [])
     (u.guest.owned, u.guest.shared)) = ([78], [77]) := by decide +kernel

theorem witness_Guest_evict :
    let w : Who := { ctx := 0, world := sDir.cfg.guestWorld, guest := true }
    (sDir.die 0).regionHas w .locate 2 0 = true ∧ (sDir.die 0).regionHas w .read 2 0 = true ∧
    (let u := after (.guestCoherentRequest .cleanEvict 0x0002000000005040 0) { sDir with guest := { sDir.guest with owned := [0x5040 / 64, 7], shared := [0x5040 / 64] } }
     (u.guest.owned, u.guest.shared, u.mem)) = ([7], [], sDir.mem) ∧
    ((after (.guestCoherentRequest .rdCurr 0x0002000000005040 0) (sGu online [])).die 0).mgmt.map (fun r => (r.code, r.addr)) =
      [(0x33B, 0x0002000000000000)] := by decide +kernel

/-- A state in which every slice is the Bridge's, and no class is admitted there. -/
def sShut : State := { sDir with cfg := { sDir.cfg with bridgeWidth := 16, bridgeHigh := false },
                                 dies := sDir.dies.set 0 { sDir.die 0 with fwallow := Vector.replicate 16 0 } }
theorem witness_Guest_firewall :
    sShut.fwPass { ctx := 0, world := sShut.cfg.guestWorld, guest := true } 0 0 (fun _ => (Loc.lp6 0 0x5040).home 0) = false := by
  have h : isBridge sShut.cfg ((Loc.lp6 0 0x5040).home 0) = true := by
    have hl : ∀ st, isBridge sShut.cfg st = decide (st % 16 < 16) := fun _ => rfl
    rw [hl]
    exact decide_eq_true (Nat.mod_lt _ (by decide))
  have h2 : ∀ i : Fin 16, ((sShut.die 0).fwallow[i]).getLsbD 0 = false := by decide +kernel
  have h3 : (sShut.die 0).fwallow.toList.all (fun x => x.getLsbD 0) = false := by decide +kernel
  unfold State.fwPass
  rw [h, h2, h3]
  rfl

set_option synthInstance.maxSize 4096 in
theorem witness_Guest_resets :
    (let u := after .guestReset (sGu { online with takes := [2], dir := [dirE], preempting := [0], owned := [7] } [])
     (u.guest.st, u.guest.lastCause, u.guest.resets, u.guest.takes, u.guest.dir, u.guest.owned)) = (.resetting, 0x33D, 1, [], [], []) ∧
    (after .guestReset (sGu { online with preempting := [0] } [])).ctxs.map (fun e => e.2.parked) = [true] ∧
    (after .ready (sGu { online with st := .resetting } [])).guest.st = .online ∧
    (after .ready (sGu online [])).guest.lastCause = 0x339 ∧
    (after .readyTimeout (sGu { online with st := .resetting } [])).guest.st = .offline ∧
    (let u := after .linkdown (sGu online [])
     (u.guest.st, u.guest.lastCause, (u.die 0).mgmt.map (·.code))) = (.resetting, 0x33C, [0x33C]) ∧
    (after .guestRailOverload (sGu online [])).guest.railsCut = true := by decide +kernel

/-! ### Errors, management, shards, images, registers -/

def sEr : State := { s0 with stations := [(0, { plateStation with clean := [(0x20000, { val := 1 }), (0x20040, { val := 2 })] })] }

theorem witness_ErrorsAndManagement_errors :
    (let u := after (.uncorrectableError (.cleanCopy 0 0x800)) sEr
     ((u.station 0).clean.map (·.1), (u.die 0).uecnt)) = ([0x20040], 1) ∧
    (let u := after (.uncorrectableError (.dirtyByte 0 0x800)) (sSt { stores := [stA 3 0x800 0 1 5 (some 1), stA 4 0x801 1 2 6 none] })
     ((u.station 0).stores.map fun x => (x.line, x.bad), u.poison)) = ([(0x800, true), (0x801, false)], []) ∧
    (let u := after (.uncorrectableError (.sliceData (2 ^ 52 + 0x40) true)) sEr
     (u.poisonAt (2 ^ 52 + 0x40), u.mem)) = (some 0, []) ∧
    (after (.uncorrectableError (.lp6Data 0x80)) sEr).poisonAt 0x80 = some 2 ∧
    (let u := after (.uncorrectableError (.slotState 0 false)) sEr
     (u.strands.length, gridSt u)) = (0, some (.ending, 0x380)) ∧
    gridSt (after (.uncorrectableError (.slotState 0 true)) sEr) = some (.ending, 0x388) ∧
    gridSt (after (.uncorrectableError (.matrixState 0)) sEr) = some (.ending, 0x390) ∧
    (let u := after (.uncorrectableError (.dieState 1 .directory)) sEr
     ((u.die 1).mgmt.map fun r => (r.code, r.kind), (u.die 1).uecnt)) = ([(0x3A0, 4)], 1) ∧
    -- of three rows two needed more than 4 corrections; with 63 spare rows taken one is left
    (let u := after (.sliceScrub ⟨5, [4, 5, 9]⟩) sEr
     ((u.die 0).cecnt, (u.die 0).repair, u.sliceRows)) = (18, 2, [(5, 2)]) ∧
    (let u := after (.sliceScrub ⟨5, [4, 5, 9]⟩) { sEr with sliceRows := [(5, 63)] }
     ((u.die 0).repair, u.sliceRows)) = (1, [(5, 64)]) ∧ sEr.cfg.physical 5 = 5 ∧
    (let u := after (.rasClear 0 3) { sEr with dies := State.reset.dies.set 0 { cecnt := 5, uecnt := 6, recdrop := 7, repair := 8 } }
     ((u.die 0).cecnt, (u.die 0).uecnt, (u.die 0).recdrop, (u.die 0).repair)) = (0, 0, 7, 8) := by decide +kernel

def sT (S : Station) (r : BitVec 64) : State :=
  { s0 with stations := [(5, S)], dies := State.reset.dies.set 0 { die1 with repair := r }, mem := [(2 ^ 52 + 5 * 2 ^ 23, 1)], clock := 9 }
def recd (k : Fin 5) (m : Fin 8) (c : Cause) : Record :=
  { code := c, kind := k, master := m, gridw := 0, place := 0, pc := 0, addr := 77, cycle := 0, grid := 1 }
def sRec (r : List Record) (insp : BitVec 64) : State :=
  { s0 with dies := State.reset.dies.set 0 { die1 with mgmt := r }, cfg := { s0.cfg with inspect := insp }, mem := [(2 ^ 52 + 7, 1)],
            proofs := [(0x12, rec5)] }

theorem witness_ErrorsAndManagement_manage :
    isBridge s0.cfg 5 = false ∧ (sT {} 0).taken 5 = false ∧ (sT {} 0).writesHeld 5 .ring 10 0 = true ∧
    (let u := after (.stationSelfTest 5 ⟨true, 0, true⟩) (sT { mailbox := [mail1] } 0)
     ((u.station 5).testing, (u.station 5).mailbox, u.mem)) = (true, [], []) ∧
    ((after (.stationSelfTest 5 ⟨true, 0, true⟩) (sT { testing := true } 0)).station 5).testing = false ∧
    ((after (.stationSelfTest 5 ⟨true, 2, true⟩) (sT { testing := true } 0)).die 0).repair = 2 ∧
    (((after (.stationSelfTest 5 ⟨false, 0, true⟩) (sT { testing := true } 0)).die 0).mgmt.map fun r => (r.code, r.kind)) = [(0x380, 4)] ∧
    -- row 0's spare is free, or in use
    ((sT {} 0).die 0).spareUsed (rowOf 5) = false ∧
    (let u := after (.stationSelfTest 5 ⟨false, 0, true⟩) (sT { testing := true } 0)
     ((u.station 5).failed, (u.die 0).repair)) = (false, 0x100000000) ∧
    (let u := after (.stationSelfTest 5 ⟨false, 0, true⟩) (sT { testing := true } 0x100000000)
     ((u.station 5).failed, (u.die 0).repair)) = (true, 0x100010000) ∧
    (let u := after (.stationSelfTest 5 ⟨false, 0, false⟩) (sT { testing := true } 0x100000000)
     ((u.die 0).mgmt.map fun r => (r.code, r.kind))) = [(0x380, 4), (0x3A0, 4)] ∧
    ((sRec [] 0).die 0).mgmt = [] ∧
    ((after (.managementRecordHandle 0) (sRec [recd 2 0 0x2F1] 0)).gridOf 1).map (fun g => (g.st, g.cause, g.addr, g.hold)) =
      some (.ending, 0x2F1, 77, false) ∧
    ((after (.managementRecordHandle 0) (sRec [recd 2 0 0x2F1] 1)).gridOf 1).map (fun g => (g.st, g.cause, g.addr, g.hold)) =
      some (.ending, 0x2F1, 77, true) := by decide +kernel

theorem witness_ErrorsAndManagement_dieReset :
    (after (.managementRecordHandle 0) (sRec [recd 4 5 0x3A8] 0)).strands = [] ∧
    (after (.managementRecordHandle 0) (sRec [recd 4 5 0x3A8] 0)).proofs = [] ∧
    (after (.managementRecordHandle 0) (sRec [recd 4 5 0x3A8] 0)).mem = [] ∧
    ((after (.managementRecordHandle 0) (sRec [recd 4 5 0x3A8] 0)).die 0).tlb = [] := by decide +kernel

/-- 64 zero bytes at 0x20200, their SHA-384 (by hashlib) at 0x20300, proof H 5; the descriptor at 0x21000 + 64. -/
def digest0 : List (Nat × Byte) :=
  [(0x300, 0xC5), (0x301, 0x16), (0x302, 0xAA), (0x303, 0x8D), (0x304, 0x3B), (0x305, 0x45), (0x306, 0x7C), (0x307, 0x63), (0x308, 0x6C), (0x309, 0x68), (0x30A, 0x26), (0x30B, 0x93), (0x30C, 0x70), (0x30D, 0x99), (0x30E, 0xC0), (0x30F, 0xD2), (0x310, 0x3A), (0x311, 0x13), (0x312, 0xF2), (0x313, 0xC3), (0x314, 0x70), (0x315, 0x1A), (0x316, 0x38), (0x317, 0x8B), (0x318, 0x3C), (0x319, 0x8F), (0x31A, 0xE4), (0x31B, 0xBC), (0x31C, 0x20), (0x31D, 0x73), (0x31E, 0x28), (0x31F, 0x1B), (0x320, 0x0C), (0x321, 0x44), (0x322, 0x62), (0x323, 0x61), (0x324, 0x03), (0x325, 0x69), (0x326, 0x88), (0x327, 0x4C), (0x328, 0x4A), (0x329, 0xBA), (0x32A, 0xBA), (0x32B, 0x8E), (0x32C, 0x97), (0x32D, 0xB6), (0x32E, 0xDE), (0x32F, 0xBE)]
def shardDesc : List (Nat × Byte) :=
  [(0x41, 0x04), (0x42, 0x02), (0x49, 0x02), (0x4A, 0x02), (0x50, 0x40), (0x59, 0x03), (0x5A, 0x02), (0x60, 5), (0x62, 0x12), (0x67, 0x40), (0x68, 9)]
def shard1 (st : ShState) : Shard :=
  { ctx := 0, sdesc := 0x21040, src := 0x20400, dst := 0x20200, len := 64, dig := 0x20300, proof := H 5, timeout := 9, st := st, shown := decide (st = .checking), q := 0, cmd := 0 }
/-- Die 0 with the page for the firmware too (R360), there or in LP6. -/
def dieFw : Die := { die1 with
  ctxTab := die1.ctxTab ++ [(64, { valid := true, world := true })]
  tlb := die1.tlb ++ [{ ctx := 64, page := 2, leaf := 0xBA00000000020000, big := false }] }
def dieFl : Die := { dieFw with
  region := die1.region.set 1 (0xC680000000000000, 0x0000FFFFFFFF0000)
  tlb := [{ ctx := 64, page := 2, leaf := 0xDA00000000020000, big := false }] }
def sSh (st : ShState) (good : Bool) : State :=
  { s0 with mem := if good then page digest0 else [], shards := [(0, shard1 st)], proofs := [(0x12, rec5)], strands := [],
            dies := State.reset.dies.set 0 dieFw }
def digestOk (s : State) : Option Bool :=
  match s.shardDigest 0 (shard1 .checking) with
  | .ok b _ => some b
  | _ => none

def sShPub : State :=
  { s0 with queues := [(0, { hq with cmds := [(0, { cmdOf [7] hq with ready := true })] })], shards := [(0, shard1 .valid)],
            reqs := [(5, { kind := .proofPub, src := 6, ctx := 0, gva := H 5, slot := 0, station := 0 })] }

theorem witness_ShardsImagesRegisters_shards :
    readsCmd (sHq hq ([(0, 7), (8, 0x40), (9, 0x10), (10, 2)] ++ shardDesc)) 7 = true ∧
    ((after (.loadshard 0) (sHq hq ([(0, 7), (8, 0x40), (9, 0x10), (10, 2)] ++ shardDesc))).shards.map (·.2)) = [shard1 .loading] ∧
    (((after (.loadshard 0) (sHq hq ([(0, 7), (8, 0x40), (9, 0x10), (10, 2)] ++ shardDesc))).station 31).cpy.queue.map fun i => (i.src, i.dst, i.len)) =
      [(0x20400, 0x20200, 64)] ∧
    digestOk (sSh .checking true) = some true ∧ digestOk (sSh .checking false) = some false ∧
    -- STATUS at 0x21040 + 48: LOADING, then CHECKING
    (after (.loadshard 0) (sHq hq ([(0, 7), (8, 0x40), (9, 0x10), (10, 2)] ++ shardDesc))).homeNat (keyLoc (keyM + 0x1070)) 8 = 2 ^ 60 ∧
    (let u := after (.shardCheck 0) { sSh .checking true with shards := [(0, { shard1 .checking with shown := false })] }
     (u.shards.map (·.2), u.homeNat (keyLoc (keyM + 0x1070)) 8)) = ([shard1 .checking], 2 ^ 61) ∧
    -- the command waits for its shard's publication
    decide (after (.commandComplete 0 0) sShPub = sShPub) = true ∧
    (let u := after (.shardCheck 0) (sSh .checking true)
     (u.shards.map (·.2.st), u.reqs.map fun e => (e.2.kind, e.2.gva))) = ([.valid], [(.proofPub, H 5)]) ∧
    (let u := after (.shardCheck 0) (sSh .checking false)
     (u.shards.map (·.2.st), u.poisonAt (keyM + 0x200))) = ([.withheld], some 1) ∧
    (after (.shardRecheck 0) (sSh .valid false)).shards.map (·.2.st) = [.withheld] ∧
    (after (.shardRecheck 0) (sSh .valid true)).shards.map (·.2.st) = [.valid] ∧
    (after (.shardLoadTimeout 0) (sSh .loading true)).shards.map (·.2.st) = [.absent] := by decide +kernel

/-- A failing shard, whose 64 bytes at 0x20200 are page 2 of die 0's LP6 under the firmware's entry, or a page that is not there. -/
def sFail (dst : Word) : State :=
  { s0 with shards := [(0, { shard1 .checking with dst := dst, shown := true, fail := some (.withheld, 0x1F1, true) })],
            dies := State.reset.dies.set 0 dieFl }
def lp6At (s : State) (g : Word) : Option (Nat × Nat) :=
  match s.translate (s.loadWho 0 g) g .locate with
  | .ok (.lp6 d a) _ => some (d, a)
  | _ => none
theorem witness_ShardsImagesRegisters_failing :
    lp6At (sFail 0x20200) 0x20200 = some (0, 0x20200) ∧
    ((sFail 0x20200).withhold 0 (shard1 .checking)).2 = true ∧
    ((sFail 0x20200).withhold 0 (shard1 .checking)).1.poisonAt 0x20200 = some 1 ∧
    (after (.shardCheck 0) (sFail 0x20200)).shards.map (fun e => (e.2.st, e.2.fail)) = [(.withheld, none)] ∧
    ((sFail 0x50200).withhold 0 { shard1 .checking with dst := 0x50200 }).2 = false ∧
    (after (.shardCheck 0) (sFail 0x50200)).shards.map (fun e => (e.2.st, e.2.fail)) = [(.checking, some (.withheld, 0x1F1, true))] := by
  decide +kernel

def sFw (f : Firmware) : State := { s0 with fw := f }
/-- How the two slots, the running one and the cause stand. -/
def fwIs (s : State) (a b : FwState) (run : Fin 2) (c : Cause) : Bool :=
  decide (s.fw.slot[(0 : Fin 2)] = a) && decide (s.fw.slot[(1 : Fin 2)] = b) && s.fw.run == run && s.fw.cause == c

/-- Two bytes of an image, in LP6 of die 1. -/
def sImg : State := { sFw { src := 0x0002000000000040, len := 2 } with mem := [(2 ^ 48 + 0x40, 7)] }
/-- During a swap to slot 1, with every role but the pager of die 0 handed over. -/
def sSwap : State := { sHq hq [(0, 4)] with
  fw := { slot := #v[.active, .trial], busy := true, swap := some 1, handover := (defaultRoles.map (·.1)).drop 1 } }

theorem witness_ShardsImagesRegisters_images :
    sImg.fwAccepts = true ∧ fwIs (after (.stage 1) sImg) .active .staged 0 0 = true ∧
    (let u := after (.stage 1) sImg
     (u.fw.busy, u.fw.copying, u.fw.image[(1 : Fin 2)])) = (true, false, [7, 0]) ∧
    (let u := after (.activate 1) (sFw { slot := #v[.active, .valid] })
     fwIs u .active .trial 0 0 && u.fw.busy && u.fw.swap == some 1) = true ∧
    (let u := after (.activate 1) { sFw { slot := #v[.invalid, .standby] } with boot := { step := 5, recovery := true } }
     u.boot.up && fwIs u .invalid .trial 1 0) = true ∧
    fwIs (after .abort (sFw { slot := #v[.active, .trial], run := 1 })) .active .invalid 0 0x372 = true ∧
    fwIs (after .trialDeadline (sFw { slot := #v[.active, .trial], run := 1 })) .active .invalid 0 0x372 = true := by decide +kernel

theorem witness_ShardsImagesRegisters_swap :
    sSwap.boot.up = true ∧ (sSwap.cfg.roles.all fun e => e.1 == 15 || sSwap.fw.handover.contains e.1) = true ∧
    ((after (.signal 0) sSwap).queue 0).head = 0 ∧ (after (.loadshard 0) sSwap).shards = [] ∧
    (let u := sSwap.serve (.handover 15)
     (u.fw.busy, u.fw.run, u.fw.swap)) = (false, 1, none) ∧
    (sSwap.serve (.handover 31)).fw.swap = some 1 := by decide +kernel

/-- What the signatures and the version of an image come to is the image's own: whichever it is, the clauses of a check that ends
speak of one of these states. -/
def sStaged (min : Nat) : State := sFw { slot := #v[.active, .staged], minSvn := min, busy := true }
theorem witness_ShardsImagesRegisters_verify :
    (sStaged 0).fw.slot[(1 : Fin 2)] = .staged ∧ (sStaged 0).fw.copying = false ∧ 0 ≤ Config.imageSvn [] ∧
    Config.imageSvn [] < Config.imageSvn [] + 1 ∧ Config.imageSvn [] + 1 ≠ Config.imageSvn [] ∧
    (Config.imageSigs [] = true ∨ Config.imageSigs [] = false) :=
  ⟨rfl, rfl, Nat.zero_le _, Nat.lt_succ_self _, Nat.succ_ne_self _, by cases Config.imageSigs [] <;> simp⟩

def sReg (st : QState) : State := { s0 with cfg := { s0.cfg with queueFunc := [(0, 0, 0)] }, queues := [(0, { hq with st := st })] }
theorem witness_ShardsImagesRegisters_registers :
    (let u := after (.registerWrite 0 0x3010 0x8000000000000005) s0
     ((u.window 1).valid, (u.window 1).ctx)) = (true, 5) ∧
    ((after (.registerWrite 0 0x3018 0x20000) s0).window 1).base = 0x20000 ∧
    ((after (.registerWrite 0 0x4340 0xFFFF) s0).die 3).rasvec = 0x87FF ∧
    ((after (.registerWrite 0 0x4038 2) { s0 with dies := s0.dies.set 0 { uecnt := 4 } }).die 0).uecnt = 0 ∧
    (after (.registerWrite 0 0x6008 9) s0).fw.src = 9 ∧ (after (.registerWrite 0 0x6010 9) s0).fw.len = 9 ∧
    fwIs (after (.registerWrite 0 0x6020 0x101) s0) .active .staged 0 0 = true ∧
    ((after (.registerWrite 0 0x8000 9) s0).ctx 0).error = 1 ∧ ((after (.registerWrite 0 0x8000 0x403) s0).ctx 0).error = 2 ∧
    ((after (.registerWrite 0 0x10010 2) (sReg .active)).queue 0).tail = 2 ∧
    ((after (.registerWrite 0 0x10000 0x5000) (sReg .disabled)).queue 0).base = 0x5000 ∧
    ((after (.registerWrite 0 0x10000 0x5000) (sReg .active)).queue 0).base = 0x21000 ∧
    ((after (.registerWrite 1 0x10010 2) (sReg .active)).queue 0).tail = 1 := by decide +kernel

/-! ### Completion, and the clauses on the guest's cache -/

/-- Whether slot 0's strand has gone on to the next instruction. -/
noncomputable def goes (i : Instr) (s : State) : Bool :=
  decide (pcOf (after i s) 0 = some 0x10004) && decide (holdOf (after i s) 0 = some .none)

set_option maxRecDepth 16384 in
theorem witness_PhasesAndFencesGoOn :
    s0.curStrand = some tH ∧ tH.frozen = none ∧ tH.hold = .none ∧
    (let u := after (.phaseRa .package true) s0
     (pcOf u 0, u.releaseDone tH 0 .package (s0.station 0).cycAge s0.nextAge)) = (some 0x10000, true) ∧
    goes (.phaseReleaseComplete 0) (after (.phaseRa .package true) s0) = true ∧
    goes (.phaseReleaseComplete 0) (after (.phaseR .ring true) s0) = true ∧ goes (.phaseA .ring true) s0 = true ∧ goes (.fencei true) s0 = true ∧
    s0.qfenceDone tH 0 0xF (s0.station 0).cpy.entered (s0.station 0).eng.entered s0.nextId = true ∧ goes (.qfence 0xF true) s0 = true ∧
    ok tH s0 0 true [.s (.x 4)] [] = true ∧ goes (.prefL1 (.x 1) true) s0 = true ∧ goes (.prefL1 (.x 4) true) s0 = true ∧
    goes (.prefHome (.x 4) true) s0 = true := by decide +kernel

set_option maxRecDepth 16384 in
theorem witness_VectorInstructionsGoOn :
    ok tG sG 1 false [.v (.v 1), .v (.v 2)] [.v (.v 3)] = true ∧ ok tG sG 1 false [.v (.v 1), .v (.v 2), .v (.v 3)] [.v (.v 3)] = true ∧
    ok tG sG 1 false [.v (.v 1), .s (.x 2)] [.v (.v 3)] = true ∧ ok tG sG 1 false [.v (.v 1), .s (.x 2), .v (.v 3)] [.v (.v 3)] = true ∧
    ok tG sG 1 false [.v (.v 1)] [.v (.v 3)] = true ∧ ok tG sG 1 false [.v (.v 1), .v (.v 2)] [] = true ∧
    ok tG sG 1 false [.s (.x 1)] [.v (.v 3)] = true ∧ ok tG sG 1 false [.v (.v 1), .s (.x 2)] [.s (.x 5)] = true ∧
    ok tG sG 1 false [] [.v (.v 3)] = true ∧ ok tG sG 1 false [.s (.x 1), .s (.x 2)] [] = true ∧ ok tG sG 1 false [] [.s (.x 5)] = true ∧
    (sG.station sG.curStation).sfu.length < 16 := by decide +kernel

set_option maxRecDepth 16384 in
theorem witness_VectorInstructionsGoOn_runs :
    goes (.vsfu .rcp .f32 (.v 3) (.v 1) 0 false) sG = true ∧
    goes (.pfirst .i8 2 1 1 false) sG = true := by decide +kernel

set_option maxRecDepth 16384 in
theorem witness_VectorConversionsAndMemoryGoOn :
    tC.cvmTrap = false ∧ ok tC (base tC) 1 false [.v (.v 1)] [.v (.v 3)] = true ∧ (base tC).xrMismatch tC (.v 1) = false ∧
    ok tC (base tC) 1 false [.v (.v 1), .v (nextReg (.v 1))] [.v (.v 3)] = true ∧
    ok tC (base tC) 1 false [.v (.v 1)] [.v (.v 3), .v (nextReg (.v 3))] = true ∧
    goes (.vld .i32 (.v 3) (.x 1) (.x 2) 1 false) sG = true ∧ goes (.vst .i32 (.v 2) (.x 1) (.x 2) 1 false) sG = true ∧
    goes (.vgath .i32 (.v 3) (.x 1) (.v 1) 1 false) sG = true ∧ goes (.vscat .i32 (.v 2) (.x 1) (.v 1) 1 false) sG = true ∧
    sGP.recallPlate 0 [0xFFFF8, 0xFFFFC] 4 false = none ∧ sGP.recallPlate 0 [0xFFFF8, 0xFFFFC] 4 true = none ∧
    goes (.vlds .i32 (.v 3) (.x 4) (.x 2) 1 false) sGP = true ∧ goes (.vsts .i32 (.v 2) (.x 4) (.x 2) 1 false) sGP = true := by decide +kernel

/-- x1 a configuration, x2 a drain destination, x3 a latch image, x4 1, x5 the word of an undefined master, x6 an SLA read stream, x7 zero. -/
def tK : Strand := { strand [(1, 0x828), (2, 64), (3, 0x20000), (4, 1), (5, 0x5000000000000000), (6, 0x2000000000100004)] with
  priv := true, v := vregs [(1, vec 1 [3]), (2, vec 1 [9])] }
def sK (S : Station) : State := base tK S
def sKt : State := sK { plateStation with eng := { mxint := true } }

set_option maxRecDepth 16384 in
theorem witness_EngineInstructionsGoOn :
    (sK plateStation).curStrand = some tK ∧ tK.hold = .none ∧ tK.loose = false ∧ tK.ahead 2 ((sK plateStation).station 0).eng.halted = false ∧
    ((sK plateStation).station 0).eng.queue.length < 16 ∧ ok tK (sK plateStation) 2 false [.s (.x 4)] [.s (.x 9)] = true ∧
    ((sKt.station 0).eng.issueConfig false).getLsbD 11 = true ∧ ((sKt.station 0).eng.issueConfig false).toNat / 2 ^ 8 % 8 ≤ 7 ∧ ok tK sKt 2 false [.v (.v 1), .v (.v 2)] [] = true ∧
    goes (.mswapLa false) (sK plateStation) = true ∧ goes (.mzero true false) (sK plateStation) = true ∧
    goes (.mstat 6 (.x 9) (.x 4) false) (sK plateStation) = true ∧ goes (.mcfg (.x 1) false) (sK plateStation) = true ∧
    goes (.mdrain .f32 .none true (.x 2) (.x 0) (.x 0) false) (sK plateStation) = true ∧ goes (.mstep (.v 1) (.v 2) 7 false) sKt = true ∧
    (sK plateStation).engDone 0 tK 0 = true ∧ goes (.mwait false) (sK plateStation) = true ∧
    gvaOk (sK plateStation).cfg 0x20000 = true ∧ (sK plateStation).latchFree 0 (sK plateStation).nextId = true ∧
    ((after (.mldwT64 false true (.x 3) false) (sK plateStation)).station 0).eng.loading = some 1 := by decide +kernel

set_option maxRecDepth 16384 in
theorem witness_ControlInstructionsGoOn :
    tK.ports[(6 : Fin 8)] = .unbound ∧ tK.stageCsr.toNat / 8 = 0 ∧ goes (.punbind 6 false) (sK plateStation) = true ∧
    goes (.pstat (.x 9) 6 false) (sK plateStation) = true ∧ goes (.pbind 6 (.x 6) (.x 2) false) (sK plateStation) = true ∧
    goes (.pskip 3 (.x 12) true) (q3 tQ (.stream (readStr 1))) = true ∧ (q3 tQ (.stream (readStr 1))).curStrand.isSome = true ∧
    ((base tS { rq := (Vector.replicate 4 []).set 2 [5] }).station 0).wakes tS = true ∧
    goes (.sleep true) (base tS { rq := (Vector.replicate 4 []).set 2 [5] }) = true ∧
    (base tS).timeSliced 0 = false ∧ goes (.yield true) (base tS) = true ∧
    (chordAt 1).cbarCount + 1 = (chordAt 1).live.length ∧ (chordAt 1).live.Nodup ∧ tS.tag ∈ (chordAt 1).live ∧
    goes (.cbar true) (sTwo (chordAt 1) (.cbar 0)) = true ∧
    ok tK (sK plateStation) 0 true [.s (.x 4), .s (.x 4)] [.s (.x 9)] = true ∧ goes (.rqpush (.x 9) (.x 4) (.x 4) true) (sK plateStation) = true ∧
    goes (.rqpop (.x 9) (.x 4) true) (sK plateStation) = true ∧ goes (.tmrset (.x 9) (.x 2) true) (sK plateStation) = true ∧
    goes (.mrecv (.x 9) (.x 4) true) (sK plateStation) = true := by decide +kernel

set_option maxRecDepth 16384 in
theorem witness_PrivilegedInstructionsGoOn :
    tK.priv = true ∧ (∀ j : Fin 8, (((sK plateStation).die 0).fbuf[j]) = none) ∧ goes (.dtrep (.x 9) true) (sK plateStation) = true ∧
    goes (.dtrepFail (.x 9) (.x 4) true) (sK plateStation) = true ∧ goes (.spls (.x 9) (.x 4) true) (sK plateStation) = true ∧
    goes (.splr (.x 9) (.x 4) true) (sK plateStation) = true ∧ goes (.commit (.x 9) (.x 4) true) (sK plateStation) = true ∧
    goes (.dtqry 3 (.x 9) (.x 4) true) (sK plateStation) = true ∧ 4 < (0x5000000000000000#64).toNat / 2 ^ 60 ∧
    goes (.freeze (.x 5) true) (sK plateStation) = true ∧ goes (.thaw (.x 5) true) (sK plateStation) = true ∧
    dtPkg 0x20000 = (sK plateStation).cfg.pkg ∧ (sK plateStation).reqs = [] ∧ (sK plateStation).guest.dir = [] ∧
    (sK plateStation).guest.invs = [] ∧ goes (.dtinvPage (.x 3) true) (sK plateStation) = true ∧
    goes (.dtinvAll (.x 3) true) (sK plateStation) = true ∧ goes (.rgnw (.x 3) (.x 4) 5 true) (sK plateStation) = true ∧
    goes (.puw (.x 3) (.x 4) 5 true) (sK plateStation) = true := by decide +kernel

set_option maxRecDepth 16384 in
theorem witness_CopyInstructionsGoOn :
    (sY {}).recall (.plate 0 0x1000) 64 false = none ∧ goes (.cpy .none (.x 1) (.x 0) (.x 0) true) (sY {}) = true ∧
    ((sY {}).copyDesc 0 0x1000).check (sY {}).cfg .cpys 0x1000 = none ∧ goes (.cpys .none (.x 1) (.x 0) (.x 0) true) (sY {}) = true := by
  decide +kernel

/-! A line of the plate that the guest's cache owns is recalled first (R213). -/
def ownLine : Guest := { st := .online, owned := [(2 ^ 52 + 0xFFFF8) / 64] }
def sOwn : State := { sPlate with guest := ownLine }

set_option maxRecDepth 16384 in
theorem witness_recalls :
    (sOwn.recall (.plate 0 0xFFFF8) 8 false).isSome = true ∧ holdOf (after (.ldl .d (.x 9) (.x 6) 0 false) sOwn) 0 = some (.issue .plain) ∧
    holdOf (after (.stl .d (.x 2) (.x 6) 0 false) sOwn) 0 = some (.issue .plain) ∧
    (let s : State := { sGP with guest := ownLine }
     ((s.recallPlate 0 [0xFFFF8, 0xFFFFC] 4 false).isSome, holdOf (after (.vlds .i32 (.v 3) (.x 4) (.x 2) 1 false) s) 0)) =
      (true, some (.issue .plain)) := by decide +kernel

/-! JAL with an outstanding result for its link register; a loose strand that names a shared register. -/
def sJal : State := { base tS with results := [(7, { tag := 1, dst := .s (.x 9), pc := 0 }), (8, { tag := 1, dst := .s (.x 8), pc := 0 })] }

set_option maxRecDepth 16384 in
theorem witness_superseded :
    ((sJal.supersede tS (.x 9)).results.map (·.2.dst)) = [.none, .s (.x 8)] ∧
    gridSt (after (.jal (.y 3) 4) (base tLs {})) = some (.ending, 0x044) ∧
    gridSt (after (.vrep (.y 3) 0 false) (base tLs {})) = some (.ending, 0x04C) ∧
    -- a refused far atomic of another package is answered with its code, and ends no grid here
    (let s : State := { s0 with reqs := [(5, { rq .sch 0 0 with from_ := some (1027, 8) })] }
     ((s.bankFault 5 { rq .sch 0 0 with from_ := some (1027, 8) } 0x261 0x20000).reqs, gridSt (after (.bankSch 5) s))) =
      ([], some (.running, 0)) ∧
    -- credits of an earlier binding add nothing
    (q3 tQ (.stream (writeStr 0))).streamReqs 1 3 = [] := by decide +kernel

/-! ### Frames and the machine -/

/-- Whether an instruction answers the state in which its result has been written and the strand has gone on (`Writes`). -/
noncomputable def writesOk (i : Instr) (s : State) (d : SReg) (v : Word) : Bool :=
  match exec i s with
  | .next u => decide (u = (s.putS s.cur d v).advance)
  | _ => false

theorem witness_ScalarResultFrame :
    (base tS).curStrand = some tS ∧ writesOk (.add (.x 9) (.x 1) (.x 4) true) (base tS) (.x 9) 0x20007 = true ∧
    writesOk (.add (.x 0) (.x 1) (.x 4) true) (base tS) (.x 0) 0x20007 = true ∧
    writesOk (.add (.y 3) (.x 1) (.x 4) true) (base tS) (.y 3) 0x20007 = true ∧
    decide ({ after (.add (.x 9) (.x 1) (.x 4) true) (base tS) with strands := (base tS).strands } = base tS) = true := by decide +kernel

def tVF : Strand := { strand [] with v := vregs [(1, vec 1 [1, 2]), (2, vec 1 [3, 4])] }
/-- The state after a vector result, and its strand. -/
def uVF (viaPort : Bool) (vd : VReg) : State := vecNext (base tVF) tVF viaPort true vd 5 1

theorem witness_VectorResultFrame :
    (base tVF).curStrand = some tVF ∧
    ((uVF false (.v 3)).slot 0).map (fun c => (c.v[(3 : Fin 16)], c.msticky, c.seed)) = some ({ val := 5 }, 1, 1) ∧
    (((uVF true (.v 3)).slot 0).map fun c => (c.v[(3 : Fin 16)]).full) = some false ∧ (uVF true (.v 3)).results.length = 1 ∧
    decide ({ uVF false (.v 3) with strands := (base tVF).strands } = base tVF) = true ∧
    (let s := base { tVF with ports := tVF.ports.set 3 (.stream (writeStr 0)) }
     let u := vecNext s { tVF with ports := tVF.ports.set 3 (.stream (writeStr 0)) } false false (.q 3) 5 0
     decide (u.stations = s.stations) && (match portAt u 0 3 with
       | some (.stream p) => p.buf.length == 1
       | _ => false)) = true ∧
    ((((base tVF).modCur fun c => (c.setPred 2 6).raise 1).advance).slot 0).map (fun c => (c.pred 2, c.pred 1, c.msticky)) = some (6, 0, 1) ∧
    (let s := base { tVF with ports := tVF.ports.set 3 (.stream (readStr 1)) }
     decide ((s.takeV (.q 3)).2.stations = s.stations)) = true := by decide +kernel

theorem witness_StoreFrame :
    ok tM (base tM) 0 false [.s (.x 1), .s (.x 2)] [] = true ∧
    (let u := after (.st .d (.x 2) (.x 1) 0 false) (base tM)
     decide ({ u with strands := (base tM).strands, stations := (base tM).stations, reqs := [], nextId := 100, nextAge := 10 } = base tM)) = true ∧
    ok tG sG 1 false [.s (.x 1), .s (.x 2), .v (.v 2)] [] = true ∧ ok tG sG 1 false [.s (.x 1), .v (.v 1), .v (.v 2)] [] = true ∧
    (let u := after (.stl .d (.x 2) (.x 6) 0 false) sPlate
     decide ({ u with strands := sPlate.strands, mem := sPlate.mem } = sPlate)) = true := by decide +kernel

theorem witness_RequestsFrame :
    ok tH s0 0 true [.s (.x 1), .s (.x 2)] [.s (.x 9)] = true ∧ gvaOk s0.cfg 0x20000 = true ∧
    (let u := after (.amoadd true (.x 9) (.x 1) (.x 2) true) s0
     decide ({ u with strands := s0.strands, reqs := [], results := [], nextId := 100 } = s0)) = true ∧
    (let u := after (.rrel (.x 1) true) s0
     decide ({ u with strands := s0.strands, reqs := [], nextId := 100 } = s0)) = true := by decide +kernel

/-- The state after a step. -/
noncomputable def stepped (s : State) : State :=
  match step s with
  | .next u => u
  | _ => s

/-- The strand, whose station issues it next, with the line of its PC in the instruction cache: SUB x1, x2, x3 there. -/
def tR : Strand := strand [(2, 9), (3, 4)]
def sR (plan : List Nat) (w : BitVec 512) : State :=
  base tR { chord := some chord1, plan := some plan, icache := [(0x400, w, false)] }

theorem witness_TheMachine :
    -- reset fetches and runs the word, as the first instruction
    (decodes [(0x04221801, .sub (.x 1) (.x 2) (.x 3) false)] = true ∧ State.reset.wf = true ∧ State.reset.boot.up = true) ∧
    ((stepped (State.reset.withFetchWord 32 0x04221801)).curStrand.map fun t => t.pc) =
      ((State.reset.withFetchWord 32 0x04221801).slot 0).map (fun t => t.pc + 4) ∧
    -- an event, one that cannot happen, a turn
    (stepped { base tS with agenda := [.act .guestReset] }).agenda = [] ∧ Instr.happens .guestReset = true ∧
    Instr.happens (.sub (.x 1) (.x 2) (.x 3) false) = false ∧
    (stepped { base tS with agenda := [.act (.sub (.x 1) (.x 2) (.x 3) false)] }).strands = (base tS).strands ∧
    (stepped { base tS with agenda := [.run 1025] }).focus = 1 ∧
    -- a service; the choice of a cycle's issuers
    (stepped { base tS with agenda := [.serve (.powerLimit 900)] }).powerLimit = 900 ∧
    (base tS).agenda = [] ∧ (base tS).boot.up = true ∧ ((base tS).station (base tS).focus).plan = none ∧
    pcOf (stepped (base tR { chord := some chord1, icache := [(0x400, 0x04221801, false)] })) 0 = some 0x10004 ∧
    -- the instruction at the PC
    ((sR [0] 0x04221801).station 0).plan = some [0] ∧ (sR [0] 0x04221801).pendingTrap 0 tR = none ∧
    (match (sR [] 0x04221801).nextWord tR with
      | .word w _ => w == 0x04221801
      | _ => false) = true ∧
    xval (stepped (sR [0] 0x04221801)) 0 1 = some 5 ∧ pcOf (stepped (sR [0] 0x04221801)) 0 = some 0x10004 ∧
    refuses [(0, .badMajor)] = true ∧ gridSt (stepped (sR [0] 0)) = some (.ending, 0x040) ∧
    ((stepped (sR [] 0)).station 0).cycle = 1 ∧
    -- held in reset
    ({ base tS with boot := perst } : State).boot.up = false := by decide +kernel

theorem witness_Encodings :
    (Instr.sub (.x 1) (.x 2) (.x 3) false).isWord = true ∧ (Instr.sub (.x 1) (.x 2) (.x 3) false).wf = true ∧
    encode (.sub (.x 1) (.x 2) (.x 3) false) = some 0x04221801 := by decide +kernel

end Sys2Proof.Tests
end

section
/-! PROOF. The examination of operands at issue (R19, R31 to R33, R123) and the precise fault of a grid (R3, R288, R400). -/

namespace Sys2Proof.Machine

open Sys2Proof.Claims

variable {s : State} {t : Strand}

/-! ### Usable operands -/

theorem lookSrc_of_usable {o : Opnd} (src n : Nat) (h : Usable s t o) : lookSrc s s.cur t src n o = .ok := by
  rcases o with r | r | r | r
  · simp [lookSrc, h.1]
  · exact if_pos h.1
  · simp [lookSrc, h.1]
  · exact h.elim

theorem lookDst_of_usable {o : Opnd} (src : Nat) (h : Usable s t o) : lookDst s s.cur t src o = .ok := by
  rcases o with r | r | r | r
  · simp [lookDst, h.2.1]
  · exact if_pos h.1
  · simp [lookDst, h.2.1]
  · exact h.elim

theorem poisonOf_of_usable {o : Opnd} (src n : Nat) (h : Usable s t o) : poisonOf s s.cur t src n o = none := by
  rcases o with r | r | r | r
  · exact h.2.2
  · exact h.2
  · exact h.2.2
  · exact h.elim

/-- Usable sources are passed over: what follows them decides (R32). -/
theorem lookSrcs_append_of_usable (src : Nat) {pre : List Opnd} (h : ∀ o ∈ pre, Usable s t o) (seen rest : List Opnd) :
    lookSrcs s s.cur t src seen (pre ++ rest) = lookSrcs s s.cur t src (pre.reverse ++ seen) rest := by
  induction pre generalizing seen with
  | nil => rfl
  | cons o pre ih =>
    simp only [List.forall_mem_cons] at h
    simp [lookSrcs, lookSrc_of_usable src _ h.1, ih h.2]

theorem lookSrcs_of_usable (src : Nat) {srcs : List Opnd} (h : ∀ o ∈ srcs, Usable s t o) (seen : List Opnd) :
    lookSrcs s s.cur t src seen srcs = .ok := by
  have := lookSrcs_append_of_usable src h seen []
  simpa [lookSrcs] using this

theorem lookDsts_of_usable (src : Nat) {dsts : List Opnd} (h : ∀ o ∈ dsts, Usable s t o) :
    lookDsts s s.cur t src dsts = .ok := by
  induction dsts with
  | nil => rfl
  | cons o dsts ih =>
    simp only [List.forall_mem_cons] at h
    simp [lookDsts, lookDst_of_usable src h.1, ih h.2]

/-- A strand that is loose and names no register of a chord is not stopped by R19. -/
theorem not_badOperand {l : List Opnd} (h : t.loose = true → ∀ o ∈ l, o.shared = false) : (t.loose && l.any Opnd.shared) = false := by
  cases hl : t.loose with
  | false => rfl
  | true => simpa using h hl

/-- The examination passes when each of its four parts does (R19, R32, R33, R123). -/
theorem State.gate_eq_none {src : Nat} {e : Bool} {srcs dsts : List Opnd} (ht : s.curStrand = some t)
    (hl : t.loose = true → ∀ o ∈ srcs ++ dsts, o.shared = false) (hs : lookSrcs s s.cur t src [] srcs = .ok)
    (hp : ∀ o ∈ srcs ++ dsts, poisonOf s s.cur t src (countOf o srcs) o = none) (hd : lookDsts s s.cur t src dsts = .ok) :
    s.gate src e srcs dsts = none := by
  have hp : (srcs ++ dsts).findSome? (fun o => poisonOf s s.cur t src (countOf o srcs) o) = none := List.findSome?_eq_none_iff.2 hp
  simp only [State.gate, ht, not_badOperand hl, hs, hp, hd, Bool.false_eq_true, if_false]

/-- The first poison among operands whose sources are all full is the fault of the load that marked it (R123). -/
theorem State.gate_of_poison {src : Nat} {e : Bool} {srcs dsts : List Opnd} {p : Poison} (ht : s.curStrand = some t)
    (hl : t.loose = true → ∀ o ∈ srcs ++ dsts, o.shared = false) (hs : lookSrcs s s.cur t src [] srcs = .ok)
    (hp : (srcs ++ dsts).findSome? (fun o => poisonOf s s.cur t src (countOf o srcs) o) = some p) :
    s.gate src e srcs dsts = some (s.faultPoison p) := by
  simp only [State.gate, ht, not_badOperand hl, hs, hp, Bool.false_eq_true, if_false]

/-- The first source that is empty traps or holds the strand (R32). -/
theorem State.gate_of_empty {src kind reg : Nat} {e : Bool} {srcs dsts : List Opnd} (ht : s.curStrand = some t)
    (hl : t.loose = true → ∀ o ∈ srcs ++ dsts, o.shared = false)
    (hs : lookSrcs s s.cur t src [] srcs = .empty kind reg) :
    s.gate src e srcs dsts = some (if e then s.trapPrecise (causeOf 10 src 0) kind reg else s.hold (.source kind reg)) := by
  simp only [State.gate, ht, not_badOperand hl, hs, Bool.false_eq_true, if_false]

theorem usableOperandsPass : Claims.UsableOperandsPass := by
  intro s t src e srcs dsts ht hl hu
  obtain ⟨hs, hd⟩ := List.forall_mem_append.1 hu
  exact State.gate_eq_none ht hl (lookSrcs_of_usable src hs []) (fun o ho => poisonOf_of_usable src _ (hu o ho))
    (lookDsts_of_usable src hd)

/-- An instruction without operands passes the examination. -/
@[simp] theorem State.gate_nil {src : Nat} {e : Bool} (ht : s.curStrand = some t) : s.gate src e [] [] = none :=
  usableOperandsPass s t src e [] [] ht (by simp) (by simp)

theorem emptySourceTrapsOrHolds : Claims.EmptySourceTrapsOrHolds := by
  intro s t src pre post dsts r ht hl hpre hr
  have hs : lookSrcs s s.cur t src [] (pre ++ .s r :: post) = .empty 1 r.code := by
    simp [lookSrcs_append_of_usable src hpre, lookSrcs, lookSrc, hr]
  exact ⟨State.gate_of_empty ht hl hs, State.gate_of_empty ht hl hs⟩

/-! ### What the end of a grid leaves of a die's records -/

theorem State.reask_dies (s : State) (l : List (Nat × Nat)) : (s.reask l).dies = s.dies := by
  induction l generalizing s with
  | nil => rfl
  | cons p l ih => unfold State.reask; dsimp only; rw [ih]; (repeat' split) <;> rfl

/-- The end of a grid leaves the records of every die (R288). -/
theorem State.stopGrid_mgmt (s : State) (g d : Nat) : ((s.stopGrid g).die d).mgmt = (s.die d).mgmt := by
  simp [State.stopGrid, State.die, State.reask_dies, State.dropReqs, State.tellEnd]

/-- A record joins a management queue that has room for it (R400). -/
theorem State.addRecord_of_room {d : Nat} (r : Record) (h : (s.die d).mgmt.length < 256) :
    s.addRecord d r = s.modDie d fun x => { x with mgmt := x.mgmt ++ [r] } := by
  have h : ((s.die d).mgmt.filter fun y => !y.dropped).length < 256 := Nat.lt_of_le_of_lt (List.length_filter_le ..) h
  simp [State.addRecord, State.modDie, h]

@[simp] theorem State.die_modDie (s : State) (d : Nat) (f : Die → Die) : (s.modDie d f).die d = f (s.die d) := by
  simp [State.die, State.modDie]

@[simp] theorem State.die_modGrid (s : State) (g d : Nat) (f : Grid → Grid) : (s.modGrid g f).die d = s.die d := rfl
@[simp] theorem State.gridOf_stopGrid (s : State) (g h : Nat) : (s.stopGrid g).gridOf h = s.gridOf h :=
  State.gridOf_congr (State.stopGrid_grids s g) h
@[simp] theorem State.gridOf_addRecord (s : State) (d g : Nat) (r : Record) : (s.addRecord d r).gridOf g = s.gridOf g := rfl

/-- The strands that have a slot after the end of a grid are those of other grids (R288). -/
theorem State.slot_stopGrid {g k : Nat} {v : Strand} (h : (s.stopGrid g).slot k = some v) : v.grid ≠ g := by
  have h := tblGet_mem h
  rw [State.stopGrid_strands, List.mem_filter] at h
  simpa using h.2

/-- The first fault of a grid (R288, R400): the grid ends with the cause and the address, one record is made, and its strands leave
their slots. -/
theorem State.faultGrid_first {g : Grid} {gk k : Nat} {code : Cause} {kind : Fin 5} {master : Fin 8} {pc addr aux : Word}
    (hg : s.gridOf gk = some g) (hst : ¬ (g.st = .ending ∨ g.st = .faulted)) (hroom : (s.die (dieOf (stationOf k))).mgmt.length < 256) :
    let d := dieOf (stationOf k)
    let u := s.faultGrid gk code kind master k pc addr aux
    (u.gridOf gk).map (fun g => (g.st, g.cause, g.addr)) = some (.ending, code, addr) ∧
    (∀ j v, u.slot j = some v → v.grid ≠ gk) ∧
    (u.die d).mgmt = (s.die d).mgmt ++ [s.slotRecord k code kind master gk pc addr aux] := by
  have hu : s.faultGrid gk code kind master k pc addr aux =
      ((s.addRecord (dieOf (stationOf k)) (s.slotRecord k code kind master gk pc addr aux)).modGrid gk
        fun gr => { gr with st := .ending, cause := code, addr := addr }).stopGrid gk := by
    rw [not_or] at hst
    simp [State.faultGrid, hg, hst]
  dsimp only
  rw [hu]
  refine ⟨by simp [hg], fun j v h => State.slot_stopGrid h, ?_⟩
  rw [State.stopGrid_mgmt, State.die_modGrid, State.addRecord_of_room _ hroom, State.die_modDie]

/-- A fault of the executing strand is its grid's, when it has one (R3). -/
theorem State.faultCur_of_grid {g : Grid} (ht : s.curStrand = some t) (hg : s.gridOf t.grid = some g) (code : Cause) (kind : Fin 5)
    (addr aux : Word) : s.faultCur code kind addr aux = s.faultGrid t.grid code kind 0 s.cur t.pc addr aux := by
  simp [State.faultCur, ht, hg]

theorem State.faultPoison_of_grid {g : Grid} (ht : s.curStrand = some t) (hg : s.gridOf t.grid = some g) (p : Poison) :
    s.faultPoison p = s.faultGrid t.grid p.code 0 0 s.cur p.pc p.addr 0 := by
  simp [State.faultPoison, ht, hg]

theorem preciseFaultEndsGrid : Claims.PreciseFaultEndsGrid := by
  intro s t g code addr ht hg hroom
  have hf : s.faultAt code addr = s.faultGrid t.grid code 0 0 s.cur t.pc addr 0 := State.faultCur_of_grid ht hg code 0 addr 0
  refine ⟨fun hst => ?_, fun hst => ?_, fun hst => ?_⟩
  · obtain ⟨hend, hslots, hrec⟩ := State.faultGrid_first (code := code) (kind := 0) (master := 0) (pc := t.pc) (addr := addr) (aux := 0)
      hg (not_or.2 hst) hroom
    dsimp only
    rw [hf]
    exact ⟨hend, hslots, ⟨_, hrec, rfl, rfl, rfl, rfl⟩, State.faultGrid_mem ..⟩
  · rw [hf]; simp [State.faultGrid, hg, hst, State.curDie]
  · rw [hf]; simp [State.faultGrid, hg, hst]

theorem poisonedOperandFaults : Claims.PoisonedOperandFaults := by
  intro s t g e d a b p ht hl hg hrun ha hb hp hroom
  have hshared : t.loose = true → ∀ o ∈ [Opnd.s a, .s b] ++ [.s d], o.shared = false := fun h => by
    have := hl h
    simp only [List.forall_mem_cons] at this
    simp [this]
  have hgate : s.gate 0 e [.s a, .s b] [.s d] = some (s.faultPoison p) :=
    State.gate_of_poison ht hshared (by simp [lookSrcs, lookSrc, ha, hb]) (by simp [poisonOf, hp])
  obtain ⟨hend, -, hrec⟩ := State.faultGrid_first (code := p.code) (kind := 0) (master := 0) (pc := p.pc) (addr := p.addr) (aux := 0)
    hg (by simp [hrun]) hroom
  refine ⟨s.faultPoison p, State.issue_of_stop hgate, ?_⟩
  rw [State.faultPoison_of_grid ht hg]
  exact ⟨hend, _, hrec, rfl, rfl, rfl⟩

/-- Settles O10: usable operands pass, an empty source traps or holds, poison is its load's fault, and the first fault of a grid
ends it. -/
theorem issueExaminationAndFaults : Obligations.IssueExaminationAndFaults :=
  ⟨usableOperandsPass, emptySourceTrapsOrHolds, poisonedOperandFaults, preciseFaultEndsGrid⟩

end Sys2Proof.Machine
end

section
/-! PROOF. User-level traps: entry, TRAPU, URET and the order at a boundary (R53, R321 to R324, R399). -/

namespace Sys2Proof.Machine

open Sys2Proof.Claims

variable {s : State} {t : Strand}

/-- UCAUSE's three fields do not overlap (R319). -/
theorem ucauseOf_eq_or {kind reg : Nat} (code : Cause) (hr : reg < 32) :
    ucauseOf kind reg code = BitVec.ofNat 64 (kind <<< 21 ||| reg <<< 16 ||| code.toNat) := by
  have hc : code.toNat < 2 ^ 16 := by have := code.isLt; omega
  have hlow : reg <<< 16 < 2 ^ 21 := by rw [Nat.shiftLeft_eq]; omega
  rw [Nat.or_assoc, ← Nat.shiftLeft_add_eq_or_of_lt hc reg,
    ← Nat.shiftLeft_add_eq_or_of_lt (by rw [Nat.shiftLeft_eq]; omega) kind]
  simp [ucauseOf, Nat.shiftLeft_eq, Nat.add_assoc]

/-- On entry the two masks move up by two and are cleared (R321). -/
theorem umask_saved (m : BitVec 4) : BitVec.ofNat 4 (m.toNat % 4 * 4) = m.extractLsb' 0 2 ++ 0#2 := by
  revert m; decide

/-- On return the saved masks are copied down and kept (R324). -/
theorem umask_restored (m : BitVec 4) :
    BitVec.ofNat 4 (m.toNat / 4 * 4 + m.toNat / 4) = m.extractLsb' 2 2 ++ m.extractLsb' 2 2 := by
  revert m; decide

/-- Without a handler a precise trap is the fault of its code (R321). -/
theorem State.trapPrecise_noHandler (ht : s.curStrand = some t) (hi : t.intrap = false) (hv : t.utvec = 0) (code : Cause) (kind reg : Nat) :
    s.trapPrecise code kind reg = s.fault code := by
  have hslot : s.slot s.cur = some t := ht
  simp [State.trapPrecise, ht, hi, State.trapAt, hslot, hv]

/-- Inside a handler a precise trap is the fault 0x283, which names the code it replaces (R321). -/
theorem State.trapPrecise_inTrap (ht : s.curStrand = some t) (hi : t.intrap = true) (code : Cause) (kind reg : Nat) :
    s.trapPrecise code kind reg = s.faultCur 0x283 0 0 (code.setWidth 64) := by
  simp [State.trapPrecise, ht, hi]

theorem trapEntry : Claims.TrapEntry := by
  intro s t code kind reg ht _ hr
  refine ⟨fun hi hv => ?_, fun hi hv => State.trapPrecise_noHandler ht hi hv code kind reg, fun hi => State.trapPrecise_inTrap ht hi code kind reg⟩
  dsimp only
  rw [State.trapPrecise_entry code kind reg ht hi hv]
  refine ⟨⟨t.enterTrap code kind reg t.pc, by simp [State.curStrand], rfl, ucauseOf_eq_or code hr, umask_saved t.umask, rfl, rfl, rfl, rfl⟩,
    rfl, fun k hk => by simp [hk]⟩

theorem trapuAndIllegal : Claims.TrapuAndIllegal :=
  ⟨fun _ _ _ _ ht => State.issue_of_pass ht (State.gate_nil ht), fun _ _ => rfl⟩

theorem trapReturn : Claims.TrapReturn := by
  intro s t e ht
  have hrun : exec (.uret e) s = .next (if !t.intrap then s.illegal 0 7 else
      State.modCur { s with stations := s.stations.map fun x =>
        (x.1, { x.2 with eng := x.2.eng.endHalt t, cpy := x.2.cpy.endHalt t }) } fun t => { t.returnTrap with hold := .none }) :=
    State.issue_of_pass ht (State.gate_nil ht)
  refine ⟨fun hi => by simp [hrun, hi], fun hi => ⟨_, hrun, { t.returnTrap with hold := .none }, ?_⟩⟩
  rw [if_neg (by simp [hi])]
  refine ⟨?_, umask_restored t.umask, rfl, rfl, rfl, rfl, rfl⟩
  rw [State.curStrand_modCur]
  exact congrArg (Option.map _) ht

/-! ### Boundaries (R322) -/

/-- At a boundary outside a handler a strand may take a trap. -/
theorem State.trappable_of_atBoundary (s : State) (hb : AtBoundary t) : s.trappable t = true := by
  obtain ⟨hi, hf, hh, -⟩ := hb
  simp [State.trappable, hi, hf, hh]

/-- A trap of the strand in a slot enters its handler, when it has one (R321). -/
theorem State.trapAt_enters {k : Nat} (h : s.slot k = some t) (hv : t.utvec ≠ 0) (code : Cause) (kind reg : Nat) (a : Word) :
    s.trapAt k code kind reg a = s.setSlot k (t.enterTrap code kind reg a) := by
  simp only [State.trapAt, h]
  exact if_neg hv

/-- The trap of a strand at a boundary: the event at the head of its list is taken off, and its handler is entered (R321). -/
theorem State.boundaryTrap_enters {code : Cause} (ht : s.curStrand = some t) (hb : AtBoundary t) :
    (s.boundaryTrap s.cur t code).curStrand = some (({ t with events := t.events.drop 1 } : Strand).enterTrap code 0 0 t.pc) := by
  obtain ⟨-, -, hh, hv⟩ := hb
  have hdrop : (if t.events.isEmpty then [] else t.events.drop 1) = t.events.drop 1 := by cases t.events <;> rfl
  simp only [State.boundaryTrap, State.awayWait, State.withdraw, hh]
  split
  all_goals
    rw [State.trapAt_enters (t := { t with events := t.events.drop 1 }) _ hv]
    · exact (State.slot_setSlot ..).trans (if_pos rfl)
  · rw [State.slot_congr (State.modStation_strands ..), State.slot_modSlot, if_pos rfl, show s.slot s.cur = some t from ht, ← hdrop]; rfl
  · rw [State.slot_modSlot, if_pos rfl, show s.slot s.cur = some t from ht, ← hdrop]; rfl

/-- USER_TRAP_ENTRY takes the trap that is pending. -/
theorem exec_userTrapEntry_of_pending {code : Cause} (ht : s.curStrand = some t) (hp : s.pendingTrap s.cur t = some code) :
    exec .userTrapEntry s = .next (s.boundaryTrap s.cur t code) := by
  simp [execUserTrapEntry, ht, hp]

theorem pendingTrap_of_event {v : Event} {rest : List Event} (s : State) (k : Nat) (hb : AtBoundary t) (he : t.events = v :: rest) :
    s.pendingTrap k t = some v.code := by
  simp [State.pendingTrap, State.trappable_of_atBoundary s hb, he]

theorem pendingTrap_of_timer (s : State) (k : Nat) (hb : AtBoundary t) (he : t.events = []) (hf : t.timer.fired = true)
    (hm : t.umask.getLsbD 1 = true) : s.pendingTrap k t = some timerCode := by
  have hv : (t.utvec != 0) = true := bne_iff_ne.2 hb.2.2.2
  simp only [State.pendingTrap, State.trappable_of_atBoundary s hb, he, hf, hm, hv]
  rfl

/-- Without an event or a timer trap the message trap is considered (R322, item 3). -/
theorem pendingTrap_of_noTimer (s : State) (k : Nat) (hb : AtBoundary t) (he : t.events = [])
    (hf : t.timer.fired = false ∨ t.umask.getLsbD 1 = false) :
    s.pendingTrap k t = if (s.station (stationOf k)).messageDue t && !(s.station (stationOf k)).msgTrap && !s.messageBelow k
      then some messageCode else none := by
  have : (t.timer.fired && t.umask.getLsbD 1) = false := by rcases hf with h | h <;> simp only [h, Bool.false_and, Bool.and_false]
  simp only [State.pendingTrap, State.trappable_of_atBoundary s hb, he, this]
  rfl

theorem boundaryTrapOrder : Claims.BoundaryTrapOrder := by
  intro s t ht hb
  have enters {code : Cause} (hp : s.pendingTrap s.cur t = some code) : Reaches .userTrapEntry s fun u =>
      u.curStrand = some (({ t with events := t.events.drop 1 } : Strand).enterTrap code 0 0 t.pc) :=
    ⟨_, exec_userTrapEntry_of_pending ht hp, State.boundaryTrap_enters ht hb⟩
  refine ⟨fun v rest he => ?_, fun he hf hm => ?_, fun he hf hm hbox hmt hbelow => ?_, fun he hf hm => ?_⟩
  · obtain ⟨u, hu, hc⟩ := enters (pendingTrap_of_event s s.cur hb he)
    exact ⟨u, hu, hc.trans (by rw [he]; rfl)⟩
  · obtain ⟨u, hu, hc⟩ := enters (pendingTrap_of_timer s s.cur hb he hf hm)
    exact ⟨u, hu, _, hc, rfl, rfl, rfl, rfl, rfl⟩
  · have hdue : (s.station (stationOf s.cur)).messageDue t = true := by
      have hv : (t.utvec != 0) = true := bne_iff_ne.2 hb.2.2.2
      have hbox : (!(s.station (stationOf s.cur)).mailbox.isEmpty) = true := by simpa [State.curStation] using hbox
      simp only [Station.messageDue, hm, hbox, hv, Bool.and_true]
    have hmt : (s.station (stationOf s.cur)).msgTrap = false := hmt
    obtain ⟨u, hu, hc⟩ := enters (code := messageCode) (by rw [pendingTrap_of_noTimer s s.cur hb he hf]; simp [hdue, hmt, hbelow])
    exact ⟨u, hu, _, hc, rfl, rfl, rfl, rfl⟩
  · have hdue : (s.station (stationOf s.cur)).messageDue t = false := by
      simp only [Station.messageDue, hm, Bool.false_and]
    have hnone : s.pendingTrap s.cur t = none := by
      rw [pendingTrap_of_noTimer s s.cur hb he (.inl hf)]; simp [hdue]
    simp [execUserTrapEntry, ht, hnone]

/-- Settles O11: entry, TRAPU, URET and the order at a boundary. -/
theorem userTraps : Obligations.UserTraps := ⟨trapEntry, trapuAndIllegal, trapReturn, boundaryTrapOrder⟩

end Sys2Proof.Machine
end

section
/-! PROOF. What a write of a register leaves unchanged (R3, R28 to R31, R36, R50): the frames of scalar and vector results. -/

namespace Sys2Proof.Machine

open Sys2Proof.Claims

variable {s u : State} {t : Strand} {k : Nat}

/-! ### The strand after a write -/

/-- The strand after a write of a scalar cell: its own register changes, a shared one stands with the chord (R28). -/
def Strand.setS (t : Strand) (r : SReg) (c : SCell) : Strand :=
  match r with
  | .x i => if i = 0 then t else { t with x := t.x.set i c }
  | .y _ => t

/-- The same for a vector cell. -/
def Strand.setV (t : Strand) (r : VReg) (c : VCell) : Strand :=
  match r with
  | .v i => { t with v := t.v.set i c }
  | .w _ => t
  | .q _ => t

theorem Strand.setS_frame (t : Strand) (r : SReg) (c : SCell) : { t.setS r c with x := t.x } = t := by
  unfold Strand.setS; repeat' split
  all_goals rfl

theorem Strand.setV_frame (t : Strand) (r : VReg) (c : VCell) : { t.setV r c with v := t.v } = t := by
  unfold Strand.setV; split <;> rfl

@[simp] theorem Strand.setS_msticky (t : Strand) (r : SReg) (c : SCell) : (t.setS r c).msticky = t.msticky :=
  (congrArg Strand.msticky (t.setS_frame r c) :)
@[simp] theorem Strand.setS_seed (t : Strand) (r : SReg) (c : SCell) : (t.setS r c).seed = t.seed :=
  (congrArg Strand.seed (t.setS_frame r c) :)
@[simp] theorem Strand.setV_msticky (t : Strand) (r : VReg) (c : VCell) : (t.setV r c).msticky = t.msticky :=
  (congrArg Strand.msticky (t.setV_frame r c) :)
@[simp] theorem Strand.setV_seed (t : Strand) (r : VReg) (c : VCell) : (t.setV r c).seed = t.seed :=
  (congrArg Strand.seed (t.setV_frame r c) :)
@[simp] theorem Strand.setS_v (t : Strand) (r : SReg) (c : SCell) : (t.setS r c).v = t.v := (congrArg Strand.v (t.setS_frame r c) :)
@[simp] theorem Strand.setV_x (t : Strand) (r : VReg) (c : VCell) : (t.setV r c).x = t.x := (congrArg Strand.x (t.setV_frame r c) :)
@[simp] theorem Strand.advance_v (t : Strand) : t.advance.v = t.v := (congrArg Strand.v t.advance_frame :)
@[simp] theorem Strand.advance_ports (t : Strand) : t.advance.ports = t.ports := (congrArg Strand.ports t.advance_frame :)
@[simp] theorem Strand.advance_msticky (t : Strand) : t.advance.msticky = t.msticky := (congrArg Strand.msticky t.advance_frame :)
@[simp] theorem Strand.advance_seed (t : Strand) : t.advance.seed = t.seed := (congrArg Strand.seed t.advance_frame :)
@[simp] theorem Strand.advance_p (t : Strand) : t.advance.p = t.p := (congrArg Strand.p t.advance_frame :)

/-! ### The state after a write of a cell -/

@[simp] theorem State.setScell_cur (s : State) (k : Nat) (r : SReg) (c : SCell) : (s.setScell k r c).cur = s.cur := by
  unfold State.setScell; repeat' split
  all_goals rfl

@[simp] theorem State.setVcell_cur (s : State) (k : Nat) (r : VReg) (c : VCell) : (s.setVcell k r c).cur = s.cur := by
  unfold State.setVcell; split <;> rfl

/-- A write of a cell changes the strands and the stations alone. -/
theorem State.setScell_frame (s : State) (k : Nat) (r : SReg) (c : SCell) :
    { s.setScell k r c with strands := s.strands, stations := s.stations } = s := by
  unfold State.setScell; repeat' split
  all_goals rfl

theorem State.setVcell_frame (s : State) (k : Nat) (r : VReg) (c : VCell) :
    { s.setVcell k r c with strands := s.strands, stations := s.stations } = s := by
  unfold State.setVcell; split <;> rfl

/-- A write of a scalar cell leaves the strand of its slot as `Strand.setS` says, and every other slot alone. -/
theorem State.slot_setScell (s : State) (k j : Nat) (r : SReg) (c : SCell) :
    (s.setScell k r c).slot j = if j = k then (s.slot k).map fun t => t.setS r c else s.slot j := by
  rcases r with i | i
  · by_cases hi : i = 0
    · by_cases hj : j = k <;> simp [State.setScell, Strand.setS, hi, hj]
    · simp [State.setScell, Strand.setS, hi]
  · rw [State.slot_congr (u := s.setScell k (.y i) c) (s := s) rfl]
    by_cases hj : j = k <;> simp [Strand.setS, hj]

theorem State.slot_setVcell (s : State) (k j : Nat) (r : VReg) (c : VCell) :
    (s.setVcell k r c).slot j = if j = k then (s.slot k).map fun t => t.setV r c else s.slot j := by
  rcases r with i | i | i
  · simp [State.setVcell, Strand.setV]
  · rw [State.slot_congr (u := s.setVcell k (.w i) c) (s := s) rfl]
    by_cases hj : j = k <;> simp [Strand.setV, hj]
  · by_cases hj : j = k <;> simp [State.setVcell, Strand.setV, hj]

theorem State.curStrand_setScell (ht : s.curStrand = some t) (r : SReg) (c : SCell) :
    (s.setScell s.cur r c).curStrand = some (t.setS r c) := by
  rw [State.curStrand, State.setScell_cur, State.slot_setScell, if_pos rfl, show s.slot s.cur = some t from ht]; rfl

theorem State.curStrand_setVcell (ht : s.curStrand = some t) (r : VReg) (c : VCell) :
    (s.setVcell s.cur r c).curStrand = some (t.setV r c) := by
  rw [State.curStrand, State.setVcell_cur, State.slot_setVcell, if_pos rfl, show s.slot s.cur = some t from ht]; rfl

/-! ### The stations after a write of a cell -/

/-- A write of an x register leaves every station alone. -/
theorem State.setScell_stations {r : SReg} (h : ∀ i, r ≠ .y i) (s : State) (k : Nat) (c : SCell) :
    (s.setScell k r c).stations = s.stations := by
  rcases r with i | i
  · unfold State.setScell; dsimp only; split <;> rfl
  · exact absurd rfl (h i)

/-- The station of a chord after a write of its register y[i] from a slot (R28, R30). -/
def Station.setY (S : Station) (i : Fin 16) (k : Nat) (c : SCell) : Station :=
  match S.chord with
  | some ch =>
    if writerY i S.same ≤ slotOf k + 1 then
      { S with chord := some { ch with yreg := ch.yreg.set i c }, same := .y i (slotOf k) ((oldY i S.same).getD ch.yreg[i]) :: S.same }
    else S
  | none => S

/-- The same for w[i]. -/
def Station.setW (S : Station) (i : Fin 8) (k : Nat) (c : VCell) : Station :=
  match S.chord with
  | some ch =>
    if writerW i S.same ≤ slotOf k + 1 then
      { S with chord := some { ch with wreg := ch.wreg.set i c }, same := .w i (slotOf k) ((oldW i S.same).getD ch.wreg[i]) :: S.same }
    else S
  | none => S

theorem State.setScell_y (s : State) (k : Nat) (i : Fin 16) (c : SCell) :
    s.setScell k (.y i) c = s.modStation (stationOf k) fun S => S.setY i k c := rfl

theorem State.setVcell_w (s : State) (k : Nat) (i : Fin 8) (c : VCell) :
    s.setVcell k (.w i) c = s.modStation (stationOf k) fun S => S.setW i k c := rfl

/-- What a station keeps when a register of its chord is written: everything but the chord's registers and the cycle's notes. -/
def Station.KeptBut (S S' : Station) : Prop :=
  { S' with chord := S.chord, same := S.same } = S ∧
  ∀ c, S'.chord = some c → ∃ c0, S.chord = some c0 ∧ { c with yreg := c0.yreg, wreg := c0.wreg } = c0

theorem Station.KeptBut.rfl {S : Station} : S.KeptBut S := ⟨by rfl, fun c h => ⟨c, h, by rfl⟩⟩

theorem Station.setY_keeps (S : Station) (i : Fin 16) (k : Nat) (c : SCell) : S.KeptBut (S.setY i k c) := by
  unfold Station.setY
  split
  · next ch hch =>
    split
    · refine ⟨by rfl, fun c h => ⟨ch, hch, ?_⟩⟩
      cases h; rfl
    · exact .rfl
  · exact .rfl

theorem Station.setW_keeps (S : Station) (i : Fin 8) (k : Nat) (c : VCell) : S.KeptBut (S.setW i k c) := by
  unfold Station.setW
  split
  · next ch hch =>
    split
    · refine ⟨by rfl, fun c h => ⟨ch, hch, ?_⟩⟩
      cases h; rfl
    · exact .rfl
  · exact .rfl

theorem stationsKept_of_modStation {f : Station → Station} (h : (s.station s.curStation).KeptBut (f (s.station s.curStation))) :
    StationsKept s (s.modStation s.curStation f) := by
  refine ⟨fun n hn => by simp [hn], ?_⟩
  rw [State.station_modStation, if_pos rfl]
  exact h

theorem stationsKept_of_eq (h : u.stations = s.stations) : StationsKept s u :=
  ⟨fun n _ => State.station_congr h n, by rw [State.station_congr h]; exact Station.KeptBut.rfl⟩

theorem stationsKept_setScell (s : State) (r : SReg) (c : SCell) : StationsKept s (s.setScell s.cur r c) := by
  rcases r with i | i
  · exact stationsKept_of_eq (State.setScell_stations (by simp) s _ c)
  · exact stationsKept_of_modStation (Station.setY_keeps _ i s.cur c)

theorem stationsKept_setVcell (s : State) (r : VReg) (c : VCell) : StationsKept s (s.setVcell s.cur r c) := by
  rcases r with i | i | i
  · exact stationsKept_of_eq rfl
  · exact stationsKept_of_modStation (Station.setW_keeps _ i s.cur c)
  · exact stationsKept_of_eq rfl

/-! ### The registers after a write of a cell -/

/-- What a strand's scalar register holds depends on its own x registers and the stations alone. -/
theorem State.scellNow_congr {c : Strand} (hs : u.stations = s.stations) (hx : c.x = t.x) (r : SReg) :
    u.scellNow k c r = s.scellNow k t r := by
  unfold State.scellNow; rw [State.station_congr hs, hx]

theorem State.vcellNow_congr {c : Strand} (hs : u.stations = s.stations) (hv : c.v = t.v) (r : VReg) :
    u.vcellNow k c r = s.vcellNow k t r := by
  unfold State.vcellNow; rw [State.station_congr hs, hv]

theorem State.scell_y_congr {c : Strand} (hs : u.stations = s.stations) (i : Fin 16) :
    u.scell k c (.y i) = s.scell k t (.y i) := by
  unfold State.scell State.scellNow; rw [State.station_congr hs]

/-- A write of y[i] leaves the chord's other y registers. -/
theorem Station.setY_yreg (S : Station) {i j : Fin 16} (h : j ≠ i) (k : Nat) (c : SCell) :
    (S.setY i k c).chord.map (fun ch => ch.yreg[j]) = S.chord.map fun ch => ch.yreg[j] := by
  unfold Station.setY
  split
  · next ch hch =>
    split
    · have : i.val ≠ j.val := fun e => h (Fin.ext e.symm)
      simp [hch, Vector.getElem_set_ne _ _ this]
    · rfl
  · rfl

theorem Station.setY_wreg (S : Station) (i : Fin 16) (k : Nat) (c : SCell) (j : Fin 8) :
    (S.setY i k c).chord.map (fun ch => ch.wreg[j]) = S.chord.map fun ch => ch.wreg[j] := by
  unfold Station.setY
  split
  · next ch hch => split <;> simp [hch]
  · rfl

theorem Station.setW_wreg (S : Station) {i j : Fin 8} (h : j ≠ i) (k : Nat) (c : VCell) :
    (S.setW i k c).chord.map (fun ch => ch.wreg[j]) = S.chord.map fun ch => ch.wreg[j] := by
  unfold Station.setW
  split
  · next ch hch =>
    split
    · have : i.val ≠ j.val := fun e => h (Fin.ext e.symm)
      simp [hch, Vector.getElem_set_ne _ _ this]
    · rfl
  · rfl

theorem Station.setW_yreg (S : Station) (i : Fin 8) (k : Nat) (c : VCell) (j : Fin 16) :
    (S.setW i k c).chord.map (fun ch => ch.yreg[j]) = S.chord.map fun ch => ch.yreg[j] := by
  unfold Station.setW
  split
  · next ch hch => split <;> simp [hch]
  · rfl

theorem State.scellNow_y (s : State) (k : Nat) (t : Strand) (i : Fin 16) :
    s.scellNow k t (.y i) = ((s.station (stationOf k)).chord.map fun c => c.yreg[i]).getD {} := by
  unfold State.scellNow; dsimp only; split <;> simp [*]

theorem State.vcellNow_w (s : State) (k : Nat) (t : Strand) (i : Fin 8) :
    s.vcellNow k t (.w i) = ((s.station (stationOf k)).chord.map fun c => c.wreg[i]).getD {} := by
  unfold State.vcellNow; dsimp only; split <;> simp [*]

/-- A write of a scalar register leaves every other scalar register. -/
theorem State.scellNow_setScell {r d : SReg} (h : r ≠ d) (s : State) (k : Nat) (t : Strand) (c : SCell) :
    (s.setScell k d c).scellNow k (t.setS d c) r = s.scellNow k t r := by
  rcases d with i | i
  · rcases r with j | j
    · have hji : j ≠ i := fun e => h (e ▸ rfl)
      have : i.val ≠ j.val := fun e => hji (Fin.ext e.symm)
      by_cases hi : i = 0
      · simp [State.scellNow, Strand.setS, hi]
      · simp [State.scellNow, Strand.setS, hi, Vector.getElem_set_ne _ _ this]
    · rw [State.scellNow_y, State.scellNow_y, State.station_congr (State.setScell_stations (by simp) s k c)]
  · rcases r with j | j
    · rfl
    · have hji : j ≠ i := fun e => h (e ▸ rfl)
      rw [State.scellNow_y, State.scellNow_y, State.setScell_y, State.station_modStation, if_pos rfl, Station.setY_yreg _ hji]

/-- A write of a scalar register leaves every vector register. -/
theorem State.vcellNow_setScell (s : State) (k : Nat) (t : Strand) (d : SReg) (c : SCell) (r : VReg) :
    (s.setScell k d c).vcellNow k (t.setS d c) r = s.vcellNow k t r := by
  rcases d with i | i
  · exact State.vcellNow_congr (State.setScell_stations (by simp) s k c) (t.setS_v _ c) r
  · rcases r with j | j | j
    · rfl
    · rw [State.vcellNow_w, State.vcellNow_w, State.setScell_y, State.station_modStation, if_pos rfl, Station.setY_wreg]
    · rfl

theorem State.vcellNow_setVcell {r d : VReg} (h : r ≠ d) (s : State) (k : Nat) (t : Strand) (c : VCell) :
    (s.setVcell k d c).vcellNow k (t.setV d c) r = s.vcellNow k t r := by
  rcases d with i | i | i
  · rcases r with j | j | j
    · have hji : j ≠ i := fun e => h (e ▸ rfl)
      have : i.val ≠ j.val := fun e => hji (Fin.ext e.symm)
      simp [State.vcellNow, Strand.setV, Vector.getElem_set_ne _ _ this]
    · rfl
    · rfl
  · rcases r with j | j | j
    · rfl
    · have hji : j ≠ i := fun e => h (e ▸ rfl)
      rw [State.vcellNow_w, State.vcellNow_w, State.setVcell_w, State.station_modStation, if_pos rfl, Station.setW_wreg _ hji]
    · rfl
  · rfl

theorem State.scellNow_setVcell (s : State) (k : Nat) (t : Strand) (d : VReg) (c : VCell) (r : SReg) :
    (s.setVcell k d c).scellNow k (t.setV d c) r = s.scellNow k t r := by
  rcases d with i | i | i
  · exact State.scellNow_congr rfl rfl r
  · rcases r with j | j
    · rfl
    · rw [State.scellNow_y, State.scellNow_y, State.setVcell_w, State.station_modStation, if_pos rfl, Station.setW_yreg]
  · rfl

/-- In the cycle of a write, siblings read every shared scalar register as before (R30). -/
theorem State.scell_y_setScell (s : State) (k : Nat) (t c' : Strand) (d : SReg) (c : SCell) (j : Fin 16) :
    (s.setScell k d c).scell k c' (.y j) = s.scell k t (.y j) := by
  rcases d with i | i
  · exact State.scell_y_congr (State.setScell_stations (by simp) s k c) j
  · simp only [State.scell, State.scellNow_y, State.setScell_y, State.station_modStation, if_true]
    unfold Station.setY
    split
    · next ch hch =>
      split
      · by_cases hji : j = i
        · subst hji; simp [oldY, hch]
        · have hij : i.val ≠ j.val := fun e => hji (Fin.ext e.symm)
          simp [oldY, hji, hch, Vector.getElem_set_ne _ _ hij]
      · rfl
    · rfl

/-! ### Completion after a write -/

/-- What an instruction's completion makes of the strand that the write has left: flags and SEED (R26, R84), then the advance. -/
def Strand.completed (c : Strand) (fl : FlagSet) (sr : Bool) : Strand :=
  ({ c with msticky := c.msticky ||| fl, seed := if sr then c.seed + 1 else c.seed } : Strand).advance

theorem Strand.completed_frame (c : Strand) (fl : FlagSet) (sr : Bool) :
    { c.completed fl sr with pc := c.pc, hold := c.hold, rep := c.rep, msticky := c.msticky, seed := c.seed } = c :=
  congrArg (fun x : Strand => { x with msticky := c.msticky, seed := c.seed })
    (Strand.advance_frame { c with msticky := c.msticky ||| fl, seed := if sr then c.seed + 1 else c.seed })

@[simp] theorem Strand.completed_x (c : Strand) (fl : FlagSet) (sr : Bool) : (c.completed fl sr).x = c.x := Strand.advance_x _
@[simp] theorem Strand.completed_v (c : Strand) (fl : FlagSet) (sr : Bool) : (c.completed fl sr).v = c.v := Strand.advance_v _
@[simp] theorem Strand.completed_ports (c : Strand) (fl : FlagSet) (sr : Bool) : (c.completed fl sr).ports = c.ports :=
  Strand.advance_ports _
@[simp] theorem Strand.completed_msticky (c : Strand) (fl : FlagSet) (sr : Bool) : (c.completed fl sr).msticky = c.msticky ||| fl :=
  Strand.advance_msticky _
@[simp] theorem Strand.completed_seed (c : Strand) (fl : FlagSet) (sr : Bool) :
    (c.completed fl sr).seed = if sr then c.seed + 1 else c.seed := Strand.advance_seed _

/-- A state in which the executing slot's strand has completed: the other slots and every register outside `dst` are kept when the
write that came before kept them. -/
theorem strandKept_of_write {c : Strand} {dst : List Opnd} {fl : FlagSet} {sr : Bool} {w : State}
    (hu : u.curStrand = some (c.completed fl sr)) (hslots : ∀ k, k ≠ s.cur → u.slot k = s.slot k) (hst : u.stations = w.stations)
    (hc : { c with x := t.x, v := t.v } = t)
    (hx : ∀ r, Opnd.s r ∉ dst → w.scellNow s.cur c r = s.scellNow s.cur t r)
    (hv : ∀ r, Opnd.v r ∉ dst → w.vcellNow s.cur c r = s.vcellNow s.cur t r) : StrandKept s u t dst := by
  have hf := c.completed_frame fl sr
  refine ⟨hslots, c.completed fl sr, hu, Strand.advance_hold _, ?_, fun r hr => ?_, fun r hr => ?_⟩
  · rw [← hc]
    exact congrArg (fun z : Strand => { z with x := t.x, v := t.v }) hf
  · exact (State.scellNow_congr hst (c.completed_x fl sr) r).trans (hx r hr)
  · exact (State.vcellNow_congr hst (c.completed_v fl sr) r).trans (hv r hr)

theorem Strand.completed_none (c : Strand) : c.completed 0 false = c.advance := by simp [Strand.completed]

theorem scalarResultFrame : Claims.ScalarResultFrame := by
  intro i s u t d v ht hw hu
  obtain rfl : u = (s.putS s.cur d v).advance := by rw [Writes, hu] at hw; exact Host.Outcome.next.inj hw
  have hcur : (s.putS s.cur d v).advance.curStrand = some ((t.setS d { val := v }).completed 0 false) := by
    rw [Strand.completed_none, State.advance, State.curStrand_modCur, State.putS, State.curStrand_setScell ht]; rfl
  have hslots : ∀ k, k ≠ s.cur → (s.putS s.cur d v).advance.slot k = s.slot k := fun k hk => by
    rw [State.advance, State.slot_modCur, if_neg (by simpa using hk), State.putS, State.slot_setScell, if_neg hk]
  refine ⟨State.setScell_frame s s.cur d { val := v }, ?_, ?_, fun hd n => ?_, _, hcur, ?_, ?_, ?_, ?_, ?_, fun r => ?_⟩
  · refine strandKept_of_write (w := s.setScell s.cur d { val := v }) hcur hslots rfl ?_ (fun r hr => ?_) fun r _ => ?_
    · exact congrArg (fun z : Strand => { z with v := t.v }) (t.setS_frame d _)
    · exact State.scellNow_setScell (by simpa using hr) ..
    · exact State.vcellNow_setScell ..
  · exact stationsKept_setScell s d { val := v }
  · exact State.station_congr (State.setScell_stations hd s s.cur _) n
  · simp
  · simp
  · simp
  · rintro rfl; simp [Strand.setS]
  · rintro j hj rfl; simp [Strand.setS, hj]
  · exact State.scell_y_setScell s s.cur t t d { val := v } r

/-! ### Vector results -/

/-- The cell that a vector result leaves in a register: the value, or, when a source was a port, the register marked empty for the
result that follows (R31). -/
def vecCell (s : State) (t : Strand) (viaPort : Bool) (vd : VReg) (v : VWord) (xr : Bool) : VCell :=
  if viaPort then { s.vcellNow s.cur t vd with full := false } else { val := v, xr := xr }

/-- The result that follows then. -/
def vecRes (t : Strand) (vd : VReg) (v : VWord) (xr : Bool) : PRes :=
  { emptyRes t (.v vd) with value := v, xr := xr, ready := true }

/-- A vector result in a register is a write of its cell, and when a source was a port a result under the next number. -/
theorem State.finishV_reg {vd : VReg} (hq : ∀ q, vd ≠ .q q) (s : State) (t : Strand) (viaPort : Bool) (v : VWord) (xr : Bool) :
    let w := s.setVcell s.cur vd (vecCell s t viaPort vd v xr)
    s.finishV t viaPort vd v xr =
      if viaPort then { w with results := tblPut s.results s.nextId (vecRes t vd v xr), nextId := s.nextId + 1 } else w := by
  rcases vd with i | i | i
  · cases viaPort <;> rfl
  · cases viaPort <;> rfl
  · exact absurd rfl (hq i)

theorem State.curStrand_complete {c : Strand} (hc : u.curStrand = some c) (fl : FlagSet) (sr : Bool) :
    ((u.modCur fun c => { c with msticky := c.msticky ||| fl, seed := if sr then c.seed + 1 else c.seed }).advance).curStrand =
      some (c.completed fl sr) := by
  rw [State.advance, State.curStrand_modCur, State.curStrand_modCur, hc]; rfl

/-- The slots after a completion: the others are as they were. -/
theorem State.slot_complete {f g : Strand → Strand} {j : Nat} (hj : j ≠ u.cur) : ((u.modCur f).modCur g).slot j = u.slot j :=
  ((u.modCur f).slot_modCur j g).trans ((if_neg hj).trans ((u.slot_modCur j f).trans (if_neg hj)))

/-- The frame of a vector result in a register. -/
theorem vecNext_register_frame {vd : VReg} (ht : s.curStrand = some t) (hq : ∀ q, vd ≠ .q q) (viaPort sr : Bool) (v : VWord)
    (fl : FlagSet) :
    let u := vecNext s t viaPort sr vd v fl
    { u with strands := s.strands, stations := s.stations, results := s.results, nextId := s.nextId } = s ∧
    StrandKept s u t [.v vd] ∧ StationsKept s u ∧ (∀ n, n ≠ s.nextId → tblGet u.results n = tblGet s.results n) ∧
    (viaPort = false → u.results = s.results) ∧
    ∃ c, u.curStrand = some c ∧ c.x = t.x ∧ c.msticky = t.msticky ||| fl ∧ c.seed = (if sr then t.seed + 1 else t.seed) ∧
      (∀ j, vd = .v j → viaPort = false → c.v[j] = { val := v, xr := t.xr }) ∧
      (∀ j, vd = .v j → viaPort = true → (c.v[j]).full = false ∧
        (tblGet u.results s.nextId).map (fun r => (r.value, r.ready, r.dst)) = some (v, true, .v vd)) := by
  let cell := vecCell s t viaPort vd v t.xr
  let w := s.setVcell s.cur vd cell
  have hw : s.finishV t viaPort vd v t.xr =
      if viaPort then { w with results := tblPut s.results s.nextId (vecRes t vd v t.xr), nextId := s.nextId + 1 } else w :=
    State.finishV_reg hq s t viaPort v t.xr
  have hwf : { w with strands := s.strands, stations := s.stations } = s := s.setVcell_frame s.cur vd cell
  have hwc : w.curStrand = some (t.setV vd cell) := State.curStrand_setVcell ht vd cell
  have hwcur : w.cur = s.cur := s.setVcell_cur s.cur vd cell
  have hstr : (s.finishV t viaPort vd v t.xr).strands = w.strands := by rw [hw]; cases viaPort <;> rfl
  have hsta : (s.finishV t viaPort vd v t.xr).stations = w.stations := by rw [hw]; cases viaPort <;> rfl
  have hcur : (s.finishV t viaPort vd v t.xr).cur = s.cur := by rw [hw]; cases viaPort <;> exact hwcur
  have hres : (s.finishV t viaPort vd v t.xr).results =
      if viaPort then tblPut s.results s.nextId (vecRes t vd v t.xr) else s.results := by
    rw [hw]; cases viaPort
    · exact (congrArg State.results hwf :)
    · rfl
  have hc : (vecNext s t viaPort sr vd v fl).curStrand = some ((t.setV vd cell).completed fl sr) := by
    refine State.curStrand_complete ?_ fl sr
    rw [← hwc, State.curStrand, State.curStrand, hcur, hwcur]
    exact State.slot_congr hstr _
  have hslots : ∀ j, j ≠ s.cur → (vecNext s t viaPort sr vd v fl).slot j = s.slot j := fun j hj => by
    refine (State.slot_complete (hcur ▸ hj)).trans ?_
    rw [State.slot_congr hstr, State.slot_setVcell, if_neg hj]
  refine ⟨?_, ?_, ?_, fun n hn => ?_, fun hv => ?_, _, hc, ?_, ?_, ?_, ?_, ?_⟩
  · have : { s.finishV t viaPort vd v t.xr with strands := s.strands, stations := s.stations, results := s.results, nextId := s.nextId } = s := by
      rw [hw]; cases viaPort <;> exact congrArg (fun z : State => { z with results := s.results, nextId := s.nextId }) hwf
    exact this
  · refine strandKept_of_write hc hslots (w := w) hsta ?_ (fun r _ => ?_) fun r hr => ?_
    · exact congrArg (fun z : Strand => { z with x := t.x }) (t.setV_frame vd cell)
    · exact State.scellNow_setVcell ..
    · exact State.vcellNow_setVcell (by simpa using hr) ..
  · have hk := stationsKept_setVcell s vd cell
    simpa only [StationsKept, State.station_congr (show (vecNext s t viaPort sr vd v fl).stations = w.stations from hsta)] using hk
  · refine (congrArg (tblGet · n) hres).trans ?_
    cases viaPort
    · rfl
    · exact tblGet_tblPut_of_ne hn
  · exact hres.trans (by rw [hv]; rfl)
  · simp
  · simp
  · simp
  · rintro j rfl rfl; simp [Strand.setV, cell, vecCell]
  · rintro j rfl rfl
    refine ⟨by simp [Strand.setV, cell, vecCell], ?_⟩
    refine (congrArg (fun l => (tblGet l s.nextId).map fun r : PRes => (r.value, r.ready, r.dst)) hres).trans ?_
    simp [vecRes, emptyRes]

/-! ### Ports and predicates -/

/-- A word written to a port changes that port alone (R36). -/
def Strand.pushWord (t : Strand) (i : Fin 8) (w : PortWord) : Strand :=
  match t.ports[i] with
  | .unbound => t
  | .stream p => { t with ports := t.ports.set i (.stream { p with pos := p.pos + 1, buf := p.buf ++ [(p.pos, w)] }) }
  | .channel c =>
    if c.edge then t else { t with ports := t.ports.set i (.channel { c with credit := c.credit - 1, buf := c.buf ++ [w] }) }

theorem State.pushPort_eq (s : State) (i : Fin 8) (w : PortWord) :
    s.pushPort i w = { s.modCur fun t => t.pushWord i { w with id := s.nextId } with nextId := s.nextId + 1 } := rfl

theorem Strand.pushWord_frame (t : Strand) (i : Fin 8) (w : PortWord) : { t.pushWord i w with ports := t.ports } = t := by
  unfold Strand.pushWord; repeat' split
  all_goals rfl

theorem Strand.pushWord_ports (t : Strand) {i r : Fin 8} (h : r ≠ i) (w : PortWord) : (t.pushWord i w).ports[r] = t.ports[r] := by
  have : i.val ≠ r.val := fun e => h (Fin.ext e.symm)
  unfold Strand.pushWord; repeat' split
  all_goals simp [Vector.getElem_set_ne _ _ this]

theorem vecNext_port_frame (ht : s.curStrand = some t) (viaPort sr : Bool) (q : Fin 8) (v : VWord) (fl : FlagSet) :
    let u := vecNext s t viaPort sr (.q q) v fl
    { u with strands := s.strands, nextId := s.nextId } = s ∧ (∀ k, k ≠ s.cur → u.slot k = s.slot k) ∧
    ∃ c, u.curStrand = some c ∧ c.hold = .none ∧ c.msticky = t.msticky ||| fl ∧ c.seed = (if sr then t.seed + 1 else t.seed) ∧
      { c with ports := t.ports, pc := t.pc, hold := t.hold, rep := t.rep, msticky := t.msticky, seed := t.seed } = t ∧
      ∀ r : Fin 8, r ≠ q → c.ports[r] = t.ports[r] := by
  let word : PortWord := { val := v, xr := t.xr, id := s.nextId }
  have hc : (vecNext s t viaPort sr (.q q) v fl).curStrand = some ((t.pushWord q word).completed fl sr) := by
    refine State.curStrand_complete ?_ fl sr
    exact (State.curStrand_modCur s _).trans (by rw [ht]; rfl)
  have hp := t.pushWord_frame q word
  refine ⟨rfl, fun k hk => ?_, _, hc, Strand.advance_hold _, ?_, ?_, ?_, fun r hr => ?_⟩
  · exact (State.slot_complete (u := s.pushPort q { val := v, xr := t.xr }) hk).trans ((s.slot_modCur k _).trans (if_neg hk))
  · rw [Strand.completed_msticky, (congrArg Strand.msticky hp :)]
  · rw [Strand.completed_seed, (congrArg Strand.seed hp :)]
  · let restore (z : Strand) : Strand :=
      { z with ports := t.ports, pc := t.pc, hold := t.hold, rep := t.rep, msticky := t.msticky, seed := t.seed }
    exact (congrArg restore ((t.pushWord q word).completed_frame fl sr)).trans (congrArg restore hp :)
  · rw [Strand.completed_ports]; exact t.pushWord_ports hr word

theorem Strand.setPred_frame (t : Strand) (p : PReg) (v : PWord) : { t.setPred p v with p := t.p } = t := by
  unfold Strand.setPred; split <;> rfl

/-- A predicate after a write of one; p0 reads all-true whatever is written (R28). -/
theorem Strand.pred_setPred (t : Strand) (p q : PReg) (v : PWord) : (t.setPred p v).pred q = if q = p ∧ p ≠ 0 then v else t.pred q := by
  by_cases hp : p = 0
  · simp [Strand.setPred, hp]
  · by_cases hq : q = p
    · subst hq; simp [Strand.setPred, Strand.pred, hp]
    · have : p.val ≠ q.val := fun e => hq (Fin.ext e.symm)
      simp [Strand.setPred, Strand.pred, hp, hq, Vector.getElem_set_ne _ _ this]

theorem comparison_frame (ht : s.curStrand = some t) (pd : PReg) (P : PWord) (F : FlagSet) :
    let u := (s.modCur fun c => (c.setPred pd P).raise F).advance
    { u with strands := s.strands } = s ∧ (∀ k, k ≠ s.cur → u.slot k = s.slot k) ∧
    ∃ c, u.curStrand = some c ∧ { c with p := t.p, msticky := t.msticky, pc := t.pc, hold := t.hold, rep := t.rep } = t ∧
      c.msticky = t.msticky ||| F ∧ ∀ q, c.pred q = if q = pd ∧ pd ≠ 0 then P else t.pred q := by
  have hp := t.setPred_frame pd P
  refine ⟨rfl, fun k hk => State.slot_complete hk, ((t.setPred pd P).raise F).advance, ?_, ?_, ?_, fun q => ?_⟩
  · rw [State.advance, State.curStrand_modCur, State.curStrand_modCur, ht]; rfl
  · let restore (z : Strand) : Strand := { z with p := t.p, msticky := t.msticky, pc := t.pc, hold := t.hold, rep := t.rep }
    exact (congrArg restore (Strand.advance_frame ((t.setPred pd P).raise F))).trans (congrArg restore hp :)
  · rw [Strand.advance_msticky]
    exact congrArg (· ||| F) (congrArg Strand.msticky hp :)
  · rw [← t.pred_setPred pd q P, Strand.pred, Strand.pred, Strand.advance_p]; rfl

/-- Reading a source changes nothing but the port it names (R36, R50). -/
theorem takeV_frame (ht : s.curStrand = some t) (va : VReg) :
    let u := (s.takeV va).2
    { u with strands := s.strands } = s ∧ (∀ k, k ≠ s.cur → u.slot k = s.slot k) ∧
    ∃ c, u.curStrand = some c ∧ { c with ports := t.ports } = t ∧ ∀ q : Fin 8, va ≠ .q q → c.ports[q] = t.ports[q] := by
  have unchanged : { s with strands := s.strands } = s ∧ (∀ k, k ≠ s.cur → s.slot k = s.slot k) ∧
      ∃ c, s.curStrand = some c ∧ { c with ports := t.ports } = t ∧ ∀ q : Fin 8, va ≠ .q q → c.ports[q] = t.ports[q] :=
    ⟨rfl, fun _ _ => rfl, t, ht, rfl, fun _ _ => rfl⟩
  have popped {i : Fin 8} (hva : va = .q i) (p : Port) : let u := s.modCur fun c => { c with ports := c.ports.set i p }
      { u with strands := s.strands } = s ∧ (∀ k, k ≠ s.cur → u.slot k = s.slot k) ∧
      ∃ c, u.curStrand = some c ∧ { c with ports := t.ports } = t ∧ ∀ q : Fin 8, va ≠ .q q → c.ports[q] = t.ports[q] := by
    refine ⟨rfl, fun k hk => (State.slot_modCur ..).trans (if_neg hk), { t with ports := t.ports.set i p }, ?_, rfl, fun q hq => ?_⟩
    · rw [State.curStrand_modCur, ht]; rfl
    · have : i.val ≠ q.val := fun e => hq (hva.trans (congrArg VReg.q (Fin.ext e)))
      simp [Vector.getElem_set_ne _ _ this]
  rcases va with i | i | i
  · simpa only [State.takeV, ht] using unchanged
  · simpa only [State.takeV, ht] using unchanged
  · simp only [State.takeV, ht, State.popPort]
    split
    · exact unchanged
    · split
      · exact unchanged
      · exact popped rfl _
    · split
      · exact unchanged
      · split
        · exact unchanged
        · exact popped rfl _

theorem vectorResultFrame : Claims.VectorResultFrame :=
  ⟨fun _ _ viaPort sr _ v fl ht hq => vecNext_register_frame ht hq viaPort sr v fl,
    fun _ _ viaPort sr q v fl ht => vecNext_port_frame ht viaPort sr q v fl,
    fun _ _ pd P F ht => comparison_frame ht pd P F, fun _ _ va ht => takeV_frame ht va⟩

/-- Settles O52: the frames of scalar and vector results. -/
theorem resultFrames : Obligations.ResultFrames := ⟨scalarResultFrame, vectorResultFrame⟩

end Sys2Proof.Machine
end

section
/-! PROOF. Every instruction, every event and every step of a device that runs answers a next state (R2, R3, R31, R53, R438, R441). -/

namespace Sys2Proof.Machine

open Sys2Proof.Claims

/-! ### The shapes that examine more than their operands -/

theorem State.missueOf_next (s : State) (names : List Opnd) (e : Bool) (srcs dsts : List Opnd) (f : Strand → State) :
    ∃ u, s.missueOf names e srcs dsts f = .next u := by
  unfold State.missueOf
  split
  · exact ⟨_, rfl⟩
  · split <;> exact ⟨_, rfl⟩

theorem State.privIssue_next (s : State) (e : Bool) (srcs dsts : List Opnd) (f : Strand → State) :
    ∃ u, s.privIssue e srcs dsts f = .next u := by
  unfold State.privIssue
  split
  · exact ⟨_, rfl⟩
  · split <;> exact ⟨_, rfl⟩

theorem State.csrOp_next (s : State) (d : SReg) (a : Option SReg) (num : BitVec 10) (e : Bool) (f : Word → Word → Word × Word) :
    ∃ u, s.csrOp d a num e f = .next u := by
  unfold State.csrOp
  split
  · exact ⟨_, rfl⟩
  · dsimp only
    repeat' split
    all_goals exact ⟨_, rfl⟩

theorem State.copyIssue_next (s : State) (op : CopyOp) (k : Compl) (a b c : SReg) (e : Bool) : ∃ u, s.copyIssue op k a b c e = .next u := by
  unfold State.copyIssue
  split
  · exact ⟨_, rfl⟩
  · split <;> exact ⟨_, rfl⟩

theorem State.mldw_next (s : State) (sla tr c64 : Bool) (a : SReg) (e : Bool) : ∃ u, s.mldw sla tr c64 a e = .next u := by
  unfold State.mldw
  split
  · exact ⟨_, rfl⟩
  · split
    · exact ⟨_, rfl⟩
    · exact State.missueOf_next ..

theorem execPskip_next (q : Fin 8) (a : SReg) (e : Bool) (s : State) : ∃ u, execPskip q a e s = .next u := by
  unfold execPskip
  split
  · exact ⟨_, rfl⟩
  · split <;> exact ⟨_, rfl⟩

theorem execMigrate_next (a : SReg) (e : Bool) (s : State) : ∃ u, execMigrate a e s = .next u := by
  unfold execMigrate
  split <;> exact ⟨_, rfl⟩

theorem execVrep_next (a : SReg) (l : BitVec 4) (e : Bool) (s : State) : ∃ u, execVrep a l e s = .next u := by
  unfold execVrep
  dsimp only
  repeat' split
  all_goals exact ⟨_, rfl⟩

/-! ### Instructions and events -/

/-- Every instruction and every event has a meaning that answers a next state: most are one by their form, and those that examine
the strand first answer one on each branch. -/
theorem exec_next (i : Instr) (s : State) : ∃ u, exec i s = .next u := by
  cases i
  case vrep => exact execVrep_next ..
  case mldwT64 => exact State.mldw_next ..
  case mldwC64 => exact State.mldw_next ..
  case mcfg => exact State.missueOf_next ..
  case mstep => exact State.missueOf_next ..
  case mzero => exact State.missueOf_next ..
  case mswapL => exact State.missueOf_next ..
  case mswapA => exact State.missueOf_next ..
  case mswapLa => exact State.missueOf_next ..
  case mdrain => exact State.missueOf_next ..
  case mstat => exact State.missueOf_next ..
  case mwait => exact State.missueOf_next ..
  case pskip => exact execPskip_next ..
  case cpy => exact State.copyIssue_next ..
  case cpyt => exact State.copyIssue_next ..
  case cpyd => exact State.copyIssue_next ..
  case cpys => exact State.copyIssue_next ..
  case migrate => exact execMigrate_next ..
  case csrr => rw [exec_csrr]; exact State.csrOp_next ..
  case csrw => rw [exec_csrw]; exact State.csrOp_next ..
  case csrs => rw [exec_csrs]; exact State.csrOp_next ..
  case csrc => rw [exec_csrc]; exact State.csrOp_next ..
  case sret => exact State.privIssue_next ..
  case dtinvPage => exact State.privIssue_next ..
  case dtinvCtx => exact State.privIssue_next ..
  case dtinvAll => exact State.privIssue_next ..
  case dtrep => exact State.privIssue_next ..
  case dtrepFail => exact State.privIssue_next ..
  case dtqry => exact State.privIssue_next ..
  case spls => exact State.privIssue_next ..
  case splr => exact State.privIssue_next ..
  case freeze => exact State.privIssue_next ..
  case thaw => exact State.privIssue_next ..
  case rgnw => exact State.privIssue_next ..
  case puw => exact State.privIssue_next ..
  case commit => exact State.privIssue_next ..
  all_goals exact ⟨_, rfl⟩

/-! ### Steps -/

theorem State.runWord_next (s : State) (t : Strand) (w : BitVec 32) : ∃ u, s.runWord t w = .next u := by
  unfold State.runWord
  cases decodeWord w with
  | error d => exact exec_next ..
  | ok i =>
    obtain ⟨u, hu⟩ := exec_next i s
    exact ⟨u.keepWord s.cur w, by simp only [hu]⟩

theorem State.runSlot_next (s : State) (k : Nat) : ∃ u, s.runSlot k = .next u := by
  unfold State.runSlot
  dsimp only
  split
  · exact ⟨_, rfl⟩
  · split
    · exact exec_next ..
    · split
      · exact ⟨_, rfl⟩
      · exact State.runWord_next ..

theorem State.runPlan_next (s : State) (st : Nat) (l : List Nat) : ∃ u, s.runPlan st l = .next u := by
  cases l with
  | nil => exact ⟨_, rfl⟩
  | cons k rest => exact State.runSlot_next ..

theorem State.runStation_next (s : State) (st : Nat) : ∃ u, s.runStation st = .next u := by
  unfold State.runStation
  split <;> exact State.runPlan_next ..

/-- A step answers a next state while something is left to happen or the device runs. -/
theorem step_next (s : State) (h : s.agenda ≠ [] ∨ s.boot.up = true) : ∃ u, step s = .next u := by
  unfold step State.move
  split
  · split
    · exact exec_next ..
    · exact ⟨_, rfl⟩
  · exact ⟨_, rfl⟩
  · exact ⟨_, rfl⟩
  · next hnil =>
    have hup : s.boot.up = true := h.resolve_left (· hnil)
    rw [if_pos hup]
    exact State.runStation_next ..

/-- A device that is held, with nothing left to happen, stops (R438, R441). -/
theorem step_held {s : State} (ha : s.agenda = []) (hb : s.boot.up = false) : step s = .fault .deviceHeld := by
  simp [step, State.move, ha, hb]

theorem answersNext : Claims.AnswersNext := ⟨exec_next, step_next, fun _ => step_held⟩

end Sys2Proof.Machine
end

section
/-! PROOF. Where execution stands while an instruction takes effect: the executing slot, and its strand's PC and repetition. What leaves
that place alone and then advances goes on to the next instruction. -/

namespace Sys2Proof.Machine

open Sys2Proof.Claims

variable {s u : State} {t : Strand}

/-- The executing slot, with the PC and the repetition of its strand. -/
def State.standing (s : State) : Nat × Option (Word × Option Rep) := (s.cur, s.curStrand.map fun t => (t.pc, t.rep))

/-! ### What leaves the place alone -/

theorem State.standing_congr (hs : u.strands = s.strands) (hc : u.cur = s.cur) : u.standing = s.standing := by
  simp only [State.standing, State.curStrand, hc, State.slot_congr hs]

theorem State.standing_of_curStrand {c : Strand} (ht : s.curStrand = some t) (hc : u.cur = s.cur) (hu : u.curStrand = some c)
    (hpc : c.pc = t.pc) (hrep : c.rep = t.rep) : u.standing = s.standing := by
  simp [State.standing, ht, hc, hu, hpc, hrep]

@[simp] theorem Strand.setS_pc (t : Strand) (r : SReg) (c : SCell) : (t.setS r c).pc = t.pc := (congrArg Strand.pc (t.setS_frame r c) :)
@[simp] theorem Strand.setS_rep (t : Strand) (r : SReg) (c : SCell) : (t.setS r c).rep = t.rep :=
  (congrArg Strand.rep (t.setS_frame r c) :)
@[simp] theorem Strand.setV_pc (t : Strand) (r : VReg) (c : VCell) : (t.setV r c).pc = t.pc := (congrArg Strand.pc (t.setV_frame r c) :)
@[simp] theorem Strand.setV_rep (t : Strand) (r : VReg) (c : VCell) : (t.setV r c).rep = t.rep :=
  (congrArg Strand.rep (t.setV_frame r c) :)
@[simp] theorem Strand.setPred_pc (t : Strand) (p : PReg) (v : PWord) : (t.setPred p v).pc = t.pc :=
  (congrArg Strand.pc (t.setPred_frame p v) :)
@[simp] theorem Strand.setPred_rep (t : Strand) (p : PReg) (v : PWord) : (t.setPred p v).rep = t.rep :=
  (congrArg Strand.rep (t.setPred_frame p v) :)
@[simp] theorem Strand.pushWord_pc (t : Strand) (i : Fin 8) (w : PortWord) : (t.pushWord i w).pc = t.pc :=
  (congrArg Strand.pc (t.pushWord_frame i w) :)
@[simp] theorem Strand.pushWord_rep (t : Strand) (i : Fin 8) (w : PortWord) : (t.pushWord i w).rep = t.rep :=
  (congrArg Strand.rep (t.pushWord_frame i w) :)

@[simp] theorem Strand.raise_pc (t : Strand) (f : FlagSet) : (t.raise f).pc = t.pc := rfl
@[simp] theorem Strand.raise_rep (t : Strand) (f : FlagSet) : (t.raise f).rep = t.rep := rfl

/-- A change of the executing strand that leaves its PC and its repetition. -/
theorem State.standing_modCur {f : Strand → Strand} (h : ∀ t, (f t).pc = t.pc ∧ (f t).rep = t.rep) (s : State) :
    (s.modCur f).standing = s.standing := by
  cases hs : s.curStrand with
  | none => simp [State.standing, hs]
  | some t => simp [State.standing, hs, h t]

@[simp] theorem State.standing_setScell (s : State) (k : Nat) (r : SReg) (c : SCell) : (s.setScell k r c).standing = s.standing := by
  rw [State.standing, State.curStrand, State.setScell_cur, State.slot_setScell, State.standing, State.curStrand]
  split
  · next h => rw [h]; cases s.slot k <;> simp
  · rfl

@[simp] theorem State.standing_setVcell (s : State) (k : Nat) (r : VReg) (c : VCell) : (s.setVcell k r c).standing = s.standing := by
  rw [State.standing, State.curStrand, State.setVcell_cur, State.slot_setVcell, State.standing, State.curStrand]
  split
  · next h => rw [h]; cases s.slot k <;> simp
  · rfl

@[simp] theorem State.standing_putS (s : State) (k : Nat) (r : SReg) (v : Word) : (s.putS k r v).standing = s.standing := s.standing_setScell ..
@[simp] theorem State.standing_putV (s : State) (k : Nat) (r : VReg) (v : VWord) (xr : Bool) : (s.putV k r v xr).standing = s.standing :=
  s.standing_setVcell ..
@[simp] theorem State.standing_emptyS (s : State) (k : Nat) (t : Strand) (r : SReg) : (s.emptyS k t r).standing = s.standing :=
  s.standing_setScell ..
@[simp] theorem State.standing_emptyV (s : State) (k : Nat) (t : Strand) (r : VReg) : (s.emptyV k t r).standing = s.standing :=
  s.standing_setVcell ..

@[simp] theorem State.standing_pendS (s : State) (t : Strand) (d : SReg) (r : PRes) : (s.pendS t d r).standing = s.standing := by
  refine (State.standing_congr rfl rfl : (s.pendS t d r).standing = (if d = .x 0 then s else s.emptyS s.cur t d).standing).trans ?_
  split
  · rfl
  · exact s.standing_emptyS ..

@[simp] theorem State.standing_pendV (s : State) (t : Strand) (d : VReg) (r : PRes) : (s.pendV t d r).standing = s.standing :=
  (State.standing_congr rfl rfl : (s.pendV t d r).standing = (s.emptyV s.cur t d).standing).trans (s.standing_emptyV ..)

@[simp] theorem State.standing_finishS (s : State) (t : Strand) (viaPort : Bool) (d : SReg) (v : Word) :
    (s.finishS t viaPort d v).standing = s.standing := by
  cases viaPort
  · exact s.standing_putS ..
  · exact s.standing_pendS ..

@[simp] theorem State.standing_pushPort (s : State) (i : Fin 8) (w : PortWord) : (s.pushPort i w).standing = s.standing := by
  have h := State.standing_modCur (f := fun t => t.pushWord i { w with id := s.nextId }) (fun t => by simp) s
  rw [← h, State.pushPort_eq]
  exact State.standing_congr rfl rfl

@[simp] theorem State.standing_finishV (s : State) (t : Strand) (viaPort : Bool) (d : VReg) (v : VWord) (xr : Bool) :
    (s.finishV t viaPort d v xr).standing = s.standing := by
  rcases d with i | i | i
  · cases viaPort
    · exact s.standing_putV s.cur (.v i) v xr
    · exact s.standing_pendV t (.v i) _
  · cases viaPort
    · exact s.standing_putV s.cur (.w i) v xr
    · exact s.standing_pendV t (.w i) _
  · exact s.standing_pushPort ..

@[simp] theorem State.standing_takeV (s : State) (r : VReg) : (s.takeV r).2.standing = s.standing := by
  cases ht : s.curStrand with
  | none => simp [State.takeV, ht]
  | some t =>
    obtain ⟨hu, -, c, hc, hframe, -⟩ := takeV_frame ht r
    exact State.standing_of_curStrand ht (congrArg State.cur hu :) hc (congrArg Strand.pc hframe :) (congrArg Strand.rep hframe :)

@[simp] theorem State.standing_takeSrc (s : State) (t : Strand) (sz : Nat) (b : VSrc) : (s.takeSrc t sz b).2.standing = s.standing := by
  cases b
  · exact s.standing_takeV _
  · rfl
  · rfl

@[simp] theorem State.standing_modStation (s : State) (n : Nat) (f : Station → Station) : (s.modStation n f).standing = s.standing :=
  State.standing_congr rfl rfl
@[simp] theorem State.standing_modDie (s : State) (d : Nat) (f : Die → Die) : (s.modDie d f).standing = s.standing := State.standing_congr rfl rfl
@[simp] theorem State.standing_addReq (s : State) (r : Req) : (s.addReq r).standing = s.standing := State.standing_congr rfl rfl

/-! ### Going on -/

/-- The next PC depends on the PC and the repetition alone (R154). -/
theorem Strand.advance_pc_congr {c : Strand} (hpc : c.pc = t.pc) (hrep : c.rep = t.rep) : c.advance.pc = t.advance.pc := by
  unfold Strand.advance
  dsimp only
  rw [hpc, hrep]
  cases t.rep with
  | none => rfl
  | some r =>
    dsimp only
    split
    · rfl
    · split
      · rfl
      · split <;> rfl

/-- A slot whose strand has advanced from `t`'s place has gone on from `t`. -/
theorem wentOn_of_slot {c : Strand} {k : Nat} (h : u.slot k = some c.advance) (hpc : c.pc = t.pc) (hrep : c.rep = t.rep) :
    WentOn u k t :=
  ⟨by rw [pcOf, h, Option.map_some, Strand.advance_pc_congr hpc hrep], by rw [holdOf, h, Option.map_some, Strand.advance_hold]⟩

/-- What leaves the place alone and then advances goes on. -/
theorem wentOn_advance (ht : s.curStrand = some t) (h : u.standing = s.standing) : WentOn u.advance s.cur t := by
  simp only [State.standing, ht, Prod.mk.injEq, Option.map_some, Option.map_eq_some_iff] at h
  obtain ⟨hcur, c, hc, hpc, hrep⟩ := h
  refine wentOn_of_slot ?_ hpc hrep
  rw [← hcur, State.advance]
  exact (State.curStrand_modCur u _).trans (by rw [hc]; rfl)

/-- An instruction whose examination finds nothing goes on when its effect does. -/
theorem goesOn_of_issue {i : Instr} {src : Nat} {e : Bool} {srcs dsts : List Opnd} {f : Strand → State}
    (hi : exec i s = s.issue src e srcs dsts f) (hp : Passes s t src e srcs dsts) (hf : WentOn (f t) s.cur t) : GoesOn i s t :=
  ⟨f t, hi.trans (State.issue_of_pass hp.1 hp.2), hf⟩

/-- An instruction without operands is not stopped at issue. -/
theorem passes_nil (ht : s.curStrand = some t) (src : Nat) (e : Bool) : Passes s t src e [] [] := ⟨ht, State.gate_nil ht⟩

end Sys2Proof.Machine
end

section
/-! PROOF. Vector instructions that compute, move and count go on with usable operands, whatever the values are (R128, R133 to R138, R141,
R147 to R153). -/

namespace Sys2Proof.Machine

open Sys2Proof.Claims

variable {s u : State} {t : Strand} {i : Instr} {d a b : SReg} {vd va vb : VReg} {pd pg : PReg} {e : Bool}

/-! ### Results without an event -/

/-- No result meets an event of CVM (R98). -/
def Eventless (rs : List ERes) : Prop := ∀ r ∈ rs, r.ev = none

theorem lowestEvent_of_eventless {rs : List ERes} (h : Eventless rs) (act : List Bool) : lowestEvent act rs = none := by
  induction rs generalizing act with
  | nil => cases act <;> rfl
  | cons r rs ih =>
    obtain ⟨hr, hrs⟩ := List.forall_mem_cons.1 h
    cases act with
    | nil => rfl
    | cons x act => simp [lowestEvent, hr, ih hrs]

theorem eventless_map {α : Type} {f : α → ERes} (h : ∀ x, (f x).ev = none) (l : List α) : Eventless (l.map f) := by
  intro r hr
  obtain ⟨x, -, rfl⟩ := List.mem_map.1 hr
  exact h x

theorem eventless_flatMap {α : Type} {f : α → List ERes} (h : ∀ x, Eventless (f x)) (l : List α) : Eventless (l.flatMap f) := by
  intro r hr
  obtain ⟨x, -, hx⟩ := List.mem_flatMap.1 hr
  exact h x r hx

theorem eventless_genElems (n : Nat) (f : Nat → Nat) : Eventless (genElems n f) := eventless_map (fun _ => rfl) _

theorem eventless_zip3 {f : Nat → Nat → Nat → Nat → ERes} (h : ∀ i a b d, (f i a b d).ev = none) (i : Nat) (as bs ds : List Nat) :
    Eventless (zip3 f i as bs ds) := by
  induction as generalizing i bs ds with
  | nil => simp [zip3, Eventless]
  | cons a as ih =>
    cases bs with
    | nil => simp [zip3, Eventless]
    | cons b bs =>
      cases ds with
      | nil => simp [zip3, Eventless]
      | cons d ds => exact List.forall_mem_cons.2 ⟨h i a b d, ih (i + 1) bs ds⟩

/-! ### The shapes -/

theorem wentOn_vDone (ht : s.curStrand = some t) (h : u.standing = s.standing) (viaPort sr : Bool) (v : VWord) (fl : FlagSet) :
    WentOn (u.vDone t viaPort sr vd v fl) s.cur t :=
  wentOn_advance ht ((State.standing_modCur (by simp) _).trans ((State.standing_finishV ..).trans h))

/-- Completing an element-wise instruction is precise only under CVM = TRAP, at an event (R98). -/
theorem wentOn_vMerge (ht : s.curStrand = some t) (h : u.standing = s.standing) (viaPort sr : Bool) (sz : Nat) {rs : List ERes}
    (hev : t.cvmTrap = false ∨ Eventless rs) : WentOn (u.vMerge s t viaPort sr sz vd pg rs) s.cur t := by
  unfold State.vMerge
  dsimp only
  split
  · next det htrap hdet =>
    rcases hev with hev | hev
    · rw [htrap] at hev; cases hev
    · rw [lowestEvent_of_eventless hev] at hdet; cases hdet
  · exact wentOn_vDone ht h ..

/-- A predicated instruction whose results meet no event goes on. -/
theorem goesOn_vwise {sz : Nat} {b : VSrc} {third sr : Bool} {f : Strand → List Nat → List Nat → List Nat → List ERes}
    (hi : exec i s = s.vwise sz vd va b third pg e sr f)
    (hp : Passes s t 1 e ([.v va] ++ b.opnds ++ if third then [.v vd] else []) [.v vd])
    (hev : ∀ a b d, Eventless (f t a b d)) : GoesOn i s t := by
  refine goesOn_of_issue hi hp ?_
  cases third with
  | false => exact wentOn_vMerge (u := ((s.takeV va).2.takeSrc t sz b).2) hp.1 (by simp) _ _ _ (.inr (hev _ _ _))
  | true => exact wentOn_vMerge (u := (((s.takeV va).2.takeSrc t sz b).2.takeV vd).2) hp.1 (by simp) _ _ _ (.inr (hev _ _ _))

theorem goesOn_vfp {ty : FTy} {b : VSrc} {third : Bool} {f : Nat → Rnd → Nat → Nat → Nat → Nat × FlagSet}
    (hi : exec i s = s.vfp ty vd va b third pg e f)
    (hp : Passes s t 1 e ([.v va] ++ b.opnds ++ if third then [.v vd] else []) [.v vd]) : GoesOn i s t :=
  goesOn_vwise hi hp fun _ _ _ => eventless_zip3 (by intros; rfl) _ _ _ _

theorem goesOn_vfpExact {ty : FTy} {b : VSrc} {f : Nat → Nat → Nat → Nat} (hi : exec i s = s.vfpExact ty vd va b pg e f)
    (hp : Passes s t 1 e ([.v va] ++ b.opnds) [.v vd]) : GoesOn i s t :=
  goesOn_vwise hi (by simpa using hp) fun _ _ _ => eventless_zip3 (by intros; rfl) _ _ _ _

theorem goesOn_slide {ty : ETy} {f : List Nat → Nat → Nat → Nat} (hi : exec i s = s.slide ty vd va b pg e f)
    (hp : Passes s t 1 e [.v va, .s b] [.v vd]) : GoesOn i s t :=
  goesOn_of_issue hi hp (wentOn_vMerge hp.1 (s.standing_takeV va) _ _ _ (.inr (eventless_genElems _ _)))

theorem goesOn_compare {sz : Nat} {f : Nat → Nat → Bool × FlagSet} (hi : exec i s = s.compare sz pd va vb pg e f)
    (hp : Passes s t 1 e [.v va, .v vb] []) : GoesOn i s t :=
  goesOn_of_issue hi hp (wentOn_advance hp.1 ((State.standing_modCur (by simp) _).trans
    ((State.standing_takeV _ vb).trans (s.standing_takeV va))))

theorem goesOn_bcasth {sz v : Nat} (hi : exec i s = s.bcasth sz v vd e) (hp : Passes s t 1 e [] [.v vd]) : GoesOn i s t :=
  goesOn_of_issue hi hp (wentOn_vDone hp.1 rfl ..)

theorem goesOn_predOp {f : Strand → PWord} (hi : exec i s = s.predOp pd e f) (ht : s.curStrand = some t) : GoesOn i s t :=
  goesOn_of_issue hi (passes_nil ht 1 e) (wentOn_advance ht (State.standing_modCur (by simp) s))

/-! ### Movement -/

theorem goesOn_vsel (ty : ETy) (hp : Passes s t 1 e [.v va, .v vb] [.v vd]) : GoesOn (.vsel ty vd va vb pg e) s t :=
  goesOn_of_issue rfl hp (wentOn_vDone hp.1 ((State.standing_takeV _ vb).trans (s.standing_takeV va)) ..)

theorem goesOn_vperm (ty : ITy) (hp : Passes s t 1 e [.v va, .v vb] [.v vd]) : GoesOn (.vperm ty vd va vb pg e) s t :=
  goesOn_vwise (exec_vperm s) hp fun _ _ _ => eventless_map (fun _ => rfl) _

theorem goesOn_vmov (ty : ETy) (hp : Passes s t 1 e [.v va] [.v vd]) : GoesOn (.vmov ty vd va pg e) s t :=
  goesOn_of_issue rfl hp (wentOn_advance hp.1 ((State.standing_finishV ..).trans (s.standing_takeV va)))

theorem goesOn_vbcast (ty : ETy) (hp : Passes s t 1 e [.s a] [.v vd]) : GoesOn (.vbcast ty vd a pg e) s t :=
  goesOn_of_issue rfl hp (wentOn_vMerge hp.1 rfl _ _ _ (.inr (eventless_genElems _ _)))

theorem goesOn_vext (ty : ETy) (hp : Passes s t 1 e [.v va, .s b] [.s d]) : GoesOn (.vext ty d va b e) s t :=
  goesOn_of_issue rfl hp (wentOn_advance hp.1 ((State.standing_finishS ..).trans (s.standing_takeV va)))

/-! ### Special operations -/

theorem eventless_hadGroup (bf : Bool → Nat → Nat → (Nat × FlagSet) × (Nat × FlagSet)) (m : BitVec 5) (g : List Nat) :
    Eventless (hadGroup bf m g) := eventless_map (fun _ => rfl) _

theorem goesOn_vhad32 (ty : ETy) (m : BitVec 5) (hp : Passes s t 1 e [.v va] [.v vd]) : GoesOn (.vhad32 ty vd va m pg e) s t :=
  goesOn_vwise (exec_vhad32 s) hp fun _ _ _ => eventless_flatMap (eventless_hadGroup _ m) _

theorem goesOn_vmaxx (ty : ETy) (k : BitVec 5) (hp : Passes s t 1 e [.v va] [.v vd]) : GoesOn (.vmaxx ty vd va k pg e) s t :=
  goesOn_vwise (exec_vmaxx s) hp fun _ _ _ => eventless_map (fun _ => by dsimp only; split <;> rfl) _

theorem goesOn_vred (op : RedOp) (ty : ETy) (hp : Passes s t 1 e [.v va] [.v vd]) : GoesOn (.vred op ty vd va pg e) s t :=
  goesOn_of_issue rfl hp (wentOn_vDone hp.1 (s.standing_takeV va) ..)

theorem goesOn_vsfu (fn : SfuFn) (ty : FTy) (hroom : (s.station s.curStation).sfu.length < 16)
    (hp : Passes s t 1 e [.v va] [.v vd]) : GoesOn (.vsfu fn ty vd va pg e) s t := by
  refine goesOn_of_issue rfl hp ?_
  dsimp only
  rw [if_neg (by omega)]
  exact wentOn_advance hp.1 (by simp)

/-! ### Predicates and widths -/

theorem goesOn_vwhile (ty : ETy) (hp : Passes s t 1 e [.s a, .s b] []) : GoesOn (.vwhile ty pd a b e) s t :=
  goesOn_of_issue rfl hp (wentOn_advance hp.1 (State.standing_modCur (by simp) s))

theorem goesOn_vwidth (ty : ETy) (hp : Passes s t 1 e [] [.s d]) : GoesOn (.vwidth ty d e) s t :=
  goesOn_of_issue rfl hp (wentOn_advance hp.1 (by simp))

theorem goesOn_pcnt (ty : ETy) {pa : PReg} (hp : Passes s t 1 e [] [.s d]) : GoesOn (.pcnt ty d pa pg e) s t :=
  goesOn_of_issue rfl hp (wentOn_advance hp.1 (by simp))

theorem vectorInstructionsGoOn : Claims.VectorInstructionsGoOn := by
  intro s t vd va vb d a b pd pa pb pg e it ft ty
  refine ⟨fun hp => ?_, fun hp => goesOn_vfp rfl hp, fun hp => ?_, fun hp => goesOn_vfp rfl hp, fun hp => ?_, fun hp => ?_,
    fun hp => goesOn_vbcast ty hp, fun hp => goesOn_vext ty hp, fun n hp => ⟨goesOn_bcasth rfl hp, goesOn_bcasth rfl hp⟩,
    fun hp => goesOn_vwhile ty hp, fun hp => ⟨goesOn_vwidth ty hp, goesOn_pcnt ty hp⟩, fun ht => ?_⟩
  · exact ⟨goesOn_vfp rfl hp, goesOn_vfp rfl hp, goesOn_vfp rfl hp, goesOn_vfpExact rfl hp, goesOn_vfpExact rfl hp, goesOn_vsel ty hp,
      goesOn_vperm it hp, goesOn_vwise (exec_vzip s) hp fun _ _ _ => eventless_genElems _ _,
      goesOn_vwise (exec_vuzp s) hp fun _ _ _ => eventless_genElems _ _⟩
  · exact ⟨goesOn_vfp rfl hp, goesOn_vfp rfl hp, goesOn_vfp rfl hp, goesOn_vfpExact rfl hp, goesOn_vfpExact rfl hp,
      goesOn_slide (exec_vslideUp s) hp, goesOn_slide (exec_vslideDn s) hp⟩
  · exact ⟨goesOn_vfpExact (exec_fabs s) hp, goesOn_vfpExact (exec_fneg s) hp, goesOn_vmov ty hp,
      fun m => ⟨goesOn_vhad32 ty m hp, goesOn_vmaxx ty m hp⟩,
      fun op => goesOn_vred op ty hp, fun hroom fn => goesOn_vsfu fn ft hroom hp⟩
  · exact ⟨goesOn_compare rfl hp, goesOn_compare rfl hp, goesOn_compare rfl hp, goesOn_compare rfl hp, goesOn_compare rfl hp,
      goesOn_compare rfl hp, goesOn_compare rfl hp, goesOn_compare rfl hp, goesOn_compare rfl hp, goesOn_compare rfl hp,
      goesOn_compare rfl hp⟩
  · exact ⟨goesOn_predOp rfl ht, goesOn_predOp rfl ht, goesOn_predOp rfl ht, goesOn_predOp rfl ht, goesOn_predOp rfl ht⟩

end Sys2Proof.Machine
end

section
/-! PROOF. Vector conversions and vector memory accesses go on: without CVM = TRAP, and with addresses that are aligned, in range and
granted (R98, R139 to R141, R143 to R146, R149, R150). -/

namespace Sys2Proof.Machine

open Sys2Proof.Claims

variable {s u : State} {t : Strand} {a b : SReg} {vd va vb : VReg} {pg : PReg} {e : Bool}

/-! ### Conversions -/

section
variable (hc : t.cvmTrap = false)
include hc

theorem goesOn_vcvt (dty sty : ETy) (rs : RSel) (hp : Passes s t 1 e [.v va] [.v vd]) : GoesOn (.vcvt dty sty rs vd va pg e) s t := by
  refine goesOn_of_issue rfl hp ?_
  dsimp only
  rw [hc]
  exact wentOn_vDone hp.1 (s.standing_takeV va) ..

theorem goesOn_vqps (fmt : PsFmt) (sty : FTy) (rs : RSel) (hp : Passes s t 1 e [.v va] [.v vd]) :
    GoesOn (.vqps fmt sty rs vd va pg e) s t := by
  refine goesOn_of_issue rfl hp ?_
  dsimp only
  rw [hc]
  exact wentOn_vDone hp.1 (s.standing_takeV va) ..

theorem goesOn_vqnt (sty : FTy) (rs : RSel) (hp : Passes s t 1 e [.v va] [.v vd, .v (nextReg vd)]) :
    GoesOn (.vqnt sty rs vd va pg e) s t := by
  refine goesOn_of_issue rfl hp ?_
  dsimp only
  rw [hc]
  exact wentOn_vDone hp.1 ((State.standing_finishV ..).trans (s.standing_takeV va)) ..

theorem goesOn_vpack5 (h : BitVec 4) (hp : Passes s t 1 e [.v va] [.v vd]) : GoesOn (.vpack5 vd va h pg e) s t := by
  refine goesOn_of_issue rfl hp ?_
  dsimp only
  rw [hc]
  exact wentOn_vDone hp.1 (s.standing_takeV va) ..

theorem goesOn_vunpk5 (h : BitVec 4) (hp : Passes s t 1 e [.v va] [.v vd]) : GoesOn (.vunpk5 vd va h pg e) s t :=
  goesOn_of_issue rfl hp (wentOn_vMerge hp.1 (s.standing_takeV va) _ _ _ (.inl hc))

/-- VDQ goes on when the source's XR tag agrees, or the source is not a PS format's (R146). -/
theorem goesOn_vdq (dty : FTy) {fmt : DqFmt} (rs : RSel) (hxr : ¬(fmt ≠ .mx ∧ s.xrMismatch t va = true))
    (hp : Passes s t 1 e (if fmt = .mx then [.v va, .v (nextReg va)] else [.v va]) [.v vd]) :
    GoesOn (.vdq dty fmt rs vd va pg e) s t := by
  refine goesOn_of_issue rfl hp ?_
  rw [if_neg hxr]
  exact wentOn_vMerge hp.1 (s.standing_takeV va) _ _ _ (.inl hc)

end

/-! ### The addresses of active elements -/

theorem numsFrom_eq_range' (a n : Nat) : numsFrom a n = List.range' a n := by
  induction n generalizing a with
  | zero => rfl
  | succ n ih => rw [numsFrom, ih, List.range'_succ]

theorem numsFrom_zero (n : Nat) : numsFrom 0 n = List.range n := by rw [numsFrom_eq_range', List.range_eq_range']

theorem mem_activeAddrs {sz : Nat} {p : PWord} {f : Nat → Nat} {x : Nat × Nat} :
    x ∈ activeAddrs sz p f ↔ ∃ j, (j < 256 / sz ∧ active sz p j = true) ∧ (j, f j) = x := by
  simp [activeAddrs, numsFrom_zero, vbytes]

theorem activeAddrs_map_snd (sz : Nat) (p : PWord) (f : Nat → Nat) :
    (activeAddrs sz p f).map (·.2) = ((List.range (256 / sz)).filter fun j => active sz p j).map f := by
  rw [activeAddrs, numsFrom_zero, List.map_map]; rfl

/-- Addresses that are aligned and in range meet no fault (R132, R139). -/
theorem vaddrFault_eq_none {c : CfgTable} {sz : Nat} {l : List (Nat × Nat)}
    (h : ∀ x ∈ l, x.2 % sz = 0 ∧ gvaOk c (BitVec.ofNat 64 x.2) = true) : vaddrFault c sz l = none := by
  induction l with
  | nil => rfl
  | cons x l ih =>
    obtain ⟨⟨hal, hok⟩, hl⟩ := List.forall_mem_cons.1 h
    simp [vaddrFault, hal, hok, ih hl]

theorem vaddrFault_of_addrsOk {sz : Nat} {p : PWord} {f : Nat → Nat} (h : AddrsOk s sz p f) :
    vaddrFault s.cfg sz (activeAddrs sz p f) = none := by
  refine vaddrFault_eq_none fun x hx => ?_
  obtain ⟨j, ⟨hj, hact⟩, rfl⟩ := mem_activeAddrs.1 hx
  exact h j hj hact

/-! ### Loads and stores stand where they stood -/

@[simp] theorem State.standing_addFills (s : State) (t : Strand) (src res : Nat) (l : List Nat) :
    (s.addFills t src res l).standing = s.standing := by
  induction l generalizing s with
  | nil => rfl
  | cons x l ih => exact (ih _).trans (s.standing_addReq _)

theorem State.standing_loadV (s : State) (t : Strand) (d : VReg) (bytes : List (Nat × Nat)) (old : Nat) (always : Bool) :
    (s.loadV t d bytes old always).standing = s.standing := by
  unfold State.loadV
  dsimp only
  split
  · split <;> simp
  · simp
  · simp

theorem State.standing_storeLine (s : State) (t : Strand) (line : Nat) (mask : BitVec 64) (data : BitVec 512) :
    (s.storeLine t line mask data).standing = s.standing := by
  unfold State.storeLine
  dsimp only
  split
  · exact (State.standing_addReq ..).trans (State.standing_congr rfl rfl)
  · exact State.standing_congr rfl rfl

theorem State.standing_storeLines (s : State) (t : Strand) (bytes : List (Nat × Byte)) (l : List Nat) :
    (s.storeLines t bytes l).standing = s.standing := by
  induction l generalizing s with
  | nil => rfl
  | cons x l ih => exact (ih _).trans (s.standing_storeLine ..)

theorem State.standing_homeWriteMask (s : State) (l : Loc) (bs : List (Bool × Byte)) : (s.homeWriteMask l bs).standing = s.standing := by
  induction bs generalizing s l with
  | nil => rfl
  | cons x bs ih =>
    refine (ih _ _).trans ?_
    split
    · split
      · exact State.standing_congr rfl rfl
      · rfl
    · rfl

theorem State.standing_writeBlock (s : State) (l : Loc) (bs : List (Bool × Byte)) : (s.writeBlock l bs).1.standing = s.standing := by
  unfold State.writeBlock
  split
  · rfl
  · split
    · exact (State.standing_homeWriteMask ..).trans (State.standing_congr rfl rfl)
    · split
      · exact State.standing_congr rfl rfl
      · exact State.standing_homeWriteMask ..

theorem State.standing_plateBytes (s : State) (st : Nat) (bytes : List (Nat × Byte)) (l : List Nat) :
    (s.plateBytes st bytes l).standing = s.standing := by
  induction l generalizing s with
  | nil => rfl
  | cons x l ih => exact (ih _).trans (s.standing_writeBlock ..)

theorem State.standing_noteOor (s : State) (c : Nat) (o : Option Nat) : (s.noteOor c o).standing = s.standing := by
  cases o
  · rfl
  · exact State.standing_congr rfl rfl

/-! ### Accesses by address -/

theorem wentOn_vload (ht : s.curStrand = some t) {sz : Nat} {f : Nat → Nat} (h : AddrsOk s sz (t.pred pg) f) (always : Bool) :
    WentOn (s.vload t sz vd (activeAddrs sz (t.pred pg) f) always) s.cur t := by
  rw [State.vload, vaddrFault_of_addrsOk h]
  exact wentOn_advance ht (s.standing_loadV ..)

theorem wentOn_vstore (ht : s.curStrand = some t) {sz : Nat} {f : Nat → Nat} (h : AddrsOk s sz (t.pred pg) f) :
    WentOn (s.vstore t sz vd (activeAddrs sz (t.pred pg) f)) s.cur t := by
  rw [State.vstore, vaddrFault_of_addrsOk h]
  exact wentOn_advance ht (s.standing_storeLines ..)

/-! ### Accesses to a plate -/

/-- Elements of a plate that are aligned, inside and granted are all accessed (R140, R366). -/
theorem State.plateLook_ok {wr : Bool} {sz : Nat} {l : List (Nat × Nat)}
    (h : ∀ x ∈ l, x.2 % sz = 0 ∧ x.2 + sz ≤ s.plateSize s.curStation ∧
      ∀ y ∈ l, x.2 ≤ y.2 → (s.station s.curStation).protOk t.protKind wr x.2 (y.2 + sz - x.2) = true) :
    s.plateLook t wr sz l = .ok l none := by
  have hal : (l.find? fun p => p.2 % sz != 0) = none := List.find?_eq_none.2 fun x hx => by simp [(h x hx).1]
  have hin : l.filter (fun p => decide (p.2 + sz ≤ s.plateSize s.curStation)) = l :=
    List.filter_eq_self.2 fun x hx => by simp [(h x hx).2.1]
  have hout : l.filter (fun p => !decide (p.2 + sz ≤ s.plateSize s.curStation)) = [] :=
    List.filter_eq_nil_iff.2 fun x hx => by simp [(h x hx).2.1]
  simp only [State.plateLook, hal, hin, hout]
  split
  · next lo hi hlo hhi =>
    obtain ⟨hlo, hmin⟩ := List.min?_eq_some_iff.1 hlo
    obtain ⟨hhi, -⟩ := List.max?_eq_some_iff.1 hhi
    have hle := hmin hi hhi
    obtain ⟨x, hx, rfl⟩ := List.mem_map.1 hlo
    obtain ⟨y, hy, rfl⟩ := List.mem_map.1 hhi
    rw [if_pos ((h x hx).2.2 y hy hle)]; rfl
  · rfl

/-- The SLAs of the active elements are aligned, inside the plate and granted (R140, R366). -/
def PlateFits (s : State) (t : Strand) (wr : Bool) (sz : Nat) (p : PWord) (sla : Nat → Nat) : Prop :=
  ∀ j, (j < 256 / sz ∧ active sz p j = true) → sla j % sz = 0 ∧ sla j + sz ≤ s.plateSize s.curStation ∧
    ∀ j', (j' < 256 / sz ∧ active sz p j' = true) → sla j ≤ sla j' →
      (s.station s.curStation).protOk t.protKind wr (sla j) (sla j' + sz - sla j) = true

theorem State.plateLook_of_fits {wr : Bool} {sz : Nat} {p : PWord} {sla : Nat → Nat} (h : PlateFits s t wr sz p sla) :
    s.plateLook t wr sz (activeAddrs sz p sla) = .ok (activeAddrs sz p sla) none := by
  refine State.plateLook_ok fun x hx => ?_
  obtain ⟨j, hj, rfl⟩ := mem_activeAddrs.1 hx
  obtain ⟨hal, hin, hgr⟩ := h j hj
  refine ⟨hal, hin, fun y hy => ?_⟩
  obtain ⟨j', hj', rfl⟩ := mem_activeAddrs.1 hy
  exact hgr j' hj'

theorem goesOn_vlds {ty : ETy} (hp : Passes s t 1 e [.s a, .s b] [.v vd])
    (hfits : PlateFits s t false ty.size (t.pred pg) (seqSla ((s.sval t a + s.sval t b).toNat % 2 ^ 32) ty.size))
    (hrecall : s.recallPlate s.curStation
      ((activeAddrs ty.size (t.pred pg) (seqSla ((s.sval t a + s.sval t b).toNat % 2 ^ 32) ty.size)).map (·.2)) ty.size false = none) :
    GoesOn (.vlds ty vd a b pg e) s t := by
  refine goesOn_of_issue rfl hp ?_
  dsimp only
  rw [State.plateLook_of_fits hfits]
  dsimp only
  rw [hrecall]
  dsimp only
  split
  · exact wentOn_advance hp.1 (s.standing_setVcell ..)
  · exact wentOn_advance hp.1 (s.standing_putV ..)

theorem goesOn_vsts {ty : ETy} (hp : Passes s t 1 e [.s a, .s b, .v vd] [])
    (hfits : PlateFits s t true ty.size (t.pred pg) (seqSla ((s.sval t a + s.sval t b).toNat % 2 ^ 32) ty.size))
    (hrecall : s.recallPlate s.curStation
      ((activeAddrs ty.size (t.pred pg) (seqSla ((s.sval t a + s.sval t b).toNat % 2 ^ 32) ty.size)).map (·.2)) ty.size true = none) :
    GoesOn (.vsts ty vd a b pg e) s t := by
  refine goesOn_of_issue rfl hp ?_
  dsimp only
  rw [State.plateLook_of_fits hfits]
  dsimp only
  rw [hrecall]
  exact wentOn_advance hp.1 ((State.standing_plateBytes ..).trans (s.standing_noteOor ..))

theorem vectorConversionsAndMemoryGoOn : Claims.VectorConversionsAndMemoryGoOn := by
  intro s t vd va vb a b pg e ft ty sty rs
  refine ⟨fun hc => ⟨fun hp => ?_, fun hp => goesOn_vdq hc ft rs (by simp) hp, fun hp => goesOn_vqnt hc ft rs hp⟩, ?_, ?_⟩
  · exact ⟨goesOn_vcvt hc ty sty rs hp, fun fmt => goesOn_vqps hc fmt ft rs hp,
      fun h => ⟨goesOn_vunpk5 hc h hp, goesOn_vpack5 hc h hp⟩,
      fun fmt hmx hxr => goesOn_vdq hc ft rs (by simp [hxr]) (by rwa [if_neg hmx])⟩
  · exact ⟨fun hp h => goesOn_of_issue rfl hp (wentOn_vload hp.1 h false), fun hp h => goesOn_of_issue rfl hp (wentOn_vstore hp.1 h),
      fun hp h => goesOn_of_issue rfl hp (wentOn_vload hp.1 h true), fun hp h => goesOn_of_issue rfl hp (wentOn_vstore hp.1 h)⟩
  · exact ⟨fun hp hfits hrecall => goesOn_vlds hp hfits (by rw [activeAddrs_map_snd]; exact hrecall),
      fun hp hfits hrecall => goesOn_vsts hp hfits (by rw [activeAddrs_map_snd]; exact hrecall)⟩

end Sys2Proof.Machine
end

section
/-! PROOF. The matrix engine's instructions and the ports' go on: with room in the queue an entry goes in, and a stream is bound to a free
port (R157, R158, R167 to R177, R231 to R235). -/

namespace Sys2Proof.Machine

open Sys2Proof.Claims

variable {s u : State} {t : Strand} {i : Instr} {a b c : SReg} {e : Bool}

/-! ### The shapes that examine more than their operands -/

/-- An instruction of major 0x30 of a strand of a chord is examined as the others are (R157). -/
theorem goesOn_of_missueOf {names srcs dsts : List Opnd} {f : Strand → State} (hl : t.loose = false)
    (hi : exec i s = s.missueOf names e srcs dsts f) (hp : Passes s t 2 e srcs dsts) (hf : WentOn (f t) s.cur t) : GoesOn i s t := by
  refine goesOn_of_issue (hi.trans ?_) hp hf
  simp [State.missueOf, hp.1, hl]

/-! ### Fields of a word -/

theorem bits_eq (w : Word) (hi lo : Nat) : bits w hi lo = w.toNat / 2 ^ lo % 2 ^ (hi + 1 - lo) := by
  rw [bits, Nat.shiftRight_eq_div_pow]

/-- A word below 2^lo has no bit from lo on. -/
theorem bits_eq_zero {w : Word} {lo : Nat} (h : w.toNat < 2 ^ lo) (hi : Nat) : bits w hi lo = 0 := by
  rw [bits_eq, Nat.div_eq_of_lt h, Nat.zero_mod]

theorem bit_eq_false {w : Word} {n : Nat} (h : w.toNat < 2 ^ n) : bit w n = false := Nat.testBit_lt_two_pow h

/-! ### Entries of the queue -/

/-- The engine's queue has room for the strand's next entry; a handler's has places of its own (log entry 38). -/
def MatrixRoom (s : State) (t : Strand) : Prop :=
  let g := (s.station s.curStation).eng
  (if t.ahead 2 g.halted then g.handlerQ else g.queue).length < 16

theorem MatrixRoom.mroom (h : MatrixRoom s t) : s.mroom t = true := decide_eq_true h

/-- With room an entry goes into the queue and its strand goes on, whatever registers have changed by then. -/
theorem wentOn_menter (ht : s.curStrand = some t) (hroom : MatrixRoom s t) (h : u.standing = s.standing)
    (heng : (u.station s.curStation).eng = (s.station s.curStation).eng) (en : MEntry) : WentOn (u.menter t en) s.cur t := by
  have hst : u.curStation = s.curStation := congrArg stationOf (congrArg Prod.fst h :)
  unfold State.menter
  dsimp only
  rw [hst, heng, if_neg (Nat.not_le.2 hroom)]
  exact wentOn_advance ht ((State.standing_modStation ..).trans h)

theorem eng_pendS (s : State) (t : Strand) (d : SReg) (r : PRes) :
    ((s.pendS t d r).station s.curStation).eng = (s.station s.curStation).eng := by
  have hst : (s.pendS t d r).station s.curStation = (if d = .x 0 then s else s.emptyS s.cur t d).station s.curStation :=
    State.station_congr rfl _
  rw [hst]
  split
  · rfl
  · obtain ⟨hkept, -⟩ := (stationsKept_setScell s d { s.scellNow s.cur t d with full := false }).2
    exact (congrArg Station.eng hkept :)

theorem stations_takeV (ht : s.curStrand = some t) (v : VReg) : (s.takeV v).2.stations = s.stations := by
  obtain ⟨hu, -⟩ := takeV_frame ht v
  exact (congrArg State.stations hu :)

section
variable (hl : t.loose = false) (hroom : MatrixRoom s t)
include hl hroom

/-- An entry without operands. -/
theorem goesOn_menter {en : MEntry} (ht : s.curStrand = some t) (hi : exec i s = s.missue e [] [] fun t => s.menter t en) :
    GoesOn i s t := goesOn_of_missueOf hl hi (passes_nil ht 2 e) (wentOn_menter ht hroom rfl rfl en)

theorem goesOn_mstat (sel : Fin 7) (hp : Passes s t 2 e [.s b] [.s a]) : GoesOn (.mstat sel a b e) s t := by
  refine goesOn_of_missueOf hl rfl hp ?_
  dsimp only
  rw [hroom.mroom]
  exact wentOn_menter hp.1 hroom (s.standing_pendS ..) (eng_pendS ..) _

theorem goesOn_mcfg (hp : Passes s t 2 e [.s a] []) (hlt : (s.sval t a).toNat < 2 ^ 12) (hres : (s.sval t a).toNat / 2 ^ 6 % 4 = 0)
    (hbp : (s.sval t a).toNat % 2 ^ 6 ≤ 40) : GoesOn (.mcfg a e) s t := by
  refine goesOn_of_missueOf hl rfl hp ?_
  have h76 : bits (s.sval t a) 7 6 = 0 := (bits_eq ..).trans hres
  have h50 : bits (s.sval t a) 5 0 ≤ 40 := by rw [bits_eq]; simpa using hbp
  dsimp only
  rw [if_neg (by simp [bits_eq_zero hlt, h76, h50])]
  exact wentOn_menter hp.1 hroom rfl rfl _

theorem goesOn_mdrain (fmt : DrainFmt) (back : Bool) (hp : Passes s t 2 e [.s a] []) (hlt : (s.sval t a).toNat < 2 ^ 32)
    (hal : (s.sval t a).toNat % 64 = 0) : GoesOn (.mdrain fmt .none back a b c e) s t := by
  refine goesOn_of_missueOf hl rfl hp ?_
  have hdest : s.drainDestBad t.ctx (s.sval t a) = false := by
    have h43 : bits (s.sval t a) 63 43 = 0 := bits_eq_zero (Nat.lt_trans hlt (by decide)) _
    have h32 : bits (s.sval t a) 41 32 = 0 := bits_eq_zero hlt _
    have h42 : bit (s.sval t a) 42 = false := bit_eq_false (Nat.lt_trans hlt (by decide))
    simp [State.drainDestBad, h43, h42, h32]
  have halign : bits (s.sval t a) 31 0 % 64 = 0 := by rw [bits_eq]; omega
  dsimp only
  rw [hdest, if_neg (by decide), if_neg (by simp [halign])]
  exact wentOn_menter hp.1 hroom rfl rfl _

/-- MSTEP under MXINT8, which reads both its registers (R170). -/
theorem goesOn_mstep {va vb : VReg} {n : Fin 8} (hp : Passes s t 2 e [.v va, .v vb] [])
    (hmx : ((s.station s.curStation).eng.issueConfig (t.ahead 2 (s.station s.curStation).eng.halted)).getLsbD 11 = true)
    (hn : n.val ≤ ((s.station s.curStation).eng.issueConfig (t.ahead 2 (s.station s.curStation).eng.halted)).toNat / 2 ^ 8 % 8) :
    GoesOn (.mstep va vb n e) s t := by
  have hmx' : (s.curStrand.map fun t =>
      ((s.station s.curStation).eng.issueConfig (t.ahead 2 (s.station s.curStation).eng.halted)).getLsbD 11).getD false = true := by
    rw [hp.1]; exact hmx
  refine goesOn_of_missueOf hl (exec_mstep s) (by rw [hmx']; exact hp) ?_
  dsimp only
  rw [if_neg (by omega), hroom.mroom, hmx']
  have htake : ((s.takeV va).2.takeV vb).2.stations = s.stations := by
    obtain ⟨-, -, w, hw, -⟩ := takeV_frame hp.1 va
    exact (stations_takeV hw vb).trans (stations_takeV hp.1 va)
  exact wentOn_menter hp.1 hroom ((State.standing_takeV _ vb).trans (s.standing_takeV va))
    (congrArg Station.eng (State.station_congr htake _)) _

end

theorem goesOn_mwait (hl : t.loose = false) (ht : s.curStrand = some t) (hh : t.hold = .none)
    (hdone : s.engDone s.curStation t (s.station s.curStation).eng.entered = true) : GoesOn (.mwait e) s t := by
  refine goesOn_of_missueOf hl rfl (passes_nil ht 2 e) ?_
  dsimp only
  rw [hh]
  dsimp only
  rw [if_pos hdone]
  exact wentOn_advance ht rfl

/-! ### Loading the back latch -/

theorem State.addLatchFills_stations (s : State) (t : Strand) (pend : List (Nat × Nat)) (l : List Nat) :
    (s.addLatchFills t pend l).stations = s.stations := by
  induction l generalizing s with
  | nil => rfl
  | cons x l ih => exact ih _

/-- A load that begins from global addresses makes the engine's load its strand's (R168). -/
theorem State.latchStart_loading {l : LatchLoad} (hsla : l.sla = false) :
    ((s.latchStart t l).station s.curStation).eng.loading = some t.tag := by
  rw [State.latchStart, hsla, if_neg (by decide)]
  dsimp only
  rw [State.station_congr (State.addLatchFills_stations ..), State.hold, State.station_congr (State.modCur_stations ..),
    State.station_modStation, if_pos rfl]

theorem mldw_begins {tr c64 : Bool} (hl : t.loose = false) (hh : t.hold = .none) (hp : Passes s t 2 e [.s a] [])
    (hal : (s.sval t a).toNat % 128 = 0) (hgva : gvaOk s.cfg (s.sval t a) = true)
    (hfree : s.latchFree s.curStation s.nextId = true) :
    ∃ u, s.mldw false tr c64 a e = .next u ∧ (u.station s.curStation).eng.loading = some t.tag := by
  unfold State.mldw
  dsimp only
  rw [hp.1]
  dsimp only
  rw [hh]
  dsimp only
  rw [State.missue, State.missueOf, hp.1]
  dsimp only
  rw [hl, if_neg (by decide), State.issue_of_pass hp.1 hp.2]
  refine ⟨_, rfl, ?_⟩
  simp only [Bool.false_eq_true, if_false, hal, hgva, ne_eq, not_true_eq_false, Bool.not_false, Bool.not_true, Bool.and_false]
  exact (congrArg (fun z : State => (z.station s.curStation).eng.loading) (if_pos hfree)).trans (State.latchStart_loading rfl)

/-! ### Ports -/

/-- A strand of a course of one stage has no stage ports (R232). -/
theorem Strand.stagePort_eq_false (h : t.stageCsr.toNat / 8 = 0) (q : Fin 8) : t.stagePort q = false := by
  have h : t.sm1 = 0 := h
  simp [Strand.stagePort, h]

theorem goesOn_punbind {q : Fin 8} (ht : s.curStrand = some t) (hq : t.ports[q] = .unbound) (hstage : t.stageCsr.toNat / 8 = 0) :
    GoesOn (.punbind q e) s t := by
  refine goesOn_of_issue rfl (passes_nil ht 3 e) ?_
  dsimp only
  rw [Strand.stagePort_eq_false hstage, if_neg (by decide), hq]
  exact wentOn_advance ht rfl

theorem goesOn_pstat {q : Fin 8} (hp : Passes s t 3 e [] [.s a]) : GoesOn (.pstat a q e) s t :=
  goesOn_of_issue rfl hp (wentOn_advance hp.1 (s.standing_putS ..))

/-- A descriptor of a stream read from the plate, with its reserved bits 0, is bound to a free port (R231). -/
theorem goesOn_pbind {q : Fin 8} (hp : Passes s t 3 e [.s a, .s b] []) (hq : t.ports[q] = .unbound) (hstage : t.stageCsr.toNat / 8 = 0)
    (hkind : (s.sval t a).toNat / 2 ^ 60 = 2) (hres : (s.sval t a).toNat / 2 ^ 16 % 16 = 0) (hal : (s.sval t b).toNat % 64 = 0) :
    GoesOn (.pbind q a b e) s t := by
  have h63 : bits (s.sval t a) 63 62 = 0 := by rw [bits_eq]; omega
  have h19 : bits (s.sval t a) 19 16 = 0 := (bits_eq ..).trans hres
  have h61 : bit (s.sval t a) 61 = true := by
    rw [bit, BitVec.getLsbD, Nat.testBit_eq_decide_div_mod_eq]; exact decide_eq_true (by omega)
  have h60 : bit (s.sval t a) 60 = false := by
    rw [bit, BitVec.getLsbD, Nat.testBit_eq_decide_div_mod_eq]; exact decide_eq_false (by omega)
  have hgood : portDescBad (s.sval t a) = false := by simp [portDescBad, h63, h60, h19]
  refine goesOn_of_issue rfl hp ?_
  simp only [Strand.stagePort_eq_false hstage, hq, h63, hgood, h61, hal, ne_eq, not_true_eq_false, Bool.false_eq_true, if_false,
    (by decide : ¬2 ≤ 0), false_and, if_true]
  exact wentOn_advance hp.1 (State.standing_modCur (by simp) s)

theorem goesOn_pskip {q : Fin 8} {p : Stream} (hh : t.hold = .none) (hq : t.ports[q] = .stream p) (hp : Passes s t 3 e [.s a] []) :
    GoesOn (.pskip q a e) s t := by
  rw [GoesOn, Reaches, exec_pskip, execPskip]
  simp only [hp.1, hh, State.issue_of_pass hp.1 hp.2, hq]
  exact ⟨_, rfl, wentOn_advance hp.1 (State.standing_modCur (by simp) s)⟩

end Sys2Proof.Machine
end

section
/-! PROOF. Strands' control and the privileged instructions go on: sleeping with cause to wake, YIELD, a barrier's last strand, the ready
queue, the timer, and the instructions of the management (R310 to R317, R377 to R382); then everything together. -/

namespace Sys2Proof.Machine

open Sys2Proof.Claims

variable {s u : State} {t : Strand} {i : Instr} {a b d : SReg} {e : Bool}

/-! ### Strands -/

theorem goesOn_sleep (ht : s.curStrand = some t) (hw : (s.station s.curStation).wakes t = true) : GoesOn (.sleep e) s t := by
  refine goesOn_of_issue rfl (passes_nil ht 0 e) ?_
  rw [if_pos hw]
  exact wentOn_advance ht rfl

theorem goesOn_yield (ht : s.curStrand = some t) (hl : t.loose = false) (hts : s.timeSliced s.curStation = false) :
    GoesOn (.yield e) s t := by
  have hts : s.advance.timeSliced s.advance.curStation = false := hts
  refine goesOn_of_issue rfl (passes_nil ht 0 e) ?_
  simp only [hl, hts, Bool.false_eq_true, if_false]
  exact wentOn_advance ht rfl

/-! ### Barriers -/

theorem tblGet_map {α : Type} (l : List (Nat × α)) (f : Nat → α → α) (k : Nat) :
    tblGet (l.map fun e => (e.1, f e.1 e.2)) k = (tblGet l k).map (f k) := by
  induction l with
  | nil => rfl
  | cons e l ih =>
    simp only [List.map_cons, tblGet, ih]
    split
    · next h => rw [h]; rfl
    · rfl

theorem State.slot_modTag (s : State) (tag : Nat) (f : Strand → Strand) (k : Nat) :
    (s.modTag tag f).slot k = (s.slot k).map fun t => if t.tag = tag then f t else t :=
  tblGet_map s.strands (fun _ t => if t.tag = tag then f t else t) k

/-- What opening a barrier for one tag does to a strand. -/
def Strand.opened (gen : Nat) (t : Strand) (tag : Nat) : Strand :=
  if t.tag = tag then (if t.hold = .cbar gen then t.advance else t) else t

theorem State.slot_barrierOpen (s : State) (tags : List Nat) (gen k : Nat) :
    (s.barrierOpen tags gen).slot k = (s.slot k).map fun t => tags.foldl (Strand.opened gen) t := by
  induction tags generalizing s with
  | nil => simp [State.barrierOpen]
  | cons tag tags ih =>
    refine (ih (s.modTag tag fun t => if t.hold = .cbar gen then t.advance else t)).trans ?_
    rw [State.slot_modTag, Option.map_map]
    rfl

theorem Strand.foldl_opened_of_free {gen : Nat} (h : t.hold ≠ .cbar gen) (tags : List Nat) :
    tags.foldl (Strand.opened gen) t = t := by
  induction tags with
  | nil => rfl
  | cons tag tags ih =>
    have : t.opened gen tag = t := by simp [Strand.opened, h]
    rw [List.foldl_cons, this, ih]

/-- A strand that waits at a barrier for one of its tags goes on when the barrier opens (R311). -/
theorem Strand.foldl_opened {gen : Nat} (h : t.hold = .cbar gen) {tags : List Nat} (hm : t.tag ∈ tags) :
    tags.foldl (Strand.opened gen) t = t.advance := by
  induction tags with
  | nil => cases hm
  | cons tag tags ih =>
    rw [List.foldl_cons]
    by_cases htag : t.tag = tag
    · have : t.opened gen tag = t.advance := by simp [Strand.opened, htag, h]
      rw [this, Strand.foldl_opened_of_free (by simp)]
    · have : t.opened gen tag = t := by simp [Strand.opened, htag]
      rw [this, ih ((List.mem_cons.1 hm).resolve_left htag)]

/-- The executing strand, held at a barrier, goes on when it opens. -/
theorem wentOn_barrierOpen {gen : Nat} {tags : List Nat} (ht : s.curStrand = some t) (hm : t.tag ∈ tags)
    (hu : u.strands = (s.hold (.cbar gen)).strands) : WentOn (u.barrierOpen tags gen) s.cur t := by
  let held : Strand := { t with hold := .cbar gen }
  have hslot : (u.barrierOpen tags gen).slot s.cur = some held.advance := by
    rw [State.slot_barrierOpen, State.slot_congr hu]
    have hheld : (s.hold (.cbar gen)).slot s.cur = some held := (State.curStrand_modCur s _).trans (by rw [ht]; rfl)
    rw [hheld]
    exact congrArg some (Strand.foldl_opened (t := held) rfl hm)
  exact wentOn_of_slot hslot rfl rfl

/-- A barrier at which every strand of the chord has arrived opens (R311). -/
theorem State.barrierCheck_of_full {st : Nat} {c : Chord} (hc : (u.station st).chord = some c)
    (hfull : c.cbarCount = c.live.length ∧ c.cbarCount ≠ 0) :
    u.barrierCheck st =
      (u.modStation st fun S => { S with chord := some { c with cbarCount := 0, cbarGen := c.cbarGen + 1 } }).barrierOpen
        c.live c.cbarGen := by
  rw [State.barrierCheck, hc]
  exact if_pos hfull

/-- The last strand of a barrier opens it and goes on with the others (R311). -/
theorem goesOn_cbar {c : Chord} (ht : s.curStrand = some t) (hl : t.loose = false) (hh : t.hold = .none)
    (hc : (s.station s.curStation).chord = some c) (hlast : c.cbarCount + 1 = c.live.length) (hm : t.tag ∈ c.live) :
    GoesOn (.cbar e) s t := by
  refine goesOn_of_issue rfl (passes_nil ht 0 e) ?_
  simp only [hl, hh, hc, Bool.false_eq_true, if_false]
  rw [State.barrierCheck_of_full (c := { c with cbarCount := c.cbarCount + 1 }) ?_ ⟨hlast, Nat.succ_ne_zero _⟩]
  · exact wentOn_barrierOpen ht hm rfl
  · rw [State.hold, State.station_congr (State.modCur_stations ..), State.station_modStation, if_pos rfl]

/-! ### The ready queue, the timer and the mailbox -/

/-- Waking the sleepers of a station leaves a strand that does not sleep. -/
theorem State.standing_wakeSleepers (ht : s.curStrand = some t) (hh : t.hold ≠ .sleep) (st : Nat) :
    (s.wakeSleepers st).standing = s.standing := by
  refine State.standing_of_curStrand ht rfl (c := t) ?_ rfl rfl
  let wake (k : Nat) (v : Strand) : Strand :=
    if stationOf k = st ∧ v.hold = .sleep ∧ (s.station st).wakes v = true then v.advance else v
  have hmap : (s.wakeSleepers st).strands = s.strands.map fun e => (e.1, wake e.1 e.2) :=
    List.map_congr_left fun e _ => by dsimp only [wake]; split <;> rfl
  have hslot : tblGet s.strands s.cur = some t := ht
  rw [State.curStrand, State.slot, hmap, tblGet_map]
  have hcur : (s.wakeSleepers st).cur = s.cur := rfl
  rw [hcur, hslot]
  simp [wake, hh]

theorem goesOn_rqpush (hh : t.hold = .none) (hp : Passes s t 0 e [.s a, .s b] [.s d]) (hlv : (s.sval t a).toNat < 4) :
    GoesOn (.rqpush d a b e) s t := by
  refine goesOn_of_issue rfl hp ?_
  dsimp only
  rw [if_neg (by simp [bits_eq_zero (lo := 2) hlv])]
  split
  · exact wentOn_advance hp.1 (s.standing_putS ..)
  · split
    · exact wentOn_advance hp.1 (s.standing_putS ..)
    · refine wentOn_advance hp.1 ((State.standing_putS ..).trans ((State.standing_wakeSleepers (t := t) ?_ (by simp [hh]) _).trans ?_))
      · exact hp.1
      · exact s.standing_modStation ..

theorem goesOn_rqpop (hp : Passes s t 0 e [.s a] [.s d]) (hm : (s.sval t a).toNat < 16) : GoesOn (.rqpop d a e) s t := by
  refine goesOn_of_issue rfl hp ?_
  dsimp only
  rw [if_neg (by simp [bits_eq_zero (lo := 4) hm])]
  split
  · exact wentOn_advance hp.1 (s.standing_putS ..)
  · exact wentOn_advance hp.1 ((State.standing_putS ..).trans (s.standing_modStation ..))

theorem goesOn_tmrset (hp : Passes s t 0 e [.s a] [.s d]) (hn : (s.sval t a).toNat < 2 ^ 32) : GoesOn (.tmrset d a e) s t := by
  refine goesOn_of_issue rfl hp ?_
  dsimp only
  rw [if_neg (by simp [bits_eq_zero hn])]
  exact wentOn_advance hp.1 ((State.standing_modCur (by simp) _).trans (s.standing_putS ..))

/-- MRECV that peeks answers at once (R315). -/
theorem goesOn_mrecv_peek (hp : Passes s t 0 e [.s a] [.s d]) (ho : s.sval t a = 1) : GoesOn (.mrecv d a e) s t := by
  refine goesOn_of_issue rfl hp ?_
  dsimp only
  rw [ho, if_neg (by decide), if_pos (by decide)]
  exact wentOn_advance hp.1 (s.standing_putS ..)

/-! ### Privileged instructions -/

theorem goesOn_of_privIssue {srcs dsts : List Opnd} {f : Strand → State} (hpriv : t.priv = true)
    (hi : exec i s = s.privIssue e srcs dsts f) (hp : Passes s t 0 e srcs dsts) (hf : WentOn (f t) s.cur t) : GoesOn i s t := by
  refine goesOn_of_issue (hi.trans ?_) hp hf
  simp [State.privIssue, hp.1, hpriv]

theorem wentOn_sendS (ht : s.curStrand = some t) (d : SReg) (r : Req) : WentOn (s.sendS t d r) s.cur t := by
  unfold State.sendS
  split
  · exact wentOn_advance ht (s.standing_addReq r)
  · exact wentOn_advance ht ((State.standing_addReq ..).trans (s.standing_pendS ..))

theorem State.standing_foldl {α : Type} {f : State → α → State} (h : ∀ s x, (f s x).standing = s.standing) (l : List α) (s : State) :
    (l.foldl f s).standing = s.standing := by
  induction l generalizing s with
  | nil => rfl
  | cons x l ih => exact (ih _).trans (h s x)

/-- An empty fault buffer has no entries to replay (R364). -/
theorem Die.entries_eq_nil {D : Die} (h : ∀ j : Fin 8, D.fbuf[j] = none) : D.entries = [] := by
  have hnil : (List.finRange 8).filterMap (fun i => (D.fbuf[i]).map fun e => (i, e)) = [] :=
    List.filterMap_eq_nil_iff.2 fun i _ => by rw [h i]; rfl
  rw [Die.entries, hnil]
  rfl

theorem State.maskedReqs_eq_nil {n : Nat} (h : ∀ j : Fin 8, (s.die n).fbuf[j] = none) (m : Word) : s.maskedReqs n m = [] := by
  simp [State.maskedReqs, h]

theorem State.standing_maskedClear (s : State) (n : Nat) (m : Word) : (s.maskedClear n m).standing = s.standing := by
  refine State.standing_foldl (fun s i => ?_) _ s
  split
  · exact s.standing_modDie ..
  · rfl

/-- DTREP of a die with an empty fault buffer (R364, R378). -/
theorem State.standing_dtrep {n : Nat} (h : ∀ j : Fin 8, (s.die n).fbuf[j] = none) : (s.dtrep n).1.standing = s.standing := by
  unfold State.dtrep
  rw [Die.entries_eq_nil h]
  exact (State.standing_modDie ..).trans (State.standing_foldl (fun s _ => s.standing_modStation ..) _ s)

theorem State.sendInvs_of_noEntry (h : s.guest.dir = []) (c : Cover) (l : List Nat) : s.sendInvs c l = s := by
  induction l with
  | nil => rfl
  | cons x l ih => simp [State.sendInvs, h, ih]

/-- A DTINV that has no request in flight and no holder to tell waits for nothing (R374, R377). -/
theorem State.invalidate_idle (hreqs : s.reqs = []) (hdir : s.guest.dir = []) (hinvs : s.guest.invs = []) (c : Cover) :
    (s.invalidate c).1.standing = s.standing ∧
    (s.invalidate c).1.invDone (s.invalidate c).2.1 (s.invalidate c).2.2 = true := by
  have hflight : s.inFlight c = [] := by simp [State.inFlight, hreqs]
  simp only [State.invalidate, hflight]
  rw [State.sendInvs_of_noEntry (by exact hdir)]
  exact ⟨s.standing_modDie .., by simp [State.invDone, State.modDie, hinvs]⟩

section
variable (hpriv : t.priv = true)
include hpriv

theorem goesOn_spls (hp : Passes s t 0 e [.s a] [.s d]) : GoesOn (.spls d a e) s t := by
  refine goesOn_of_privIssue hpriv rfl hp ?_
  dsimp only
  split
  · exact wentOn_sendS hp.1 ..
  · exact wentOn_advance hp.1 (s.standing_pendS ..)

theorem goesOn_splr (hp : Passes s t 0 e [.s a] [.s d]) : GoesOn (.splr d a e) s t := by
  refine goesOn_of_privIssue hpriv rfl hp ?_
  dsimp only
  split
  · exact wentOn_sendS hp.1 ..
  · exact wentOn_advance hp.1 (s.standing_pendS ..)

theorem goesOn_commit (hp : Passes s t 0 e [.s a] [.s d]) : GoesOn (.commit d a e) s t :=
  goesOn_of_privIssue hpriv rfl hp (wentOn_advance hp.1 ((State.standing_putS ..).trans (State.standing_congr rfl rfl)))

/-- DTQRY of the status answers from the die's own registers (R379). -/
theorem goesOn_dtqry_status (hp : Passes s t 0 e [.s a] [.s d]) : GoesOn (.dtqry 3 d a e) s t :=
  goesOn_of_privIssue hpriv rfl hp (wentOn_advance hp.1 (s.standing_pendS ..))

theorem goesOn_dtrepFail (hp : Passes s t 0 e [.s a] [.s d]) (hfb : ∀ j : Fin 8, (s.die s.curDie).fbuf[j] = none) :
    GoesOn (.dtrepFail d a e) s t := by
  refine goesOn_of_privIssue hpriv rfl hp ?_
  dsimp only
  rw [State.maskedReqs_eq_nil hfb]
  exact wentOn_advance hp.1 ((State.standing_putS ..).trans (s.standing_maskedClear ..))

theorem goesOn_dtrep (hp : Passes s t 0 e [] [.s d]) (hfb : ∀ j : Fin 8, (s.die s.curDie).fbuf[j] = none) :
    GoesOn (.dtrep d e) s t :=
  goesOn_of_privIssue hpriv rfl hp (wentOn_advance hp.1 ((State.standing_putS ..).trans (State.standing_dtrep hfb)))

/-- FREEZE of a KIND that names nothing does nothing (log entry 98). -/
theorem goesOn_freeze_nothing (hp : Passes s t 0 e [.s a] []) (hk : 4 < (s.sval t a).toNat / 2 ^ 60) : GoesOn (.freeze a e) s t := by
  have hkind : 4 < bits (s.sval t a) 63 60 := by rw [bits_eq]; omega
  refine goesOn_of_privIssue hpriv rfl hp (wentOn_advance hp.1 ?_)
  split
  case h_6 => rfl
  all_goals omega

theorem goesOn_thaw_nothing (hp : Passes s t 0 e [.s a] []) (hk : 4 < (s.sval t a).toNat / 2 ^ 60) : GoesOn (.thaw a e) s t := by
  have hkind : 4 < bits (s.sval t a) 63 60 := by rw [bits_eq]; omega
  refine goesOn_of_privIssue hpriv rfl hp (wentOn_advance hp.1 ?_)
  split
  case h_6 => rfl
  all_goals omega

theorem goesOn_dtinv {scope : Nat} (hh : t.hold = .none) (hi : exec i s = s.dtinv a e scope) (hp : Passes s t 0 e [.s a] [])
    (hpkg : dtPkg (s.sval t a) = s.cfg.pkg) (hreqs : s.reqs = []) (hdir : s.guest.dir = []) (hinvs : s.guest.invs = []) :
    GoesOn i s t := by
  refine goesOn_of_privIssue hpriv hi hp ?_
  simp only [hh, hpkg, ne_eq, not_true_eq_false, if_false]
  obtain ⟨hstand, hdone⟩ := State.invalidate_idle hreqs hdir hinvs
    { die := gvaDie (s.sval t a), ctx := if scope = 2 then none else some (dtCtx (s.sval t a)),
      page := if scope = 0 then some (gvaPage (s.sval t a)) else none }
  rw [if_pos hdone]
  exact wentOn_advance hp.1 hstand

theorem goesOn_rgnw (n : BitVec 6) (hp : Passes s t 0 e [.s a, .s d] []) : GoesOn (.rgnw d a n e) s t :=
  goesOn_of_privIssue hpriv rfl hp (wentOn_advance hp.1 (s.standing_modDie ..))

theorem goesOn_puw (n : BitVec 4) (hp : Passes s t 0 e [.s a, .s d] []) : GoesOn (.puw d a n e) s t := by
  refine goesOn_of_privIssue hpriv rfl hp (wentOn_advance hp.1 ?_)
  split
  · rfl
  · exact s.standing_modStation ..

end

/-! ### Everything together -/

theorem engineAndControlInstructionsGoOn : Claims.EngineAndControlInstructionsGoOn := by
  intro s t a b c d e ht hh
  refine ⟨fun hl hroom => ?_, fun hl hdone => goesOn_mwait hl ht hh hdone,
    fun tr hl hp hal hgva hfree => ⟨mldw_begins hl hh hp hal hgva hfree, mldw_begins hl hh hp hal hgva hfree⟩,
    fun q hq hstage => ⟨goesOn_punbind ht hq hstage, fun hp => goesOn_pstat hp,
      fun hp hkind hres hal => goesOn_pbind hp hq hstage hkind hres hal⟩,
    fun q p hq hp => goesOn_pskip hh hq hp, fun hw => goesOn_sleep ht hw, fun hl hts => goesOn_yield ht hl hts,
    fun ch hl hc hlast _ hm => goesOn_cbar ht hl hh hc hlast hm, fun hp hlv => goesOn_rqpush hh hp hlv,
    fun hp => ⟨fun hm => goesOn_rqpop hp hm, fun hn => goesOn_tmrset hp hn, fun ho => goesOn_mrecv_peek hp ho⟩, fun hpriv => ?_⟩
  · exact ⟨goesOn_menter hl hroom ht rfl, goesOn_menter hl hroom ht rfl, goesOn_menter hl hroom ht rfl,
      fun _ => goesOn_menter hl hroom ht rfl, fun sel hp => goesOn_mstat hl hroom sel hp,
      fun hp => ⟨fun hlt hres hbp => goesOn_mcfg hl hroom hp hlt hres hbp,
        fun fmt back hlt hal => goesOn_mdrain hl hroom fmt back hp hlt hal⟩,
      fun va vb n hp hmx hn => goesOn_mstep hl hroom hp hmx hn⟩
  · refine ⟨fun hp => ⟨goesOn_spls hpriv hp, goesOn_splr hpriv hp, goesOn_commit hpriv hp, goesOn_dtqry_status hpriv hp,
        fun hfb => goesOn_dtrepFail hpriv hp hfb⟩, fun hp hfb => goesOn_dtrep hpriv hp hfb, fun hp => ⟨fun hk => ?_, ?_⟩,
      fun n hp => goesOn_rgnw hpriv n hp, fun n hp => goesOn_puw hpriv n hp⟩
    · exact ⟨goesOn_freeze_nothing hpriv hp hk, goesOn_thaw_nothing hpriv hp hk⟩
    · exact fun hpkg hreqs hdir hinvs => ⟨goesOn_dtinv hpriv hh rfl hp hpkg hreqs hdir hinvs,
        goesOn_dtinv hpriv hh rfl hp hpkg hreqs hdir hinvs, goesOn_dtinv hpriv hh rfl hp hpkg hreqs hdir hinvs⟩

/-- Settles O54: `exec` answers for every instruction and event, a step does while the device runs, and the instructions named go on. -/
theorem nothingStops : Obligations.NothingStops :=
  ⟨answersNext, vectorInstructionsGoOn, vectorConversionsAndMemoryGoOn, engineAndControlInstructionsGoOn⟩

end Sys2Proof.Machine
end
